-- ==== Sys2Proof/Word.lean ====
section
/-! DEFINITION. Bytes and the plainest arithmetic on them: most-significant-first numbers (R11), wrapping
and saturating counters, two's complement. -/

namespace Sys2Proof

/-- One byte. -/
abbrev Byte := BitVec 8

/-- Bytes in order. -/
abbrev Bytes := List Byte

/-- The number that bytes spell, most significant byte first (R11). -/
def beNat (bs : Bytes) : Nat := bs.foldl (fun n b => n * 256 + b.toNat) 0

/-- `n` spelled in `w` bytes, most significant byte first (R11). (DEDUCED, log 11) -/
def toBE : Nat → Nat → Bytes
  | 0, _ => []
  | w + 1, n => BitVec.ofNat 8 (n / 256 ^ w) :: toBE w n

/-- `n` spelled in `w` bytes, least significant byte first (R453). (DEDUCED, log 11) -/
def toLE : Nat → Nat → Bytes
  | 0, _ => []
  | w + 1, n => BitVec.ofNat 8 n :: toLE w (n / 256)

/-- The number that bytes spell, least significant byte first (R453). -/
def leNat : Bytes → Nat
  | [] => 0
  | b :: bs => b.toNat + 256 * leNat bs

/-- A number kept in `w` bits, wrapping. -/
def wrap (w n : Nat) : Nat := n % 2 ^ w

/-- The signed reading of a number kept in `w` bits in two's complement. -/
def signed (w n : Nat) : Int :=
  let m := n % 2 ^ w
  if 2 * m < 2 ^ w then (m : Int) else (m : Int) - (2 ^ w : Nat)

/-- An integer kept in `w` bits in two's complement. -/
def unsigned (w : Nat) (i : Int) : Nat := (i % ((2 ^ w : Nat) : Int)).toNat

/-- The bits `hi` down to `lo` of a number (R10). -/
def bitsOf (hi lo n : Nat) : Nat := (n / 2 ^ lo) % 2 ^ (hi + 1 - lo)

/-- Bit `i` of a number (R10). -/
def bitOf (i n : Nat) : Bool := n.testBit i

/-- `n` with bit `i` set or cleared. -/
def putBit (i : Nat) (v : Bool) (n : Nat) : Nat :=
  if n.testBit i then (if v then n else n - 2 ^ i) else (if v then n + 2 ^ i else n)

/-- `n` divided by `d`, rounded up (`0` for `d = 0`). -/
def ceilDiv (n d : Nat) : Nat := (n + d - 1) / d

/-- `n` rounded up to a multiple of `d`. -/
def roundUp (n d : Nat) : Nat := ceilDiv n d * d

/-- The elements of a list, each once, in the order in which they first stand. -/
def distinct {α : Type} [BEq α] (l : List α) : List α := l.foldl (fun a x => if a.contains x then a else a ++ [x]) []

end Sys2Proof
end

