-- ==== Sys2Proof/Syntax.lean ====
section
/-! DEFINITION. The commands of the module: one constructor per row of the table of operations and events
(95_what_each_step_holds.md), with what the step takes from outside as operands. -/

namespace Sys2Proof

/-- A WKP datagram: the header fields of Table 3.3, the payload, and its GCM tag (R107, R124). -/
structure Dgram where
  magic   : Byte := 0x5A
  version : Byte := 3
  type    : Byte
  flags   : BitVec 8 := 0
  session : BitVec 32 := 0
  pn      : BitVec 48 := 1
  ack     : BitVec 48 := 0
  sack    : BitVec 32 := 0
  credit  : BitVec 32 := 0
  tag     : BitVec 32 := 0
  frag    : BitVec 32 := 0
  msgLen  : BitVec 32 := 0
  payload : Bytes := []
  /-- the GCM tag behind the payload, when SECURED is set; `payload` is then what the ciphertext decrypts to -/
  gcm     : BitVec 128 := 0
deriving DecidableEq, Repr

/-- A WKP datagram as the parser takes it: where and from whom it arrived (R49, R130, R447). (DESIGN CHOICE, log 45) -/
structure Rx where
  /-- the port it counts as received on (R447), 0–5 for P1–P6, 6 for PS -/
  port     : Fin 7
  /-- the port whose connector carried it: the covering port under takeover, else the same -/
  physical : Fin 7
  /-- VLAN id, 0 for untagged and priority-tagged frames (R49) -/
  vlan     : BitVec 12 := 0
  /-- priority code point, when the frame is tagged -/
  pcp      : Option (Fin 8) := none
  udp      : BitVec 16 := 7311
  ipv6     : Bool := false
  src      : BitVec 128
  srcPort  : BitVec 16
  /-- the module's address that it was sent to (R118) -/
  dst      : BitVec 128 := 0
  /-- the link-layer address that it came from (R418) -/
  link     : BitVec 48 := 0
  dg       : Dgram
deriving DecidableEq, Repr

/-- Whom a request that belongs to no session comes from: link-layer address, VLAN and PCP, IP address, and the module's address
that it was sent to (R416, R418). (DESIGN CHOICE, log 45) -/
structure Asker where
  link : BitVec 48 := 0
  vlan : BitVec 12 := 0
  pcp  : Option (Fin 8) := none
  src  : BitVec 128 := 0
  dst  : BitVec 128 := 0
  /-- the request is for an address of the port that the receiving port covers (R446) -/
  forPartner : Bool := false
deriving DecidableEq, Repr

/-- An echo request: the bytes of its frame, and whom it comes from (R422). (DESIGN CHOICE, log 45) -/
structure Echo where
  bytes : Nat
  asker : Asker := {}
deriving DecidableEq, Repr

/-- What the destination address of a frame is (Table 11.3, check 4). -/
inductive Dest where
  | own | partner | broadcast | ptpMulticast | solicitedNode | otherMulticast | otherUnicast
deriving DecidableEq, Repr

/-- What a frame carries (Table 11.3, checks 6, 9; R103). -/
inductive Carried where
  | wkp (udp : BitVec 16) (prio : Fin 8)
  | ptpEvent | ptpGeneral | arp | neighbour | echo | otherIp | otherEtherType
deriving DecidableEq, Repr

/-- A frame at a port's pins, by the properties that the receive checks of Table 11.3 ask about. (DESIGN CHOICE, log 45) -/
structure Frame where
  phyError   : Bool := false
  fcsOk      : Bool := true
  /-- bytes, destination address to FCS -/
  len        : Nat
  /-- a MAC control frame: `some true` PFC, `some false` PAUSE -/
  control    : Option Bool := none
  dest       : Dest := .own
  tagged     : Bool := false
  vlan       : BitVec 12 := 0
  pcp        : Fin 8 := 0
  carried    : Carried
  ipv6       : Bool := false
  ipDestOk   : Bool := true
  ipPartner  : Bool := false
  ipExtras   : Bool := false
  ipCsumOk   : Bool := true
  udpCsumOk  : Bool := true
deriving DecidableEq, Repr

/-- What the certificate and signature of a FINISH are found to be (R126, R127). -/
structure CertCheck where
  p521Chain       : Bool := true
  /-- the trust anchor 1–16 that the chain reaches, if any -/
  anchor          : Option (Fin 17) := some 1
  intermediates   : Nat := 1
  keyUsageOk      : Bool := true
  criticalExtOk   : Bool := true
  /-- the time, as a DT, at which the last of the validity periods of the chain begins, and at which the first of them ends -/
  validFrom       : BitVec 64 := 0
  validTo         : BitVec 64 := 0xFFFFFFFFFFFFFFFF
  /-- first 8 bytes of the leaf's SHA-512 fingerprint -/
  fingerprint     : BitVec 64 := 1
  /-- the digest that the FINISH signature is a signature of under the leaf's key; 0 where it is one of none -/
  signs           : BitVec 512 := 0
  /-- the chain reaches the Brynmeine service anchor (Table 12.2) -/
  serviceAnchor   : Bool := false
deriving DecidableEq, Repr

/-- An OD access path (R41, Table 12.2). -/
inductive Path where
  | sdo (net : Fin 2)
  | wkp (context : Fin 32768)
  | supervisor
deriving DecidableEq, Repr

/-- A wake source of DROWSE (Table 5.8). -/
inductive Wake where
  | ign | tc10 (port : Fin 7) | can (net : Fin 2)
deriving DecidableEq, Repr

/-- The regions of Table 7.2. -/
inductive LpddrRegion where
  | pageCache | directory (bucket : Fin 16777216) | context (c : Fin 32768) | matcher | working (ope : Fin 36) | supervisor
deriving DecidableEq, Repr

/-- An LPDDR error: uncorrectable in a region, or more than 1,000 corrected in one hour (R302). -/
inductive LpddrFault where
  | uncorrectable (r : LpddrRegion)
  | correctedRate
deriving DecidableEq, Repr

/-- What patrol finds at a page (R278, R280). -/
inductive PatrolResult where
  | good (correctedBits : Nat)
  | softOrRetry
  | beyondDecoder (parityRebuilds : Bool)
deriving DecidableEq, Repr

/-- How a unit's store reload ends (R587, R588, R590). -/
inductive StoreUnit where
  | ope (e : Fin 36)
  | msq (c : Fin 16)
deriving DecidableEq, Repr

/-- A PTP message about peer delay (R371, R438). -/
inductive PdelayMsg where
  | request (seqId : BitVec 16)
  | response (seqId : BitVec 16)
  | followUp (delayNs : Int)
deriving DecidableEq, Repr

/-- The role that the best-master algorithm gives a port (Table 11.10). -/
inductive PtpRole where
  | disabled | master | slave | passive
deriving DecidableEq, Repr

/-- A fatal cause (Table 16.8). -/
inductive FatalCode where
  | threeChecks | sequencerState | slotRegisters | journalCheck | pauseOverrun
deriving DecidableEq, Repr

/-- What the scrubber finds at an entry (Table 8.3). -/
inductive ScrubResult where
  | equal
  | tileBad (readsBack : Bool)
  | shadowBad
  | bothBad
deriving DecidableEq, Repr

/-- An ATTACH by its two fields (R495). -/
structure AttachMsg where
  supervisorEpoch : BitVec 32
  knownEe : BitVec 32
deriving DecidableEq, Repr

/-- A supervisor register access (R490). -/
structure SeamAccess where
  address  : BitVec 64
  write    : Bool
  value    : BitVec 64
  /-- the access is to the supervisor partition; otherwise to an engine register -/
  partition : Bool
  /-- the register is in the supervisor-writable part of the register space -/
  writable : Bool
  /-- the register holds key material -/
  keyMaterial : Bool
deriving DecidableEq, Repr

/-- What the module finds about itself at a start (R282, R527, R544, R585, R400–R404). (DESIGN CHOICE, log 31) -/
structure StartFindings where
  /-- the hem band's commit record is durable and valid -/
  hemValid        : Bool := true
  /-- the hem band's chunks all verify (R396) -/
  hemIntact       : Bool := true
  /-- bit i of Table 15.5 is set when its stored state is not valid -/
  historyInvalid  : BitVec 9 := 0
  pufOk           : Bool := true
  keyCopyA        : Bool := true
  keyCopyB        : Bool := true
  configA         : Bool := true
  configB         : Bool := true
  liningOk        : Bool := true
  coresPass       : BitVec 10 := 0x3FF
  /-- the SHA-512 units that pass their known-answer test (R300) -/
  shaPass         : BitVec 5 := 0x1F
  /-- the physical matcher tiles that pass their built-in self-test (R344) -/
  tilesPass       : BitVec 9 := 0x1FF
  physPass        : BitVec 7 := 0x7F
  /-- the signatures of the ENG and MSQ parts verify, and so do the tags of their chunks (R585 steps 1, 3) -/
  patchSigned     : Bool := true
  patchTags       : Bool := true
  /-- the plaintext of the ENG and MSQ parts: slot records (Table 17.5); empty where the image carries no patches -/
  engPatches      : Bytes := []
  msqPatches      : Bytes := []
  /-- units whose store does not read back after a second fill (R587) -/
  badOpeStores    : BitVec 36 := 0
  badMsqStores    : BitVec 16 := 0
  diesWarm        : Bool := true
  newMirrorFormed : Bool := true
deriving DecidableEq, Repr

/-- The commands: one constructor per row of the table, in its order but for six that stand last. -/
inductive Instr where
  -- key-value commands, each executing the command held in a task slot
  | put (slot : Fin 512)
  | cput (slot : Fin 512)
  | get (slot : Fin 512) (badChunk : Option Nat)
  | getmeta (slot : Fin 512)
  | delete (slot : Fin 512)
  | cdelete (slot : Fin 512)
  | list (slot : Fin 512)
  | xopenRead (slot : Fin 512)
  | xopenWrite (slot : Fin 512)
  | xwrite (slot : Fin 512)
  | xappend (slot : Fin 512)
  | xread (slot : Fin 512) (badByte : Option Nat)
  | xpunch (slot : Fin 512)
  | xclose (slot : Fin 512)
  | truncate (slot : Fin 512)
  | cadd (slot : Fin 512)
  | cbadd (slot : Fin 512)
  | cread (slot : Fin 512)
  | creadreset (slot : Fin 512)
  | cset (slot : Fin 512)
  | hold (slot : Fin 512)
  | unhold (slot : Fin 512)
  | tokenQuery (slot : Fin 512)
  | tokenEditInsert (slot : Fin 512)
  | tokenEditReplace (slot : Fin 512)
  | tokenEditRemove (slot : Fin 512)
  | sealRead (slot : Fin 512)
  | noticeSubscribe (slot : Fin 512)
  | barrier (slot : Fin 512)
  | flush (slot : Fin 512)
  | fenceClear (slot : Fin 512)
  | ping (slot : Fin 512)
  | odRead (slot : Fin 512)
  | odWrite (slot : Fin 512)
  -- the sequencer
  | commandBind (slot : Fin 512)
  | commandDispatch (slot : Fin 512) (ope : Fin 36)
  | dispatchAgeExpiry (slot : Fin 512)
  | longRoutineStep (slot : Fin 512)
  | flushDone (slot : Fin 512)
  | parityRetryDone (slot : Fin 512) (verifies : Bool)
  | responseHoldExpiry (context : Fin 32768) (tag : BitVec 32)
  -- frames, sessions and datagrams
  | frameReceive (port : Fin 7) (f : Frame)
  | hello (rx : Rx)
  | resume (rx : Rx)
  | finish (rx : Rx) (cert : CertCheck)
  | commandDatagram (rx : Rx)
  | ackReceived (rx : Rx)
  | closeReceived (rx : Rx)
  | handshakeTimeoutExpiry (context : Fin 32768)
  | idleTimeoutExpiry (context : Fin 32768)
  | resumeWindowExpiry (context : Fin 32768)
  | gapTimeoutExpiry (slot : Fin 512)
  | reassemblyTimeoutExpiry (slot : Fin 512)
  | ackDelayExpiry (context : Fin 32768)
  | cookieRotation
  | cursorIdleExpiry (cursor : BitVec 64)
  | creditRecompute
  -- service pause and power states
  | serviceReset (path : Path) (value : Byte)
  | servicePauseDrained
  | servicePauseReopen (pauseUs : BitVec 32)
  | servicePauseOverrun
  | hushEntry
  | hushExit
  | dozeEntry
  | dozeExit
  | drowsePhase1
  | drowsePhase2
  | drowseCommit
  | drowseWake (source : Wake)
  -- flash translation
  | rowLineProgram (bin : Fin 37)
  | rowLineProgrammed (stripe : Fin 2048) (failed : Option (Fin 640 × BitVec 16))
  | drainIdleExpiry
  | binIdleExpiry (bin : Fin 32)
  | binWidthWrite (path : Path) (seconds : BitVec 32)
  | collectionStart
  | collectCopyDurable (stripe : Fin 2048)
  | blockEraseDone (stripe : Fin 2048) (failed : Option (Fin 640 × BitVec 16))
  | foldStart
  | dirCheckpoint
  | patrolRead (die : Fin 160) (stripe : Fin 2048) (wordline : Fin 1024) (r : PatrolResult)
  | binSizingRecompute (peakBytesPerSecond : Nat)
  | trackerSave
  | dieResetTimeout (die : Fin 160)
  | gussetStripeRebuilt (stripe : Fin 2048)
  | channelLost (channel : Fin 16)
  -- health and faults
  | healthEvaluation
  | sramRowRepair (bank : Fin 26) (row : BitVec 16)
  | pocketLineUncorrectable (group : BitVec 17) (secondLine : Bool)
  | katTimer (failedCores : BitVec 10) (failedSha : BitVec 5) (liningOk : Bool)
  | scapMeasurement (capMf : List (BitVec 16)) (esrMohm : List (BitVec 14)) (usableMj : BitVec 16)
  | phaseImbalance (rail : BitVec 8) (phase : BitVec 8)
  | lpddrError (channel : Fin 8) (e : LpddrFault)
  | stepTimerOverrun (ope : Fin 36)
  | opeParityError (ope : Fin 36) (store : Fin 2) (address : BitVec 14)
  | msqParityError (channel : Fin 16) (address : BitVec 13)
  | storeReloadDone (unit : StoreUnit) (readsBack : Bool)
  | incidentAssert
  | incidentRelease
  | incidentAfterExpiry
  -- seals, time, DRBG
  | sealIntervalExpiry (ns : BitVec 12)
  | sealSigned (ns : BitVec 12)
  | ptpSync (port : Fin 6) (offsetNs : Int)
  | ptpPdelay (port : Fin 6) (m : PdelayMsg)
  | pdelayIntervalExpiry (port : Fin 6)
  | ppsEdge (offsetNs : Int) (agreesWithLast : Bool)
  | canTime (net : Fin 2) (offsetNs : Int)
  | holdoverStart
  | holdoverLimitExpiry
  | ppsOutPulse
  | clkRefLost
  | clkRefRestored (holdoverMs : BitVec 32)
  | drbgReseed
  | drbgHalt (adaptive : Bool)
  -- ports
  | linkUp (port : Fin 7) (speed : Fin 6)
  | linkDown (port : Fin 7)
  | macSpeedFallback (port : Fin 7) (speed : Fin 6)
  | speedRemovalExpiry (port : Fin 7) (speed : Fin 6)
  | pauseReceived (port : Fin 7) (quanta : BitVec 16)
  | pfcReceived (port : Fin 7) (vector : BitVec 8) (times : List (BitVec 16))
  | pauseTimerExpiry (port : Fin 7) (queue : Fin 8)
  | macPauseWdog (port : Fin 7) (queue : Fin 8)
  | rxBufferXoff (port : Fin 7) (prio : Fin 8)
  | rxBufferXon (port : Fin 7) (prio : Fin 8)
  | pauseRepeat (port : Fin 7) (prio : Fin 8)
  | frameTransmitDone (port : Fin 7)
  | arpRequest (port : Fin 7) (asker : Asker) (ipv6 : Bool)
  | icmpEcho (port : Fin 7) (ipv6 : Bool) (echo : Echo)
  | macTc10Wake (port : Fin 7)
  | takeoverDelayExpiry (port : Fin 7)
  | takeoverAnnounceRepeat (port : Fin 7)
  | takebackDelayExpiry (port : Fin 7)
  | tsqAgeExpiry (port : Fin 7)
  | portTsqRead (path : Path) (port : Fin 7)
  | portStatsClear (path : Path) (port : Fin 7) (sub : Fin 53) (value : BitVec 32)
  | portConfigWrite (path : Path) (port : Fin 7) (offset : Fin 16) (sub : Byte) (value : Bytes)
  -- CAN
  | nmtStart (net : Fin 2) (node : Byte)
  | nmtStop (net : Fin 2) (node : Byte)
  | nmtEnterPreOperational (net : Fin 2) (node : Byte)
  | nmtResetNode (net : Fin 2) (node : Byte)
  | nmtResetCommunication (net : Fin 2) (node : Byte)
  | sdoDownloadInitiate (net : Fin 2) (index : BitVec 16) (sub : Byte) (size : Option (BitVec 32)) (block : Bool) (expedited : Bytes)
  | sdoUploadInitiate (net : Fin 2) (index : BitVec 16) (sub : Byte)
  | sdoSegment (net : Fin 2) (data : Bytes) (last : Bool) (crcOk : Bool)
  | sdoAbortReceived (net : Fin 2)
  | sdoTimeout (net : Fin 2)
  | sync (net : Fin 2)
  | rpdo (net : Fin 2) (number : Fin 4) (data : Bytes)
  | tpdoSample (net : Fin 2)
  | tpdoEventTimer (net : Fin 2) (number : Fin 8)
  | heartbeatTimer (net : Fin 2)
  | emcyInhibitExpiry (net : Fin 2)
  | canErrorPassive (net : Fin 2) (tec : Byte) (rec : Byte)
  | canBusOffRecovery (net : Fin 2)
  | canRxOverrun (net : Fin 2) (lost : Nat)
  | canWakeFrame (net : Fin 2) (ident : BitVec 11) (dlc : Fin 9) (data : BitVec 64)
  | lssSwitchState (net : Fin 2) (configure : Bool) (address : Option (List (BitVec 32)))
  | lssConfigureNodeId (net : Fin 2) (node : Byte)
  | lssConfigureBitTiming (net : Fin 2) (table : Byte) (index : Byte)
  | lssActivateBitTiming (net : Fin 2) (delayMs : BitVec 16)
  | lssStoreConfiguration (net : Fin 2)
  | lssInquire (net : Fin 2) (what : Fin 5)
  | lssFastscan (net : Fin 2) (ident : BitVec 32) (bitCheck : Byte) (sub : Fin 4) (next : Fin 4)
  -- supply, start-up, discrete lines
  | inputValid (f : StartFindings)
  | inputLost (inputMv : BitVec 32)
  | rideThroughExpiry
  | bankAtReserve
  | hemComplete (tenthsMs : BitVec 16) (energyMj : BitVec 16)
  | supplyCapChange (inputMv : BitVec 16)
  | chargerThreshold (bankMj : BitVec 16)
  | supplyOvervoltage (peakMv : BitVec 32) (durationMs : BitVec 32)
  | overvoltageTimeout
  | supplyReverse (pinB : Bool) (otherSupplies : Bool) (depthMv : BitVec 32)
  | thermalSample (baseplate : Int) (engine : Int) (supervisor : Int)
  | thermalResumed (stoppedSeconds : BitVec 32)
  | coldStart (waitMs : BitVec 32)
  | humiditySample (percent : Byte)
  | shockDetected (tenthsG : BitVec 16)
  | ignChange (active : Bool)
  | wakeOutPulseEnd
  | intakeOpen (msSinceT0 : BitVec 32)
  | directoryLoaded (msSinceT0 : BitVec 32)
  -- the Seam and the supervisor
  | attachStartTimeout
  | seamLost
  | attach (m : AttachMsg) (lossMs : BitVec 32)
  | attachRetry
  | orphanReplace
  | seamRegisterAccess (a : SeamAccess)
  | seamSlotSubmit (supTag : BitVec 32) (body : Bytes)
  | seamEventMessage
  | seamDegraded (lanes8 : Bool) (rate8 : Bool)
  | supWatchdogExpiry
  | supSlotTimeout (slot : Fin 512)
  | intakeHeartbeatStall
  -- events, recorder, counters, dump
  | eventRaise (source : Byte) (params : List (BitVec 32))
  | eventRateWindow
  | recorderFlushTimer
  | recFreeze (path : Path)
  | recThaw (path : Path)
  | recFreezeExpiry
  | recRead (path : Path)
  | recMirrorFail (mirror : Fin 2) (die : Fin 160)
  | recFaultClear (path : Path)
  | eventTest (path : Path) (value : BitVec 32)
  | perfSelect (path : Path) (counter : Fin 65) (event : Byte)
  | perfCounterWrap (counter : Fin 65)
  | engFatal (code : FatalCode)
  | orphanFatalReset
  | dumpRequest (path : Path) (value : BitVec 32)
  | dumpTaken (lengthKib : BitVec 32)
  -- administration
  | nsDefine (path : Path)
  | sanitiseRequest (path : Path) (value : BitVec 32)
  | sanitiseStep
  | formatRequest (path : Path) (value : BitVec 32)
  | attestNonce (path : Path) (nonce : Bytes)
  | listDefine (path : Path) (listId : BitVec 16)
  | listDelete (path : Path)
  | matchEnableWrite (path : Path) (value : BitVec 64)
  -- matcher moves and repair
  | tuckHoleOpen (slot : Fin 512)
  | tuckCloseUp (list : Fin 64)
  | repleat (list : Fin 64)
  | matchScrub (address : Fin 131072) (r : ScrubResult)
  | matchTileSpared (logical : Fin 8)
  | matchCapacityLost (logical : Fin 8)
  -- OD writes without a behaviour of their own
  | odEntryWrite (path : Path) (index : BitVec 16) (sub : Byte) (value : Bytes)
  | preDefinedErrorFieldClear (path : Path)
  -- firmware update
  | fwBegn (path : Path)
  | fwImageWrite (path : Path) (offset : BitVec 64) (data : Bytes) (signatureOk : Bool)
  | fwVrfy (path : Path) (failStep : Option (Fin 6 × Fin 7))
  | fwActv (path : Path)
  | fwActivationPause (failedParts : BitVec 6)
  | fwConf (path : Path)
  | fwAbrt (path : Path)
  | fwSelftestFail (part : Fin 7)
  -- rows at the table's end
  | valueExpiry (ns : BitVec 12) (key : Bytes)
  | binQuantumEnd (bin : Fin 32)
  | sealLag (ns : BitVec 12) (waitMs : BitVec 32)
  | canBusOff (net : Fin 2)
  | canErrorActive (net : Fin 2)
  | pauseWdogIgnoreEnd (port : Fin 7)
  | recMirrorRebuilt (newDie : Fin 160)
  | lpddrMapOutCopyDone (channel : Fin 8)
  | ptpAnnounce (port : Fin 6) (role : PtpRole)
  | syncIntervalExpiry (port : Fin 6)
  | seamStateRead (path : Path)
  -- six without operands stand last: Lean compiles at most 244 constructors with operands
  | formatStep
  | drbgRestart
  | tempHistorySave
  | drowseDeferLimit
  | fwTimerRecord
  | fwConfirmWindowExpiry
deriving DecidableEq, Repr

end Sys2Proof
end

