-- ==== Sys2Proof/Decode.lean ====
section
/-! DEFINITION. Words: the table of operations and events gives none of its rows bits, so no word spells a command. -/

namespace Sys2Proof

/-- The command that a word spells by the table's bits; no row has any. -/
def decodeTableWord (_nbits _w : Nat) : Option Instr := none

end Sys2Proof
end

