-- ==== Sys2Proof/Config.lean ====
section
/-! DEFINITION. What an implementation fixes and the values the spec leaves open. Every value that the spec says
results but does not state is a constant WITHOUT a body: nothing can be proved of it but what its type says. -/

namespace Sys2Proof.Config

/-- SHA-512 (R350): the standard's function, left uninterpreted. (DESIGN CHOICE, log 4) -/
opaque sha512 : Bytes → BitVec 512

/-- The cookie secret that follows the `k`-th draw (R118); the spec gives no value. -/
opaque cookieSecret : Nat → BitVec 256

/-- The resume token issued at draw `k` (R129). -/
opaque resumeToken : Nat → BitVec 128

/-- A writer handle at draw `k`, less one: R173 says only that it is not 0. -/
opaque handlePred : Nat → Fin 4294967295

/-- A LIST cursor at draw `k`, less one: R171 says only that it is not 0. -/
opaque cursorPred : Nat → Fin 18446744073709551615

/-- An ECDSA P-521 signature over a message at draw `k` (R347: a fresh secret each time). (DESIGN CHOICE, log 4) -/
opaque signature : Bytes → Nat → BitVec 1056

/-- A namespace data key at draw `k` (R406). (DESIGN CHOICE, log 4) -/
opaque dataKey : Nat → BitVec 256

/-- The 133-byte device public key (R351, R354), made at manufacture. (DESIGN CHOICE, log 4) -/
opaque devicePublicKey : BitVec 1064

/-- The module's ephemeral P-521 key share at draw `k` (R121). (DESIGN CHOICE, log 4) -/
opaque keyShare : Nat → BitVec 1064

/-- Z: the x-coordinate of the point that the module's key share at draw `k` and the client's key share have in common
(R123). (DESIGN CHOICE, log 4) -/
opaque sharedX : Nat → Bytes → BitVec 528

/-- AES-256-GCM: the ciphertext and the tag of a plaintext, by key, nonce and additional authenticated data (R124).
(DESIGN CHOICE, log 4) -/
opaque aesGcm : BitVec 256 → BitVec 96 → Bytes → Bytes → Bytes × BitVec 128

/-- AES-256 key wrap of a 256-bit key under another: 40 bytes (Table 10.1, R404). (DESIGN CHOICE, log 4) -/
opaque aesKw : BitVec 256 → BitVec 256 → BitVec 320

/-- The PUF secret and the fuse secret (R402, R403): the spec gives no length. (DESIGN CHOICE, log 4) -/
opaque pufSecret : Bytes

/-- See `pufSecret`. (DESIGN CHOICE, log 4) -/
opaque fuseSecret : Bytes

/-- KEK_NS, KEK_SYS and MDK, drawn at manufacture, and PDK of the fuses (Table 10.6). (DESIGN CHOICE, log 4) -/
opaque kekNs : BitVec 256

/-- See `kekNs`. (DESIGN CHOICE, log 4) -/
opaque kekSys : BitVec 256

/-- See `kekNs`. (DESIGN CHOICE, log 4) -/
opaque mdk : BitVec 256

/-- CK, the context key that is drawn at the start of draw `k` (Table 10.6). (DESIGN CHOICE, log 4) -/
opaque contextKey : Nat → BitVec 256

/-- Which FREE context a new session takes, by where the search begins at draw `k` (R121). -/
opaque contextPick : Nat → Fin 32768

/-- Which FREE slot of its origin a command takes, by where the search begins at draw `k` (R198). -/
opaque slotPick : Nat → Fin 64

/-- The physical blocks of plane `k` that are not good at shipment: at most 8 of its 2,120 (R236, Table 7.1). -/
opaque badBlock : Nat → Fin 8 → Option (Fin 2120)

/-- The same, by number. -/
def badBlocks (k : Nat) : List Nat := distinct (((List.finRange 8).filterMap (badBlock k)).map (·.val))

/-- Which FREE stripe index a bin takes, by where the search begins at draw `k` (R241). -/
opaque stripePick : Nat → Fin 2048

/-- The sixteen read-level offsets that patrol finds at draw `k`: fifteen for QLC, one for one-bit mode (R279). -/
opaque trackerOffset : Nat → Fin 16 → Int

/-- The OPCODE of internal work of kind `k`, less 0x80 (Table 5.2); the spec gives the range only. -/
opaque internalOpcode : Nat → Fin 128

/-- How many values beyond the first a scan step of a hold counts at draw `k` (R219). -/
opaque scanBatch : Nat → BitVec 16

/-- RETRY_AFTER in µs, an estimate of the engine (R158, R198) that the spec does not compute. -/
opaque retryAfter : Nat → BitVec 32

/-- Which of the cores in service takes a job at draw `k`: the spec gives no assignment (R380). -/
opaque corePick : Nat → BitVec 8

/-- Whether a certificate written as a trust anchor is a CA certificate with a P-521 key (ANCHOR_STATE, Table 3.14).
(DESIGN CHOICE, log 4) -/
opaque anchorValid : Bytes → Bool

/-- The lengths of sections 1 and 8 of the dump with DUMP_SEQ `n`, at most 256 KiB and 64 KiB (Table 16.10). -/
opaque dumpRegisters : Nat → Fin 262145

/-- See `dumpRegisters`. -/
opaque dumpFtl : Nat → Fin 65537

/-- Byte `k` of the dump with DUMP_SEQ `n`, after its header: sections that the spec lays out by name only (R574). -/
opaque dumpByte : Nat → Nat → BitVec 8

/-- A word of the diagnostic window whose layout the spec does not give (R8, R482). (PRESUMED, log 43) -/
opaque diagWord : Nat → Nat → Nat → BitVec 64

/-- The SHA-512 measurement of the ROM, part 0, and of the parts of manufacture (R357). (PRESUMED, log 43) -/
opaque partMeasurement : Nat → BitVec 512

/-- The length of the module's device certificate chain, at most 6,144 (Table 3.10). -/
opaque deviceChainLength : Fin 6145

/-- Byte `k` of the module's DER device certificate chain (R352). (DESIGN CHOICE, log 4) -/
opaque deviceChainByte : Nat → BitVec 8

/-- The module's device certificate chain. -/
def deviceChain : List (BitVec 8) := (List.range deviceChainLength.val).map deviceChainByte

/-- An uninterpreted register of the engine reached over the Seam (R490). -/
opaque engineRegister : Nat → BitVec 64

/-- Counter `k` of performance event `e` at draw `k`: events whose increments the spec does not compute (R569).
(DESIGN CHOICE, log 38) -/
opaque perfIncrement : Nat → Nat → BitVec 48

/-- Whether the Pocket entry of a record lies in a line group: the spec gives no layout within the areas (R212). -/
opaque entryInGroup : Nat → Nat → Bool

/-- Whether an op engine uses a task-slot bank as working storage: the spec gives no assignment (R299). -/
opaque engineUsesBank : Nat → Nat → Bool

/-- FREQ_OFFSET after the measurement at draw `k`: the servo's estimate, which the spec does not compute (R373). -/
opaque freqOffset : Nat → BitVec 32

/-- The rated ESR of a supercapacitor cell in mΩ (R301); the spec gives no figure. -/
opaque ratedEsr : BitVec 14

/-- A figure that is measured at each read and that no rule computes: input current and power, cipher load, CRC retries,
load times (R509, R591; log 3). -/
opaque measured : Nat → BitVec 32

/-- The compatibility id of the supervisor ROM (Table 18.1). -/
opaque supRomId : BitVec 32

/-- MCODE_ROM_ID, the compatibility id of the ROM base (R591). -/
opaque mcodeRomId : BitVec 32

/-- The silicon id of the PHYs (Table 18.1). -/
opaque phySiliconId : BitVec 32

/-- Whether the signature of an image header verifies under the fused key (Table 18.6, check 3). (DESIGN CHOICE, log 4) -/
opaque headerSigned : Bytes → Bool

/-- The first step of R603 that fails for a staged image, with the part code, if one does. (DESIGN CHOICE, log 4) -/
opaque verifyOutcome : Bytes → Option (Fin 6 × Fin 7)

/-- The entries that one ODS part changes in type, range or meaning against another, by digest (R615). -/
opaque odsChanged : Nat → Nat → List Nat

/-- DSCP and ECN, identification, and time to live of an IPv4 datagram sent, 8, 16 and 8 bits, by its length (R424); the spec gives
none of them. -/
opaque ipv4Free : Nat → BitVec 32

/-- The value of an entry converted by an ODS part: digest, entry, value (R615). -/
opaque odsConvert : Nat → Nat → Nat → Nat

/-- The plaintext of an ENG or MSQ part, by DIGEST: what its decryption under PDK gives (R585). (DESIGN CHOICE, log 4) -/
opaque patchPlain : Nat → Bytes

/-- Which check of R585 a load fails at, less one, at draw `k` (R586, R608). -/
opaque rejectReason : Nat → Fin 5

/-- Bits 31 to 7 of the micro word of the ROM base at an address (R577, R578): the spec gives no ROM contents. -/
opaque romMicro : BitVec 14 → BitVec 25

/-- Bits 191 to 8 of the nanoword of the ROM base at an address (R579). -/
opaque romNano : BitVec 11 → BitVec 184

/-- Bits 135 to 10 and bit 0 of the sequencer microword of the ROM base at an address (R580). -/
opaque romSeq : BitVec 13 → BitVec 127

/-- What a value of CTL_OP selects (R578), in the order of its sentence; the spec gives no encoding. -/
opaque ctlKind : BitVec 4 → Fin 7

/-- Whether one of the 32 engine conditions holds at draw `k` (R578). -/
opaque condition : BitVec 5 → Nat → Bool

/-- The micro address to which a dispatch on OPCODE goes (R578). -/
opaque routineEntry : BitVec 8 → BitVec 14

/-- The length of a pause in µs, measured at draw `k` (R606, R614). -/
opaque pauseUs : Nat → BitVec 32

end Sys2Proof.Config
end

