-- ==== Sys2Proof/Machine/State.lean ====
section
/-! DEFINITION. The state of the module as plain data: everything the spec gives it, by chapter. Values of object
dictionary entries stand in `OdState.vals` under their own index (chapter 12); what has more structure has a group. -/

namespace Sys2Proof.Machine

/-- A table keyed by numbers, its keys strictly rising; what is not listed has the table's own default. -/
abbrev SMap (α : Type) := List (Nat × α)

/-- The stamp of a command or record (R13, R56). -/
structure Stamp where
  te  : Nat := 0
  dt  : Nat := 0
  csn : Nat := 0
deriving DecidableEq, Repr

/-- The capacity grades (Table 0.1). -/
inductive Grade where
  | t60 | t40 | t20
deriving DecidableEq, Repr

/-- What is fixed at manufacture (R4, R415, R484). -/
structure Hardware where
  grade         : Grade := .t60
  extended      : Bool := false
  serial        : Nat := 0
  macBase       : Bytes := [0, 0, 0, 0, 0, 0]
  hardwareIssue : Bytes := []
  manufactureDt : Nat := 0
deriving DecidableEq, Repr

/-- Why an OD access is refused: the rows of Table 12.5 and the mapping refusals of R472. -/
inductive OdRefusal where
  | noEntry | noSub | noRead | noWrite | level | length | range | state | moment | tooLarge
  | notMappable | pdoTooLong | timeout | unknownCommand | blockCrc
deriving DecidableEq, Repr

/-- What an access path was last answered. -/
inductive OdAnswer where
  | ok (data : Bytes)
  | refused (r : OdRefusal)
deriving DecidableEq, Repr

/-- Chapter 12: the object dictionary. -/
structure OdState where
  /-- values of numeric entries that differ from their defaults, by `odKey` -/
  vals    : SMap Nat := []
  /-- values of OCTET_STRING, VISIBLE_STRING and DOMAIN entries that differ from empty or zero -/
  blobs   : SMap Bytes := []
  /-- the last answer on each path, by `Path.code` (the model's own) -/
  answers : SMap OdAnswer := []
  /-- entries held in two formats during an activation (R615, R616), by `odKey`: the value of the format not in force -/
  twoFormat : SMap Nat := []
  /-- networks whose defaults are to be restored at the next reset communication (Table 12.10, 0x1011) -/
  restoreDefaults : List Nat := []
  /-- the values that the last directory checkpoint saved (R456) -/
  saved   : SMap Nat := []
deriving DecidableEq, Repr

/-- The source of device time (Table 9.5, 0x2930). -/
inductive TimeSource where
  | free | pps | ptp
deriving DecidableEq, Repr

/-- Chapters 9 and 15: clocks and device time. -/
structure ClockState where
  /-- ticks of CLK_TIME since the model began (R532) -/
  ticks        : Nat := 0
  dt           : Nat := 0
  te           : Nat := 0
  expiry       : Nat := 0
  running      : Bool := false
  source       : TimeSource := .free
  holdover     : Bool := false
  /-- consecutive measurements with a small offset (R374) -/
  streak       : Nat := 0
  /-- consecutive agreeing PPS edges outside 1 ms (R372) -/
  ppsAgree     : Nat := 0
  /-- a TIME message has been received since the last PPS edge: it names the second that the next edge marks (R372) -/
  canTimeFresh : Bool := false
  /-- the offset still to be slewed (R373) -/
  slew         : Int := 0
  /-- what has been slewed of the next nanosecond, in 10^-6 ns (the model's own) -/
  slewRem      : Nat := 0
  /-- the tick of the last PPS_OUT pulse, and whether DT has stepped since (R377) -/
  ppsOutLast   : Option Nat := none
  ppsStepped   : Bool := false
  /-- a Sync has been applied since the last PPS edge (R374) -/
  syncSince    : Bool := false
  /-- the always-on timekeeper's DT (R551) -/
  timekeeper   : Option Nat := none
deriving DecidableEq, Repr

/-- Task slot states (Table 5.2). -/
inductive SlotState where
  | free | filled | bound | executing | retiring
deriving DecidableEq, Repr

/-- Work that internal slots carry (Table 5.1, Table 5.6). -/
inductive Routine where
  | collection (stripe : Nat) | fold (stripe : Nat) | release (csn : Nat) | holdScan (csn : Nat)
  | seal (ns : Nat) | sanitise (ns : Nat) | format | gusset | closeUp (list : Nat) | repleat (list : Nat) | patrol
  /-- the verification of a firmware image (R603) -/
  | verify
deriving DecidableEq, Repr

/-- The parameters of a namespace (Table 2.1) as a command finds them when it is bound (R46). -/
structure NsParams where
  state       : Nat := 0
  kinds       : Nat := 7
  writeOnce   : Bool := false
  isSealed    : Bool := false
  counterMode : Nat := 1
  quotaBytes  : Nat := 0
  quotaKeys   : Nat := 0
  essential   : Bool := false
  incident    : Bool := false
  /-- FOLD_THRESHOLD at binding (R245) -/
  threshold   : Nat := 1048576
deriving DecidableEq, Repr

/-- A hold of the INCIDENT input that is to be placed (R255 to R257). -/
structure IncidentHold where
  /-- D of its assertion -/
  dt   : Nat
  /-- TO_DT of a second hold; none for the hold of the assertion itself -/
  toDt : Option Nat
  /-- the tick of CLK_TIME at the assertion -/
  tick : Nat
  /-- the namespaces that it covers and its window in seconds, as they stood at its binding (R46, R255) -/
  covers : List Nat := []
  window : Nat := 0
deriving DecidableEq, Repr

/-- What an EXECUTING slot waits for. -/
inductive Waiting where
  /-- the parity rebuild of a failed chunk, by its data position (R391) -/
  | parity (chunk : Nat)
  /-- another op engine, after a machine check (R230) -/
  | engine
deriving DecidableEq, Repr

/-- A task slot: Table 5.2, with the message bytes received and where they came from. Words derived from the
message (OPCODE, CFLAGS, NAMESPACE, KEY_LEN, PARAM_LEN) are not stored twice. -/
structure Slot where
  state      : SlotState := .free
  ordered    : Bool := false
  timed      : Bool := false
  prio       : Nat := 0
  origin     : Nat := 0
  /-- session id; 0 for supervisor and internal work -/
  session    : BitVec 32 := 0
  context    : Nat := 0
  tag        : BitVec 32 := 0
  status     : Nat := 0
  csn        : Nat := 0
  keyHandle  : Nat := 0
  /-- Pocket bytes reserved (R199) -/
  reserved   : Nat := 0
  msgLen     : Nat := 0
  /-- fragments received, first come first: offset and bytes (R134) -/
  frags      : List (Nat × Bytes) := []
  length     : Nat := 0
  /-- expiry resolved at binding (R80); none for none -/
  expiryDt   : Option Nat := none
  result0    : Nat := 0
  result1    : Nat := 0
  /-- the access level of an OD command's path at binding (R455) -/
  level      : Nat := 0
  /-- the object that an OD command's window selected, when a selector of its path was written before the command ran (R461) -/
  window     : Option Nat := none
  /-- engine power state and health state that a PING found at binding (R191) -/
  pinged     : Nat × Nat := (0, 0)
  tsFirst    : Nat := 0
  teFirst    : Nat := 0
  tsBind     : Nat := 0
  tsDispatch : Nat := 0
  tsPublish  : Nat := 0
  te         : Nat := 0
  ope        : Option Nat := none
  mchk       : Nat := 0
  /-- op engines on which the present step took a machine check (Table 16.8) -/
  mchkOn     : List Nat := []
  step       : Nat := 0
  port       : Nat := 0
  physical   : Nat := 0
  vlan       : Nat := 0
  udp        : Nat := 7311
  /-- EXPIRY_CLOCK at binding: the read sees the state at its CSN (R165) -/
  bindClock  : Nat := 0
  /-- USER_CAPACITY would be exceeded, found at binding (R242) -/
  overCap    : Bool := false
  /-- the access list refused it at binding (R50) -/
  denied     : Bool := false
  /-- the namespace's parameters at binding (R46) -/
  params     : NsParams := {}
  /-- the execution instance of the response (R109, R137) -/
  inst       : Nat := 0
  aged       : Bool := false
  /-- the access lists as they stood when an UNHOLD was bound: the NS_ACCESS entries set, by `odKey` (R50, R181) -/
  access     : SMap Nat := []
  /-- what the step waits for (R230, R391) -/
  retry      : Option Waiting := none
  /-- the hole of a Tuck insertion: 0 none, 1 being opened, 2 open (R332) -/
  hole       : Nat := 0
  routine    : Option Routine := none
  stepsLeft  : Nat := 0
  /-- the supervisor's tag, for a submission over the Seam (R491) -/
  supTag     : Option (BitVec 32) := none
  /-- the INCIDENT hold that this slot places (R255, R256) -/
  incident   : Option IncidentHold := none
deriving DecidableEq, Repr

/-- An op engine (R230, R285, R589). -/
structure OpEngine where
  inService : Bool := true
  retired   : Bool := false
  /-- operating seconds of its machine checks, oldest first (R230) -/
  checks    : List Nat := []
  reloading : Bool := false
  slot      : Option Nat := none
  /-- micro PC, and the return addresses of the call stack, newest first (R578) -/
  pc        : BitVec 14 := 0
  calls     : List (BitVec 14) := []
deriving DecidableEq, Repr

/-- A patch slot that is laid over the ROM base: its store, 0 micro, 1 nano, 2 sequencer, and its words (Table 17.5). -/
structure PatchSlot where
  store : Nat
  start : Nat
  words : List Nat
deriving DecidableEq, Repr

/-- Chapter 5: sequencer, slots and op engines. -/
structure SeqState where
  /-- CSN_LAST: the highest CSN assigned -/
  csnLast    : Nat := 0
  /-- the first CSN that may be assigned after a start without a completed Hem (R75, R76) -/
  csnFloor   : Nat := 0
  /-- the highest block of 2^20 CSNs recorded in the register log (R76) -/
  blockHigh  : Option Nat := none
  slots      : SMap Slot := []
  engines    : SMap OpEngine := []
  /-- binding has stopped for a fatal error (R571) -/
  stopped    : Bool := false
  /-- CSNs of the FLUSH commands that run (R221) -/
  flushing   : List Nat := []
  /-- FILLED slots that meet the binding conditions, in the order in which they met them (R202) -/
  ready      : List Nat := []
  /-- those that meet them but for what they wait for in the matcher, in the order in which they came to (R334) -/
  turn       : List Nat := []
  /-- the patch slots in every unit's stores (R584, R585); what they leave is the ROM base -/
  patches    : List PatchSlot := []
  /-- words that a fetch found with bad parity: store, unit, address, until the store is reloaded (R589) -/
  spoiled    : List (Nat × Nat × Nat) := []
deriving DecidableEq, Repr

/-- A counter's overflow mode (R69). -/
inductive CtrMode where
  | wrap | saturate | refuse
deriving DecidableEq, Repr

/-- Where a record lies: the Pocket, a stripe, or lost beyond parity (R91). -/
inductive Loc where
  | pocket | flash (stripe : Nat) | lost
deriving DecidableEq, Repr

/-- A mapped byte of an extent object and the command whose fragment holds it. -/
structure ExtCell where
  addr : Nat
  byte : Byte
  frag : Nat
deriving DecidableEq, Repr

/-- A fragment of an extent object, with the stamp of the command that wrote it (R13, R242, R243). -/
structure Frag where
  csn    : Nat
  te     : Nat
  dt     : Nat
  dataLen : Nat
  placed : Nat
deriving DecidableEq, Repr

/-- What a key's version holds (R55, R95). -/
inductive Payload where
  | plain (data : Bytes)
  /-- `closed` is the CSN of the XCLOSE that marked it closed (R176) -/
  | extent (cells : List ExtCell) (length : Nat) (closed : Option Nat) (frags : List Frag)
  | counter (value : Int) (mode : CtrMode)
  | tomb
deriving DecidableEq, Repr

/-- A version of an item (R56, R211). (DESIGN CHOICE, log 27) -/
structure Version where
  ns        : Nat
  key       : Bytes
  stamp     : Stamp
  createCsn : Nat
  /-- ingress TE and DT (R56) -/
  ingress   : Option (Nat × Nat) := none
  expiry    : Option Nat := none
  payload   : Payload
deriving DecidableEq, Repr

/-- A record that is placed or waits to be: plain value, extent fragment or counter version, by its CSN, with what its header and
its chunks say (R243, R388). -/
structure Record where
  csn    : Nat
  te     : Nat
  dt     : Nat
  ns     : Nat
  /-- RTYPE (Table 6.3): 1 plain value, 2 extent fragment, 3 counter -/
  rtype  : Nat := 1
  /-- the key; a fragment's, the key of its object -/
  key    : Bytes := []
  data   : Bytes := []
  /-- ingress TE and DT -/
  ingress : Option (Nat × Nat) := none
  createCsn : Nat := 0
  /-- a fragment's offset in its object -/
  objOffset : Nat := 0
  /-- the nonce of its first chunk, once it has been encrypted -/
  nonce  : Nat := 0
  placed : Nat
  expiry : Option Nat
  loc    : Loc := .pocket
  /-- assigned to a row line of this bin -/
  bin    : Option Nat := none
  /-- DATA_LEN below FOLD_THRESHOLD at binding (R245) -/
  small  : Bool
  /-- it is being copied out of the stripe where it lies (R269, R280), and the stripe where its copy is durable -/
  moving : Bool := false
  copy   : Option Nat := none
deriving DecidableEq, Repr

/-- A hold (R82, R180). One that was released stays listed while a bound command with a lower CSN than its release remains,
since that command finds the values held (R92). -/
structure Hold where
  csn    : Nat
  covers : List Nat
  pinned : List Nat
  /-- the values that the scan has counted so far, in the order of `pinned` (Table 5.6) -/
  counted : Nat
  /-- the CSN under which it was released -/
  released : Option Nat := none
deriving DecidableEq, Repr

/-- A LIST cursor (R171, R172). -/
structure Cursor where
  ident   : Nat
  /-- the session that holds it; 0 for the supervisor -/
  session : BitVec 32
  ns      : Nat
  mode    : Nat
  lower   : Bytes
  upper   : Bytes
  last    : Bytes
deriving DecidableEq, Repr

/-- A writer handle (R60, R61), bound to a session and to one object: the one that its key held, by CREATE_CSN. One that was
released stays listed while a bound command with a lower CSN than its release remains (R92). -/
structure Writer where
  /-- the session that holds it; 0 for the supervisor -/
  session  : BitVec 32
  ns       : Nat
  key      : Bytes
  handle   : Nat
  /-- CREATE_CSN of the object -/
  object   : Nat
  /-- the CSN of the XOPEN, and the CSN under which it was released -/
  csn      : Nat
  released : Option Nat := none
deriving DecidableEq, Repr

/-- What a PUT bound before the directory is loaded counted too much: its key stood on flash, and it counted as a new one
(R206). -/
structure Surplus where
  ns     : Nat
  /-- quota bytes and placed bytes of the value that it replaced -/
  bytes  : Nat
  placed : Nat
deriving DecidableEq, Repr

/-- Chapters 2 and 4: items, holds, cursors, handles. Namespace parameters stand in the OD. -/
structure KvState where
  versions  : List Version := []
  records   : List Record := []
  holds     : List Hold := []
  cursors   : List Cursor := []
  writers   : List Writer := []
  /-- the bucket directory is loaded (R31) -/
  loaded    : Bool := false
  /-- buckets whose entries are being rebuilt (Table 7.2) -/
  rebuilding : List Nat := []
  /-- what the recorded totals count too much until the directory is loaded (R206) -/
  surplus    : List Surplus := []
deriving DecidableEq, Repr

/-- A journal record (Table 5.5). -/
structure JRec where
  type    : Nat
  flags   : Nat := 0
  ns      : Nat := 0
  session : BitVec 32 := 0
  csn     : Nat := 0
  dt      : Nat := 0
  te      : Nat := 0
  status  : Nat := 0
  tag     : BitVec 32 := 0
  digest  : Nat := 0
  argA    : Nat := 0
  argB    : Nat := 0
deriving DecidableEq, Repr

/-- Chapter 5: the Pocket's journal ring and what the journal has carried to flash. -/
structure PocketState where
  /-- records in the ring, oldest first -/
  journal    : List JRec := []
  /-- journal records durable in flash since the last checkpoint but one -/
  durable    : List JRec := []
  /-- the tombstones that the checkpoints carry (R274) -/
  tombs      : List JRec := []
  throttled  : Bool := false
  /-- tick at which throttling began -/
  throttledAt : Nat := 0
  checkpoint : Nat := 0
deriving DecidableEq, Repr

/-- Session states (Table 3.7). -/
inductive SessState where
  | free | halfOpen (resumed : Bool) | isOpen | dormant | closing
deriving DecidableEq, Repr

/-- A response held under R138, or kept in the replay cache (R137). -/
structure Replay where
  tag      : Nat
  status   : Nat
  body     : Bytes
  /-- fragments not yet acknowledged: held -/
  held     : Bool := true
  /-- the command took effect, or was ordered and failed: answered again, not executed again -/
  keep     : Bool
  inst     : Nat := 0
  prio     : Nat := 0
  port     : Nat := 0
  /-- its datagrams not yet acknowledged: packet number sent under, offset, bytes (R137, R138) -/
  waiting  : List (Nat × Nat × Bytes) := []
  /-- data bytes announced and not sent, between the body's data and its trailer (R160) -/
  gap      : Nat := 0
deriving DecidableEq, Repr

/-- A session context (R112, R229). -/
structure Session where
  state       : SessState := .free
  gen         : Nat := 0
  version     : Nat := 3
  secured     : Bool := false
  ordered     : Bool := false
  port        : Nat := 0
  physical    : Nat := 0
  vlan        : Nat := 0
  udp         : Nat := 7311
  ipv6        : Bool := false
  src         : BitVec 128 := 0
  srcPort     : BitVec 16 := 0
  /-- the module's address at which the session was established (R103) -/
  dst         : BitVec 128 := 0
  /-- the client's link-layer address and PCP, of the latest accepted frame (R418) -/
  link        : BitVec 48 := 0
  pcp         : Option Nat := none
  group       : Nat := 0
  serviceAnchor : Bool := false
  label       : Nat := 0
  maxPayload  : Nat := 0
  keyShare    : Bytes := []
  helloBody   : Bytes := []
  replyBody   : Bytes := []
  /-- TH, and the keys K_cd and K_dc of a secured session (R123); 0 where there are none -/
  transcript  : BitVec 512 := 0
  keyCd       : BitVec 256 := 0
  keyDc       : BitVec 256 := 0
  /-- what has come of the body of a FINISH, and its Message length (R125, R134) -/
  gathered    : List (Nat × Bytes) := []
  gatherLen   : Option Nat := none
  /-- the digest of the latest resume token (R129) -/
  tokenDigest : BitVec 512 := 0
  hasToken    : Bool := false
  /-- the last packet number sent under the present keys -/
  txPn        : Nat := 0
  rxPns       : List Nat := []
  ackDue      : Bool := false
  ackPrio     : Nat := 0
  creditUnits : Nat := 0
  creditCmds  : Nat := 0
  /-- CREDIT_BYTES_MAX, CREDIT_CMDS_MAX and SLOTS_PER_SESSION as they stood when its handshake started (R150) -/
  unitLimit   : Nat := 0
  cmdLimit    : Nat := 0
  slotLimit   : Nat := 0
  /-- highest tag received, and the tags executed or answered within the window (R99) -/
  highTag     : Nat := 0
  seenTags    : List Nat := []
  replays     : List Replay := []
  /-- Message lengths of the commands of the window, by extended tag (R110) -/
  msgLens     : SMap Nat := []
  /-- execution instances after the first, by extended tag (R109, R137) -/
  again       : SMap Nat := []
  fence       : Option (Nat × Nat) := none
  fencedCount : Nat := 0
  /-- tag of the latest FENCE_CLEAR bound (R189), and the failed tag and status it cleared -/
  clearedAt   : Option Nat := none
  lastFence   : Nat × Nat := (0, 0)
  /-- RESUME_WINDOW runs (R114) -/
  windowRuns  : Bool := false
  noticeMask  : BitVec 256 := 0
  noticeSeq   : Nat := 0
  /-- tags whose first datagram was answered SERVICE_PAUSED in this pause (R223) -/
  pausedTags  : List Nat := []
deriving DecidableEq, Repr

/-- Chapter 3: sessions and cookies. -/
structure WkpState where
  sessions   : SMap Session := []
  secretNow  : BitVec 256 := 0
  secretOld  : BitVec 256 := 0
  /-- HELLO and RESUME received from each source in the present second (R146) -/
  helloRate  : List (BitVec 128 × Nat) := []
  /-- sources to which a STALE was sent, with the tick at which their STALE_INTERVAL ends (R145, R150) -/
  staleTo    : List (BitVec 128 × Nat) := []
  /-- sources whose HELLO flood was reported, with the operating second (Table 16.2) -/
  floodTo    : List (BitVec 128 × Nat) := []
deriving DecidableEq, Repr

/-- What a datagram or frame that the module sends says. -/
inductive Msg where
  | response (session : BitVec 32) (tag : Nat) (inst offset total : Nat) (bytes : Bytes)
  | ack (session : BitVec 32)
  | cookie (body : Bytes)
  | helloReply (session : BitVec 32) (offset total : Nat) (bytes : Bytes)
  | established (session : BitVec 32) (body : Bytes)
  | stale (session : BitVec 32) (reason : Nat)
  | close (session : BitVec 32) (reason : Nat)
  | notice (session : BitVec 32) (body : Bytes)
  | arpReply (forPartner : Bool)
  | neighbourAdvert (forPartner : Bool)
  | gratuitous (forPartner : Bool)
  | echoReply
  /-- Sync, Pdelay_Req, Pdelay_Resp: kind 0, 1, 2, sequenceId, and the time stamp that it carries: DT and TE -/
  | ptpEvent (kind seqId dt te : Nat)
  /-- Follow_Up 8, Pdelay_Resp_Follow_Up 10, Announce 11, in the same form (R371, R439) -/
  | ptpGeneral (kind seqId dt te : Nat)
  | pauseFrame (quanta : Nat)
  | pfcFrame (prio quanta : Nat)
  | wakePulse
  | sleepRequest
deriving DecidableEq, Repr

/-- The header of a WKP datagram that the module sends (Table 3.3). -/
structure WkpHead where
  version : Nat
  type    : Nat
  flags   : Nat
  session : BitVec 32
  pn      : Nat
  ack     : Nat
  sack    : Nat
  credit  : Nat
  tag     : Nat
  inst    : Nat
  offset  : Nat
  msgLen  : Nat
deriving DecidableEq, Repr

/-- The IP header of a datagram, as far as a rule names it, and the UDP header of a WKP datagram (Table 3.1, R103). -/
structure IpHead where
  ipv6     : Bool
  src      : BitVec 128
  dst      : BitVec 128
  /-- the don't-fragment bit of IPv4 (Table 3.1) -/
  dontFragment : Bool
  srcPort  : Nat
  dstPort  : Nat
  /-- the UDP checksum; 0 for a datagram that is not UDP (R424) -/
  checksum : Nat
  /-- the checksum of the IPv4 header; 0 on IPv6 (R424) -/
  headSum  : Nat := 0
deriving DecidableEq, Repr

/-- Where a frame goes on the link, and from which port's MAC address (R415, R418, R446). -/
structure LinkHead where
  mac  : Nat
  link : BitVec 48
  vlan : Nat
  pcp  : Option Nat
deriving DecidableEq, Repr

/-- A frame in a transmit queue (R423–R425). -/
structure TxFrame where
  bytes  : Nat
  msg    : Msg
  onLink : Option LinkHead := none
  ip     : Option IpHead := none
  head   : Option WkpHead := none
  /-- in a secured session, the ciphertext and the GCM tag that leave in place of what `msg` says (R124) -/
  cipher : Option (Bytes × BitVec 128) := none
  /-- the address that an ARP reply, a neighbour advertisement or a gratuitous ARP is about (R446) -/
  about  : Option (BitVec 128) := none
  /-- the transmit time stamp to be taken: session, tag or sequence, kind (R437) -/
  stampKind : Option (BitVec 32 × Nat × Nat) := none
  /-- destination: 0 unicast, 1 multicast, 2 broadcast -/
  cast   : Nat := 0
deriving DecidableEq, Repr

/-- A transmit time-stamp entry (Table 11.8). -/
structure TsqEntry where
  dt      : Nat
  te      : Nat
  seqTag  : Nat
  session : BitVec 32
  kind    : Nat
  lossBefore : Bool
  lossCount  : Nat
deriving DecidableEq, Repr

/-- One Ethernet port (chapter 11); its settings and counters stand in the OD. -/
structure Port where
  linkUp     : Bool := false
  speed      : Nat := 0
  /-- held link-down under R299 or R414 -/
  heldDown   : Bool := false
  asleep     : Bool := false
  powered    : Bool := true
  /-- speeds removed from the advertisement (R413) -/
  removed    : List Nat := []
  /-- frames that wait in receive queues: queue, bytes, PCP -/
  rxq        : List (Nat × Nat × Nat) := []
  /-- transmit queues 0–7 -/
  txq        : SMap (List TxFrame) := []
  /-- the frame that has started, and the DT and TE of its start (R436) -/
  inFlight   : Option TxFrame := none
  started    : Nat × Nat := (0, 0)
  /-- PAUSE and PFC frames of the module, ahead of every queue -/
  control    : List TxFrame := []
  /-- queues held by pause or PFC, with their timers in quanta -/
  held       : SMap Nat := []
  /-- queues for which received pause is ignored (R432) -/
  ignoring   : List Nat := []
  /-- priorities for which XOFF was sent (R431) -/
  xoff       : List Nat := []
  tsq        : List TsqEntry := []
  tsqLost    : Nat := 0
  echoCount  : Nat := 0
  rxRem      : Nat := 0
  txRem      : Nat := 0
  /-- 0 none, 1 covering, 2 covered (Table 11.10) -/
  takeover   : Nat := 0
  /-- the announcement of a takeover or takeback is due again (R446) -/
  announceDue : Bool := false
  /-- nanoseconds of PAUSED_US not yet a microsecond -/
  pausedRem  : Nat := 0
  ptpRole    : PtpRole := .disabled
  asCapable  : Bool := false
  peerDelay  : Int := 0
  /-- sequenceId of the messages sent -/
  ptpSeq     : Nat := 0
deriving DecidableEq, Repr

/-- Stripe states (Table 6.5). -/
inductive StripeState where
  | free | isOpen | full | reclaim | erasing
deriving DecidableEq, Repr

/-- LOCATION (Table 6.7), its HELD bit apart, which says what stands when it is read. -/
structure Location where
  /-- 1 plain value, 2 extent object, 3 counter -/
  kind   : Nat
  oneBit : Bool
  stripe : Nat
  /-- start in the stripe's data space and placed size, in 256-byte units -/
  offset : Nat
  units  : Nat
deriving DecidableEq, Repr

/-- An index entry (R262), with the key that its record decrypts to (R263), from which its KEY_DIGEST comes. -/
structure IndexEntry where
  ns  : Nat
  key : Bytes
  loc : Location
  csn : Nat
deriving DecidableEq, Repr

/-- A bucket directory entry (Table 6.6). -/
structure DirEntry where
  valid     : Bool := false
  pstripe   : Nat := 0
  page      : Nat := 0
  pages     : Nat := 0
  entries   : Nat := 0
  bucketCsn : Nat := 0
deriving DecidableEq, Repr

/-- An extent of an extent map: object offset, length, LOCATION and CSN of the fragment (R264). -/
structure MapEntry where
  offset : Nat
  length : Nat
  loc    : Nat
  csn    : Nat
deriving DecidableEq, Repr

/-- A page of 16 KiB of the INDEX band (R245, R261, R264 to R266), with the entries that it carries. -/
inductive IndexPage where
  /-- a page of a bucket run: bucket, place in the run, BUCKET_CSN; KEY_DIGEST, LOCATION and CSN of each entry -/
  | run (bucket place bucketCsn : Nat) (entries : List (Nat × Nat × Nat))
  /-- a page of the extent map of the object created under a CSN -/
  | extentMap (object place : Nat) (entries : List MapEntry)
  /-- a page of the summary of a stripe, which is the `order`-th opened -/
  | summary (stripe order place : Nat) (entries : List (Nat × Nat × Nat))
  /-- a directory page: the entries of 1,024 buckets -/
  | directory (number : Nat) (entries : SMap DirEntry)
  /-- journal records -/
  | journal (records : List JRec)
  | padding
deriving DecidableEq, Repr

/-- A record's place in a stripe: what its summary entry says (R265), and the offset where it ends. -/
structure PlacedRec where
  csn  : Nat
  ns   : Nat
  key  : Bytes
  kind : Nat
  size : Nat
  stop : Nat
  /-- a copy made by collection, folding or relocation (R269) -/
  copy : Bool := false
deriving DecidableEq, Repr

/-- A stripe index (R237, R249, R252). -/
structure Stripe where
  state      : StripeState := .free
  qlc        : Bool := true
  bin        : Nat := 0
  placed     : Nat := 0
  programmed : Nat := 0
  inFlight   : Bool := false
  latest     : Nat := 0
  /-- records placed, in placement order -/
  records    : List PlacedRec := []
  /-- an INDEX stripe's pages, in placement order -/
  pages      : List IndexPage := []
  /-- pages of its summary placed in the INDEX band (R265) -/
  summary    : Nat := 0
  /-- rows narrowed when it was opened (R296) -/
  narrow     : Nat := 0
  /-- copies being made out of it are durable (R269 step 1) -/
  copied     : Bool := false
  /-- its blocks on the die under Gusset are rebuilt -/
  rebuilt    : Bool := false
  /-- its place in the order in which stripes opened, and DT at its opening -/
  order      : Nat := 0
  born       : Nat := 0
  /-- operating second at which it became FULL (R258) -/
  fullAt     : Nat := 0
  /-- it becomes FULL when its row lines in flight or its placed pages are programmed -/
  closing    : Bool := false
  /-- a plane has no spare block for it: it is taken out of use once it is erased (R287) -/
  condemned  : Bool := false
  excluded   : Bool := false
deriving DecidableEq, Repr

/-- A bin (R248, R251): 0–31 time bins, 32 NO-EXPIRY, 33 HELD, 34 SMALL-FOLD, 35 INDEX, 36 system. -/
structure Bin where
  isOpen  : Bool := false
  quantum : Nat := 0
  stripe  : Option Nat := none
deriving DecidableEq, Repr

/-- A plane (R236, R237, R275, R287). -/
structure Plane where
  /-- the block map: the physical block bound to a stripe index -/
  map     : SMap Nat := []
  /-- wear units of its physical blocks -/
  units   : SMap Nat := []
  /-- physical blocks retired since shipment -/
  retired : List Nat := []
deriving DecidableEq, Repr

/-- A hem band (R283). -/
structure HemBand where
  erased  : Bool := true
  /-- the CSN_LAST of a valid commit record -/
  commit  : Option Nat := none
deriving DecidableEq, Repr

/-- Chapters 6 and 7: stripes, bins, planes, Gusset, hem bands. -/
structure FlashState where
  stripes   : SMap Stripe := []
  bins      : SMap Bin := []
  planes    : SMap Plane := []
  /-- dies declared failed, failing, and powered off after their Gusset -/
  failed    : List Nat := []
  failing   : List Nat := []
  replaced  : List Nat := []
  gussetQueue : List Nat := []
  collecting : Option Nat := none
  folding   : Option Nat := none
  bandB     : Bool := false
  hemA      : HemBand := {}
  hemB      : HemBand := {}
  /-- saved tracker offsets: die × 8 + age class, sixteen offsets -/
  trackers  : SMap (List Int) := []
  trackersSaved : SMap (List Int) := []
  /-- corrected bits that patrol has counted, by die × 8 + age class (R278) -/
  corrected : SMap Nat := []
  /-- channels whose media sequencer has stopped for a store reload (R589) -/
  msqStopped : List Nat := []
  /-- the stripe that patrol has reached, and the operating second at which its pass began -/
  patrolAt  : Nat := 0
  patrolFrom : Nat := 0
  /-- stripes opened so far -/
  opened    : Nat := 0
  /-- journal records carried by the INDEX row line in flight -/
  carried   : Nat := 0
  /-- codewords of each die rebuilt from parity within 24 h (R288) -/
  rebuilt   : SMap Nat := []
  /-- stripes to be reclaimed since the last narrowing (R297) -/
  narrowTotal : Nat := 0
  /-- the channel that each narrowed row has lost (R296) -/
  narrowedBy : SMap Nat := []
  /-- the index as it stands: what the bucket runs on flash and the changes since say (R262, R266) -/
  index     : List IndexEntry := []
  /-- the bucket directory in LPDDR, and its pages as they were last written, with their stripe and page (R260, R266) -/
  dir       : SMap DirEntry := []
  dirWritten : SMap DirEntry := []
  dirPages  : SMap (Nat × Nat) := []
  /-- the extent maps in the INDEX band, by CREATE_CSN of their objects: stripe, first page, pages (R264) -/
  maps      : SMap (Nat × Nat × Nat) := []
  /-- the buckets whose run is in the page cache, most recently used first (R263) -/
  cache     : List Nat := []
  /-- MEDIA_BYTES and HOST_BYTES when the present 24 h began -/
  mediaBase : Nat := 0
  hostBase  : Nat := 0
  /-- write-rate history: its peak in bytes per second (R276) -/
  writeRate : Nat := 0
deriving DecidableEq, Repr

/-- A matcher entry (Table 8.1); PARITY is computed. -/
structure MatchEntry where
  keyValue : BitVec 160
  keyMask  : BitVec 160
  action   : BitVec 64
  /-- cleared while the entry is being restored (Table 8.3) -/
  valid    : Bool := true
  listNum  : Nat
deriving DecidableEq, Repr

/-- Chapter 8: the entries by physical address; what is not listed has VALID 0. Lists stand in the OD. -/
structure MatcherState where
  entries  : SMap MatchEntry := []
  /-- 0 idle, 1 hole opening, 2 close-up, 3 re-pleat, by list slot (0x2716) -/
  busy     : SMap Nat := []
  /-- the free place that moves carry through a Tuck list: list slot, address -/
  holes    : SMap Nat := []
  /-- the matcher image of the last directory checkpoint, and its generation (R340) -/
  image    : SMap MatchEntry := []
  imageGen : Nat := 0
  /-- repairs of each logical tile within 24 h (R344) -/
  repairs  : SMap Nat := []
  failing  : List Nat := []
deriving DecidableEq, Repr

/-- A seal (Table 9.2). -/
structure Seal where
  flags      : Nat
  ns         : Nat
  seqNo      : Nat
  stamp      : Stamp
  source     : TimeSource
  keyGen     : Nat
  firstCsn   : Nat := 0
  lastCsn    : Nat := 0
  count      : Nat := 0
  stepNs     : Int
  head       : BitVec 512 := 0
  prev       : BitVec 512 := 0
  signature  : Option (BitVec 1056) := none
  links      : List (Nat × BitVec 512) := []
deriving DecidableEq, Repr

/-- The chain of one sealed namespace (R358–R366). -/
structure Chain where
  /-- CHAIN_HEAD, CHAIN_COUNT and the digest of the last signed seal (R366) -/
  head    : BitVec 512 := 0
  count   : Nat := 0
  lastSeal : BitVec 512 := 0
  nextSeq : Nat := 0
  /-- puts that no signed seal covers, in CSN order: CSN and record digest -/
  links   : List (Nat × BitVec 512) := []
  seals   : List Seal := []
  closed  : Bool := false
deriving DecidableEq, Repr

/-- Chapter 9: seals, ledger, attestation. -/
structure SealState where
  chains  : SMap Chain := []
  ledger  : List Seal := []
  /-- places reserved for closing seals (R368) -/
  reserved : Nat := 0
  /-- the tick of the last nonce accepted on each path (R355) -/
  nonceHot : SMap Nat := []
deriving DecidableEq, Repr

/-- Chapter 10: cores, nonces, key store, DRBG. -/
structure CipherState where
  /-- nonce counters by domain × 16 + core, and the highest block reserved for each (R385) -/
  counters  : SMap Nat := []
  blocks    : SMap Nat := []
  /-- namespace data keys in the key store, by namespace -/
  keys      : SMap (BitVec 256) := []
  keyCache  : List Nat := []
  storeSeq  : Nat := 0
  copyA     : Bool := true
  copyB     : Bool := true
  shaRetired : List Nat := []
  liningOk  : Bool := true
  /-- CK, drawn at each start; 0 where there is none (R402) -/
  contextKey : BitVec 256 := 0
  /-- the root key could be derived at this start (R403) -/
  rootKey  : Bool := true
deriving DecidableEq, Repr

/-- An SDO transfer in progress (R471). -/
structure Sdo where
  upload : Bool
  key    : Nat
  index  : Nat
  sub    : Nat
  level  : Nat
  size   : Option Nat
  block  : Bool
  data   : Bytes
deriving DecidableEq, Repr

/-- LSS states (R480). -/
inductive LssState where
  | waiting | configuration
deriving DecidableEq, Repr

/-- A message on a CAN network. -/
structure CanMsg where
  cob  : Nat
  data : Bytes
deriving DecidableEq, Repr

/-- One CAN network (chapter 12). -/
structure CanNet where
  /-- node-ID and bit rate in force, and pending -/
  node      : Nat := 0x3A
  rate      : Nat := 500
  pendNode  : Option Nat := none
  pendRate  : Option Nat := none
  mode      : Nat := 0
  busOff    : Bool := false
  passive   : Bool := false
  /-- EMCY messages queued, oldest first: code, five bytes, health (R478) -/
  emcy      : List (Nat × Bytes) := []
  inhibited : Bool := false
  errors    : List Nat := []
  sdo       : Option Sdo := none
  lss       : LssState := .waiting
  fastscan  : Nat := 0
  /-- last value bytes sent per TPDO, the tick at which each left last, SYNCs counted per TPDO -/
  lastSent  : SMap Bytes := []
  sentAt    : SMap Nat := []
  syncs     : SMap Nat := []
  /-- synchronous RPDOs received and not yet applied -/
  rpdos     : SMap Bytes := []
deriving DecidableEq, Repr

/-- The parts of the module's life (Table 15.4, Table 5.8, Table 14.3, R528). -/
inductive Phase where
  | unpowered | boot | running | drowse1 | drowse2 | drowse | hem | thermalStop | fatalStop
deriving DecidableEq, Repr

/-- Engine power states (Table 5.8). -/
inductive EnginePower where
  | run | hush | doze
deriving DecidableEq, Repr

/-- Chapters 14 and 15: supply, pins, start-up, power states. -/
structure PowerState where
  phase        : Phase := .unpowered
  engine       : EnginePower := .run
  /-- the tick of CLK_TIME at the last HUSH_ENTRY or DOZE_ENTRY (R226) -/
  enteredAt    : Nat := 0
  /-- DOZE_DEPTH as it stood at the last DOZE_ENTRY (R553) -/
  dozeDepth    : Nat := 1
  inputValid   : Bool := false
  /-- this start replayed a hem band (R283) -/
  hemReplayed  : Bool := false
  matcherReady : Bool := false
  diesWarm     : Bool := true
  rideThrough  : Bool := false
  /-- energy in the bank above 6.0 V, in mJ -/
  bankMj       : Nat := 0
  inputMv      : Nat := 0
  ign          : Bool := false
  ignTimer     : Bool := false
  incidentLow  : Bool := false
  /-- INCIDENT holds that wait for intake to open or for slot 447 (R255, R516) -/
  incidentLatched : List IncidentHold := []
  /-- the INCIDENT_REARM interval runs: the tick of the last assertion that placed a hold (R257) -/
  rearmSince   : Option Nat := none
  /-- second holds that are not due yet, oldest first (R256) -/
  afterDue     : List IncidentHold := []
  wakeOut      : Bool := false
  latchedWakes : List Wake := []
  routinesPaused : Bool := false
  coolSeconds  : Nat := 0
  startKind    : Nat := 5
  firstOpen    : Bool := false
  /-- rails' phases disabled: rail × 256 + phase -/
  phasesOff    : List Nat := []
  overvoltage  : Bool := false
  /-- the input is valid again during a Hem: what the start that follows finds (R526) -/
  startNext    : Option StartFindings := none
  /-- the Hem that runs belongs to a thermal stop (R528) -/
  thermal      : Bool := false
  /-- samples of the baseplate since the last save -/
  tempSaved    : SMap Nat := []
deriving DecidableEq, Repr

/-- Chapter 7: the conditions of Table 7.5 that hold and the spares in use. -/
structure HealthState where
  conds      : BitVec 19 := 0
  /-- bits that ended only at power-up or by measurement are cleared by their own steps -/
  sramRows   : SMap Nat := []
  banksFailed : List Nat := []
  lpddrCopying : List Nat := []
  /-- spare SRAM banks in use, with the bank each replaces -/
  bankFor    : SMap Nat := []
  tileLost   : List Nat := []
  /-- operating seconds of the fatal errors (bit 18) -/
  fatalTimes : List Nat := []
  phyFailed  : List Nat := []
  last       : Nat := 1
deriving DecidableEq, Repr

/-- An event message that waits in the engine's queue while the Seam is lost (R492, R560). -/
structure QueuedEvent where
  source  : Nat
  params  : List (BitVec 32)
  dt      : Nat
  seconds : Nat
deriving DecidableEq, Repr

/-- Chapter 13: the Seam and the supervisor. -/
structure SeamState where
  up           : Bool := false
  attached     : Bool := false
  orphan       : Bool := false
  orphanUnread : Bool := false
  orphanLong   : Bool := false
  attachedSe   : Nat := 0
  knownEe      : Nat := 0
  /-- an ATTACH waits for its answer -/
  attachSent   : Bool := false
  /-- event messages in the engine's queue, oldest first (R492) -/
  queue        : List QueuedEvent := []
  /-- outcomes of the last supervisor tags (R491) -/
  tags         : List (BitVec 32 × Nat) := []
  /-- 64-bit words of the supervisor partition that are not 0, by word number (R20, R493) -/
  partition    : SMap (BitVec 64) := []
  /-- the supervisor-writable engine registers that have been written, by address (R490) -/
  registers    : SMap (BitVec 64) := []
deriving DecidableEq, Repr

/-- A recorder record (Table 16.3), without its CRC, which is computed. -/
structure Rec where
  code    : Nat
  sev     : Nat
  engine  : Bool
  late    : Bool := false
  fromNor : Bool := false
  params  : List (BitVec 32)
  seconds : Nat
  cycles  : Nat
  seqNo   : Nat
deriving DecidableEq, Repr

/-- A dump (R573, Table 16.9). -/
structure Dump where
  seqNo    : Nat
  complete : Bool
  live     : Bool
  fatal    : Nat
  dt       : Nat
  te       : Nat
  epoch    : Nat
  csnLast  : Nat
  kib      : Nat
  cycles   : Nat := 0
  seconds  : Nat := 0
  /-- the words of the task slots in use, the journal ring, the event records and the contexts not FREE, when it was taken
  (Table 16.10) -/
  slots    : SMap (List Nat) := []
  journal  : List JRec := []
  records  : List Rec := []
  contexts : Nat := 0
deriving DecidableEq, Repr

/-- Chapter 16: rate windows, recorder, counters, dumps. -/
structure EventState where
  /-- raises delivered in this window: source × 4 + destination (1 EMCY, 2 notice, 3 recorder) -/
  delivered  : SMap Nat := []
  suppressed : SMap Nat := []
  pendingRecs : List Rec := []
  log        : List Rec := []
  nor        : List Rec := []
  frozen     : Bool := false
  frozenLost : Nat := 0
  ovfRaised  : Bool := false
  nextSeq    : Nat := 0
  mirrorsLost : List Nat := []
  /-- counts of PERF_VALUE by number 1–64; 2^48 and more until the wrap is taken -/
  perf       : SMap Nat := []
  dumps      : List Dump := []
  dumpSeq    : Nat := 0
  dumping    : Option Dump := none
  fatal      : Option Nat := none
  /-- operating seconds of the last raise of sources 40 and 137: by 0, or 1 + namespace -/
  reported   : SMap Nat := []
deriving DecidableEq, Repr

/-- FW_STATE (Table 18.5). -/
inductive FwPhase where
  | empty | receiving | received | verifying | verified | activating | confirming | fallingBack | previous | rejected
deriving DecidableEq, Repr

/-- Swap journal records (R597). -/
inductive Swap where
  | none | intent | commit | confirm | backIntent | backCommit | timer (seconds : Nat)
deriving DecidableEq, Repr

/-- A firmware part (Table 18.3). -/
structure FwPart where
  code    : Nat
  epoch   : Nat
  flags   : Nat
  version : Nat
  compat  : Nat
  requires : Nat
  offset  : Nat
  length  : Nat
  digest  : Nat
deriving DecidableEq, Repr

/-- A verification that runs (R603). -/
structure FwVerify where
  /-- its steps done: the header, the six bodies, then steps 3 to 5 -/
  done  : Nat := 0
  /-- the access path that wrote VRFY, where no task slot of its own answers; none after a restart (R604) -/
  path  : Option Nat := none
  /-- the first step that fails, less one, and its part -/
  fails : Option (Fin 6 × Fin 7) := none
deriving DecidableEq, Repr

/-- Chapter 18: firmware update. -/
structure FwState where
  phase     : FwPhase := .empty
  owner     : Option Nat := none
  image     : Bytes := []
  headerOk  : Bool := false
  parts     : List FwPart := []
  release   : Nat := 0
  minFrom   : Nat := 0
  imageLen  : Nat := 0
  running   : List FwPart := []
  runRelease : Nat := 0
  /-- the bytes and IMAGE_LEN of the running image, empty for the image of manufacture -/
  runImage  : Bytes := []
  runLen    : Nat := 0
  fuses     : List Nat := [0, 0, 0, 0, 0, 0]
  slotB     : Bool := false
  swap      : Swap := .none
  /-- cause and part code of a fall-back that runs (R614) -/
  back      : Nat × Nat := (0, 0)
  /-- parts that the activation did not replace -/
  unchanged : List Nat := []
  /-- the verification that runs (R603, R604) -/
  verify    : Option FwVerify := none
  /-- DIGEST of the BLD body in the NOR slot paired with the running image, and in the one paired with staging (R596, R603) -/
  norRun    : Nat := 0
  norStage  : Nat := 0
deriving DecidableEq, Repr

/-- Chapter 5: service pause, SANITISE and FORMAT. -/
structure AdminState where
  /-- stage of Table 5.7, 0 none -/
  pauseStage : Nat := 0
  /-- the pause is an activation or fall-back -/
  activation : Bool := false
  slotsFreed : Nat := 0
  sanitiseQueue : List Nat := []
  sanitising : Option Nat := none
  /-- the stripes that SANITISE or FORMAT must erase, by index and order of opening, and how many there were -/
  purging    : List (Nat × Nat) := []
  purgeTotal : Nat := 0
  formatAsked : Bool := false
  formatRuns : Bool := false
deriving DecidableEq, Repr

/-- What has left the module, newest first (the model's own record of it). (DESIGN CHOICE, log 6) -/
inductive Sent where
  | frame (port : Nat) (f : TxFrame)
  | can (net : Nat) (m : CanMsg)
  /-- an LSS answer: error code and value (R480) -/
  | lss (net error value : Nat)
  | ppsPulse (dt : Nat)
  /-- the EVENT message of a source, in the record layout of Table 16.3 (R492) -/
  | supervisorInterrupt (source : Nat) (message : Bytes)
  | attachAsked
  /-- the engine's answer to ATTACH: outcome, ENGINE_EPOCH, ATTACHED_SE, CSN_LAST, health and intake state (R495) -/
  | attachAnswered (outcome engineEpoch attachedSe csnLast health intake : Nat)
deriving DecidableEq, Repr

/-- The module. -/
structure State where
  hw      : Hardware := {}
  od      : OdState := {}
  clock   : ClockState := {}
  seq     : SeqState := {}
  kv      : KvState := {}
  pocket  : PocketState := {}
  wkp     : WkpState := {}
  ports   : SMap Port := []
  flash   : FlashState := {}
  matcher : MatcherState := {}
  seals   : SealState := {}
  cipher  : CipherState := {}
  can     : SMap CanNet := []
  power   : PowerState := {}
  health  : HealthState := {}
  seam    : SeamState := {}
  events  : EventState := {}
  fw      : FwState := {}
  admin   : AdminState := {}
  /-- commands that wait, first in, first out -/
  pending : List Instr := []
  /-- how many free values have been drawn (the model's own; log 3) -/
  draws   : Nat := 0
  /-- what has been sent, newest first (the model's own; log 6) -/
  sent    : List Sent := []
deriving DecidableEq, Repr

/-- Why the machine stops with a fault. -/
inductive Fault where
  /-- raised by SUPPLY_OVERVOLTAGE and SUPPLY_REVERSE beyond Table 19.1 (R619): the module may be damaged and no
  behaviour is given. Safe: the machine stops. -/
  | beyondAbsoluteMaximum
deriving DecidableEq, Repr

/-- Why a command has no meaning. -/
inductive Refusal where
  /-- raised by exec's arm of a command that has no meaning yet. Safe: the machine stops. -/
  | notModelled (mnemonic : String)
deriving DecidableEq, Repr

/-- The module as it leaves the factory, before its input first becomes valid: every entry at its default,
nothing stored, intake closed (Table 5.10: INTAKE_STATE 3). The values that the spec does not state are those of
log 2. (DESIGN CHOICE, log 2) -/
def State.reset : State := {}

end Sys2Proof.Machine
end

