-- ==== Sys2Proof/Machine/OdTable.lean ====
section
/-! DEFINITION. The entries of the object dictionary, row by row from the OD tables of the spec (Tables 2.1, 3.14,
5.10, 6.12, 7.7, 8.4, 9.5, 10.7, 11.9, 11.10, 12.9 to 12.11, 13.6, 14.4, 15.6, 16.11, 17.6 and 18.10): index, sub-indices, type, access, default, Persist
column and the range of a write (R628). A port's block stands once, at P1's index. -/

namespace Sys2Proof.Machine

/-- A CANopen data type (Table 12.1) with its size in bytes where it has one. -/
inductive OdTy where
  | bool | int (bytes : Nat) | uint (bytes : Nat) | text | octets (bytes : Nat) | domain
deriving DecidableEq, Repr

/-- The values a write may carry (R628): as the entry's row states them, or a check named for its rule. -/
inductive OdRange where
  | any | upTo (hi : Nat) | between (lo hi : Nat) | oneOf (values : List Nat)
  | access | binIdle | phyConfig | flow | vlan | heartbeat | nodeId | perfEvent
  | cobId | cobTime | cobEmcy | cobPdo | rpdoType | tpdoType
deriving DecidableEq, Repr

/-- A row of an OD table: indices, sub-indices, type, levels for reading and writing (Table 12.2), default, Persist
(0 derived, 1 volatile, 2 stored) and range. -/
structure OdRow where
  lo      : Nat
  hi      : Nat
  subLo   : Nat
  subHi   : Nat
  ty      : OdTy
  rd      : Option Nat
  wr      : Option Nat
  dflt    : Nat
  persist : Nat
  range   : OdRange
deriving DecidableEq, Repr

/-- DEVICE_TYPE, 0x1000. -/
abbrev Od.DEVICE_TYPE : Nat := 0x1000
/-- ERROR_REGISTER, 0x1001. -/
abbrev Od.ERROR_REGISTER : Nat := 0x1001
/-- PRE_DEFINED_ERROR_FIELD, 0x1003. -/
abbrev Od.PRE_DEFINED_ERROR_FIELD : Nat := 0x1003
/-- COB_ID_SYNC, 0x1005. -/
abbrev Od.COB_ID_SYNC : Nat := 0x1005
/-- MANUFACTURER_DEVICE_NAME, 0x1008. -/
abbrev Od.MANUFACTURER_DEVICE_NAME : Nat := 0x1008
/-- MANUFACTURER_HW_VERSION, 0x1009. -/
abbrev Od.MANUFACTURER_HW_VERSION : Nat := 0x1009
/-- MANUFACTURER_SW_VERSION, 0x100A. -/
abbrev Od.MANUFACTURER_SW_VERSION : Nat := 0x100A
/-- STORE_PARAMETERS, 0x1010. -/
abbrev Od.STORE_PARAMETERS : Nat := 0x1010
/-- RESTORE_DEFAULT_PARAMETERS, 0x1011. -/
abbrev Od.RESTORE_DEFAULT_PARAMETERS : Nat := 0x1011
/-- COB_ID_TIME, 0x1012. -/
abbrev Od.COB_ID_TIME : Nat := 0x1012
/-- COB_ID_EMCY, 0x1014. -/
abbrev Od.COB_ID_EMCY : Nat := 0x1014
/-- INHIBIT_TIME_EMCY, 0x1015. -/
abbrev Od.INHIBIT_TIME_EMCY : Nat := 0x1015
/-- PRODUCER_HEARTBEAT_TIME, 0x1017. -/
abbrev Od.PRODUCER_HEARTBEAT_TIME : Nat := 0x1017
/-- IDENTITY_OBJECT, 0x1018. -/
abbrev Od.IDENTITY_OBJECT : Nat := 0x1018
/-- SDO_SERVER, 0x1200. -/
abbrev Od.SDO_SERVER : Nat := 0x1200
/-- RPDO_COMM, 0x1400. -/
abbrev Od.RPDO_COMM : Nat := 0x1400
/-- RPDO_MAP, 0x1600. -/
abbrev Od.RPDO_MAP : Nat := 0x1600
/-- TPDO_COMM, 0x1800. -/
abbrev Od.TPDO_COMM : Nat := 0x1800
/-- TPDO_MAP, 0x1A00. -/
abbrev Od.TPDO_MAP : Nat := 0x1A00
/-- NMT_STARTUP, 0x1F80. -/
abbrev Od.NMT_STARTUP : Nat := 0x1F80
/-- PRODUCT_NAME, 0x2000. -/
abbrev Od.PRODUCT_NAME : Nat := 0x2000
/-- ORDERING_CODE, 0x2001. -/
abbrev Od.ORDERING_CODE : Nat := 0x2001
/-- SERIAL_NUMBER, 0x2002. -/
abbrev Od.SERIAL_NUMBER : Nat := 0x2002
/-- SERIAL_TEXT, 0x2003. -/
abbrev Od.SERIAL_TEXT : Nat := 0x2003
/-- HARDWARE_ISSUE, 0x2004. -/
abbrev Od.HARDWARE_ISSUE : Nat := 0x2004
/-- MANUFACTURE_DT, 0x2005. -/
abbrev Od.MANUFACTURE_DT : Nat := 0x2005
/-- CAPACITY_GRADE, 0x2006. -/
abbrev Od.CAPACITY_GRADE : Nat := 0x2006
/-- TEMP_GRADE, 0x2007. -/
abbrev Od.TEMP_GRADE : Nat := 0x2007
/-- MAC_BASE, 0x2008. -/
abbrev Od.MAC_BASE : Nat := 0x2008
/-- POWER_CYCLES, 0x2009. -/
abbrev Od.POWER_CYCLES : Nat := 0x2009
/-- OPERATING_SECONDS, 0x200A. -/
abbrev Od.OPERATING_SECONDS : Nat := 0x200A
/-- OD_CONFIG_WRITES, 0x200B. -/
abbrev Od.OD_CONFIG_WRITES : Nat := 0x200B
/-- OD_CONFIG_DIGEST, 0x200C. -/
abbrev Od.OD_CONFIG_DIGEST : Nat := 0x200C
/-- OD_ENTRY_COUNT, 0x200D. -/
abbrev Od.OD_ENTRY_COUNT : Nat := 0x200D
/-- CONFIG_STORE_STATE, 0x200E. -/
abbrev Od.CONFIG_STORE_STATE : Nat := 0x200E
/-- PATH_LEVEL, 0x2010. -/
abbrev Od.PATH_LEVEL : Nat := 0x2010
/-- GROUP_LEVEL, 0x2011. -/
abbrev Od.GROUP_LEVEL : Nat := 0x2011
/-- CAN_SDO_LEVEL, 0x2012. -/
abbrev Od.CAN_SDO_LEVEL : Nat := 0x2012
/-- CAN_NET_SELECT, 0x2020. -/
abbrev Od.CAN_NET_SELECT : Nat := 0x2020
/-- CAN2_MODE, 0x2021. -/
abbrev Od.CAN2_MODE : Nat := 0x2021
/-- CAN_NODE_ID, 0x2022. -/
abbrev Od.CAN_NODE_ID : Nat := 0x2022
/-- CAN_BITRATE, 0x2023. -/
abbrev Od.CAN_BITRATE : Nat := 0x2023
/-- CAN_NMT_STATE, 0x2024. -/
abbrev Od.CAN_NMT_STATE : Nat := 0x2024
/-- CAN_BUS_STATE, 0x2025. -/
abbrev Od.CAN_BUS_STATE : Nat := 0x2025
/-- CAN_WAKE_ENABLE, 0x2026. -/
abbrev Od.CAN_WAKE_ENABLE : Nat := 0x2026
/-- CAN_WAKE_ID, 0x2027. -/
abbrev Od.CAN_WAKE_ID : Nat := 0x2027
/-- CAN_WAKE_ID_MASK, 0x2028. -/
abbrev Od.CAN_WAKE_ID_MASK : Nat := 0x2028
/-- CAN_WAKE_DLC, 0x2029. -/
abbrev Od.CAN_WAKE_DLC : Nat := 0x2029
/-- CAN_WAKE_DATA_MASK, 0x202A. -/
abbrev Od.CAN_WAKE_DATA_MASK : Nat := 0x202A
/-- CNT_CAN_BUS_OFF, 0x2030. -/
abbrev Od.CNT_CAN_BUS_OFF : Nat := 0x2030
/-- CNT_EMCY_LOST, 0x2031. -/
abbrev Od.CNT_EMCY_LOST : Nat := 0x2031
/-- CNT_RPDO_REFUSED, 0x2032. -/
abbrev Od.CNT_RPDO_REFUSED : Nat := 0x2032
/-- CNT_SDO_ABORTS, 0x2033. -/
abbrev Od.CNT_SDO_ABORTS : Nat := 0x2033
/-- CNT_CAN_WAKES, 0x2034. -/
abbrev Od.CNT_CAN_WAKES : Nat := 0x2034
/-- HEALTH_STATE, 0x2040. -/
abbrev Od.HEALTH_STATE : Nat := 0x2040
/-- HEALTH_WORST, 0x2041. -/
abbrev Od.HEALTH_WORST : Nat := 0x2041
/-- HEALTH_REASON, 0x2042. -/
abbrev Od.HEALTH_REASON : Nat := 0x2042
/-- HEALTH_REASON_EVER, 0x2043. -/
abbrev Od.HEALTH_REASON_EVER : Nat := 0x2043
/-- SPARE_DIES_LEFT, 0x2044. -/
abbrev Od.SPARE_DIES_LEFT : Nat := 0x2044
/-- SPARE_DIE, 0x2045. -/
abbrev Od.SPARE_DIE : Nat := 0x2045
/-- SPARE_BLOCKS_MIN, 0x2046. -/
abbrev Od.SPARE_BLOCKS_MIN : Nat := 0x2046
/-- PLANE_SELECT, 0x2047. -/
abbrev Od.PLANE_SELECT : Nat := 0x2047
/-- PLANE_SPARE, 0x2048. -/
abbrev Od.PLANE_SPARE : Nat := 0x2048
/-- PLANE_RETIRED, 0x2049. -/
abbrev Od.PLANE_RETIRED : Nat := 0x2049
/-- EXCLUDED_INDICES, 0x204A. -/
abbrev Od.EXCLUDED_INDICES : Nat := 0x204A
/-- GUSSET_STATE, 0x204B. -/
abbrev Od.GUSSET_STATE : Nat := 0x204B
/-- GUSSET_DIE, 0x204C. -/
abbrev Od.GUSSET_DIE : Nat := 0x204C
/-- GUSSET_PROGRESS, 0x204D. -/
abbrev Od.GUSSET_PROGRESS : Nat := 0x204D
/-- GUSSET_QUEUED, 0x204E. -/
abbrev Od.GUSSET_QUEUED : Nat := 0x204E
/-- CHANNELS_LOST, 0x2050. -/
abbrev Od.CHANNELS_LOST : Nat := 0x2050
/-- ROWS_NARROWED, 0x2051. -/
abbrev Od.ROWS_NARROWED : Nat := 0x2051
/-- NARROW_PROGRESS, 0x2052. -/
abbrev Od.NARROW_PROGRESS : Nat := 0x2052
/-- SRAM_SPARE_BANKS, 0x2054. -/
abbrev Od.SRAM_SPARE_BANKS : Nat := 0x2054
/-- SRAM_ROWS_REPAIRED, 0x2055. -/
abbrev Od.SRAM_ROWS_REPAIRED : Nat := 0x2055
/-- OPE_SPARE, 0x2056. -/
abbrev Od.OPE_SPARE : Nat := 0x2056
/-- CIPHER_SPARE, 0x2057. -/
abbrev Od.CIPHER_SPARE : Nat := 0x2057
/-- SHA_SPARE, 0x2058. -/
abbrev Od.SHA_SPARE : Nat := 0x2058
/-- MATCH_SPARE, 0x2059. -/
abbrev Od.MATCH_SPARE : Nat := 0x2059
/-- SCAP_SPARE, 0x205A. -/
abbrev Od.SCAP_SPARE : Nat := 0x205A
/-- PHASES_FAILED, 0x205B. -/
abbrev Od.PHASES_FAILED : Nat := 0x205B
/-- LPDDR_MAPPED_OUT, 0x205C. -/
abbrev Od.LPDDR_MAPPED_OUT : Nat := 0x205C
/-- TEMP_HISTORY, 0x2060. -/
abbrev Od.TEMP_HISTORY : Nat := 0x2060
/-- TEMP_MAX, 0x2061. -/
abbrev Od.TEMP_MAX : Nat := 0x2061
/-- TEMP_MIN, 0x2062. -/
abbrev Od.TEMP_MIN : Nat := 0x2062
/-- VIN_A_VOLTAGE, 0x2100. -/
abbrev Od.VIN_A_VOLTAGE : Nat := 0x2100
/-- VIN_B_VOLTAGE, 0x2101. -/
abbrev Od.VIN_B_VOLTAGE : Nat := 0x2101
/-- INPUT_CURRENT, 0x2102. -/
abbrev Od.INPUT_CURRENT : Nat := 0x2102
/-- INPUT_POWER, 0x2103. -/
abbrev Od.INPUT_POWER : Nat := 0x2103
/-- POWER_CAP, 0x2104. -/
abbrev Od.POWER_CAP : Nat := 0x2104
/-- SUPPLY_STATE, 0x2105. -/
abbrev Od.SUPPLY_STATE : Nat := 0x2105
/-- CNT_DROPOUTS, 0x2106. -/
abbrev Od.CNT_DROPOUTS : Nat := 0x2106
/-- CNT_RIDE_THROUGH_OK, 0x2107. -/
abbrev Od.CNT_RIDE_THROUGH_OK : Nat := 0x2107
/-- CNT_HEMS, 0x2108. -/
abbrev Od.CNT_HEMS : Nat := 0x2108
/-- LAST_HEM_MS, 0x2109. -/
abbrev Od.LAST_HEM_MS : Nat := 0x2109
/-- LAST_HEM_ENERGY, 0x210A. -/
abbrev Od.LAST_HEM_ENERGY : Nat := 0x210A
/-- CNT_HEM_INCOMPLETE, 0x210B. -/
abbrev Od.CNT_HEM_INCOMPLETE : Nat := 0x210B
/-- CNT_OVERVOLTAGE, 0x210C. -/
abbrev Od.CNT_OVERVOLTAGE : Nat := 0x210C
/-- CNT_REVERSE, 0x210D. -/
abbrev Od.CNT_REVERSE : Nat := 0x210D
/-- RIDE_THROUGH, 0x2110. -/
abbrev Od.RIDE_THROUGH : Nat := 0x2110
/-- HOLDUP_ENERGY, 0x2111. -/
abbrev Od.HOLDUP_ENERGY : Nat := 0x2111
/-- HOLDUP_NOW, 0x2112. -/
abbrev Od.HOLDUP_NOW : Nat := 0x2112
/-- HOLDUP_STATE, 0x2113. -/
abbrev Od.HOLDUP_STATE : Nat := 0x2113
/-- HEM_RESERVE, 0x2114. -/
abbrev Od.HEM_RESERVE : Nat := 0x2114
/-- SCAP_CELL, 0x2115. -/
abbrev Od.SCAP_CELL : Nat := 0x2115
/-- IGN_STATE, 0x2120. -/
abbrev Od.IGN_STATE : Nat := 0x2120
/-- IGN_DEBOUNCE, 0x2121. -/
abbrev Od.IGN_DEBOUNCE : Nat := 0x2121
/-- INCIDENT_STATE, 0x2122. -/
abbrev Od.INCIDENT_STATE : Nat := 0x2122
/-- INCIDENT_DEBOUNCE, 0x2123. -/
abbrev Od.INCIDENT_DEBOUNCE : Nat := 0x2123
/-- WAKE_OUT_MODE, 0x2124. -/
abbrev Od.WAKE_OUT_MODE : Nat := 0x2124
/-- WAKE_OUT_PULSE, 0x2125. -/
abbrev Od.WAKE_OUT_PULSE : Nat := 0x2125
/-- DISCRETE_OUT, 0x2126. -/
abbrev Od.DISCRETE_OUT : Nat := 0x2126
/-- BASEPLATE_TEMP, 0x2130. -/
abbrev Od.BASEPLATE_TEMP : Nat := 0x2130
/-- ENGINE_TEMP, 0x2131. -/
abbrev Od.ENGINE_TEMP : Nat := 0x2131
/-- SUPERVISOR_TEMP, 0x2132. -/
abbrev Od.SUPERVISOR_TEMP : Nat := 0x2132
/-- COLD_START_MS, 0x2133. -/
abbrev Od.COLD_START_MS : Nat := 0x2133
/-- CNT_THERMAL_STOPS, 0x2134. -/
abbrev Od.CNT_THERMAL_STOPS : Nat := 0x2134
/-- HUMIDITY, 0x2135. -/
abbrev Od.HUMIDITY : Nat := 0x2135
/-- HUMIDITY_MAX, 0x2136. -/
abbrev Od.HUMIDITY_MAX : Nat := 0x2136
/-- SHOCK_MAX, 0x2137. -/
abbrev Od.SHOCK_MAX : Nat := 0x2137
/-- SHOCK_THRESHOLD, 0x2138. -/
abbrev Od.SHOCK_THRESHOLD : Nat := 0x2138
/-- CNT_SHOCKS, 0x2139. -/
abbrev Od.CNT_SHOCKS : Nat := 0x2139
/-- ENGINE_POWER_STATE, 0x2180. -/
abbrev Od.ENGINE_POWER_STATE : Nat := 0x2180
/-- HUSH_IDLE, 0x2181. -/
abbrev Od.HUSH_IDLE : Nat := 0x2181
/-- DOZE_IDLE, 0x2182. -/
abbrev Od.DOZE_IDLE : Nat := 0x2182
/-- DOZE_DEPTH, 0x2183. -/
abbrev Od.DOZE_DEPTH : Nat := 0x2183
/-- DROWSE_ENABLE, 0x2184. -/
abbrev Od.DROWSE_ENABLE : Nat := 0x2184
/-- DROWSE_DEFER, 0x2185. -/
abbrev Od.DROWSE_DEFER : Nat := 0x2185
/-- DROWSE_DELAY, 0x2186. -/
abbrev Od.DROWSE_DELAY : Nat := 0x2186
/-- EXIT_LATENCY, 0x2187. -/
abbrev Od.EXIT_LATENCY : Nat := 0x2187
/-- STATE_SECONDS, 0x2188. -/
abbrev Od.STATE_SECONDS : Nat := 0x2188
/-- CNT_STATE_ENTRIES, 0x2189. -/
abbrev Od.CNT_STATE_ENTRIES : Nat := 0x2189
/-- CNT_ENTRY_ABANDONED, 0x218A. -/
abbrev Od.CNT_ENTRY_ABANDONED : Nat := 0x218A
/-- STARTUP_PHASE, 0x2190. -/
abbrev Od.STARTUP_PHASE : Nat := 0x2190
/-- LAST_START_KIND, 0x2191. -/
abbrev Od.LAST_START_KIND : Nat := 0x2191
/-- T_FIRST_ACCEPT, 0x2192. -/
abbrev Od.T_FIRST_ACCEPT : Nat := 0x2192
/-- T_FULL_SERVICE, 0x2193. -/
abbrev Od.T_FULL_SERVICE : Nat := 0x2193
/-- START_HISTORY_SOURCE, 0x2194. -/
abbrev Od.START_HISTORY_SOURCE : Nat := 0x2194
/-- CNT_STARTS, 0x2195. -/
abbrev Od.CNT_STARTS : Nat := 0x2195
/-- CLK_STATE, 0x21A0. -/
abbrev Od.CLK_STATE : Nat := 0x21A0
/-- CNT_CLK_REF_LOSS, 0x21A1. -/
abbrev Od.CNT_CLK_REF_LOSS : Nat := 0x21A1
/-- CLK_FREQ, 0x21A2. -/
abbrev Od.CLK_FREQ : Nat := 0x21A2
/-- DOMAINS_ON, 0x21B0. -/
abbrev Od.DOMAINS_ON : Nat := 0x21B0
/-- DOMAIN_SELECT, 0x21B1. -/
abbrev Od.DOMAIN_SELECT : Nat := 0x21B1
/-- DOMAIN_INFO, 0x21B2. -/
abbrev Od.DOMAIN_INFO : Nat := 0x21B2
/-- TAKEOVER_ENABLE, 0x2200. -/
abbrev Od.TAKEOVER_ENABLE : Nat := 0x2200
/-- TAKEOVER_DELAY, 0x2201. -/
abbrev Od.TAKEOVER_DELAY : Nat := 0x2201
/-- TAKEBACK_DELAY, 0x2202. -/
abbrev Od.TAKEBACK_DELAY : Nat := 0x2202
/-- TC10_ENABLE, 0x2203. -/
abbrev Od.TC10_ENABLE : Nat := 0x2203
/-- TSQ_AGE, 0x2204. -/
abbrev Od.TSQ_AGE : Nat := 0x2204
/-- CNT_TC10_WAKES, 0x2205. -/
abbrev Od.CNT_TC10_WAKES : Nat := 0x2205
/-- PORT_ENABLE, P1's 0x2210. -/
abbrev Od.PORT_ENABLE : Nat := 0x2210
/-- PORT_PHY_CONFIG, P1's 0x2211. -/
abbrev Od.PORT_PHY_CONFIG : Nat := 0x2211
/-- PORT_LINK, P1's 0x2212. -/
abbrev Od.PORT_LINK : Nat := 0x2212
/-- PORT_MAC, P1's 0x2213. -/
abbrev Od.PORT_MAC : Nat := 0x2213
/-- PORT_IPV4, P1's 0x2214. -/
abbrev Od.PORT_IPV4 : Nat := 0x2214
/-- PORT_IPV6, P1's 0x2215. -/
abbrev Od.PORT_IPV6 : Nat := 0x2215
/-- PORT_VLAN, P1's 0x2216. -/
abbrev Od.PORT_VLAN : Nat := 0x2216
/-- PORT_MTU, P1's 0x2217. -/
abbrev Od.PORT_MTU : Nat := 0x2217
/-- PORT_FLOW, P1's 0x2218. -/
abbrev Od.PORT_FLOW : Nat := 0x2218
/-- PAUSE_WDOG, P1's 0x2219. -/
abbrev Od.PAUSE_WDOG : Nat := 0x2219
/-- PORT_PTP, P1's 0x221A. -/
abbrev Od.PORT_PTP : Nat := 0x221A
/-- PORT_TXQ_DEPTH, P1's 0x221B. -/
abbrev Od.PORT_TXQ_DEPTH : Nat := 0x221B
/-- PORT_STATS, P1's 0x221C. -/
abbrev Od.PORT_STATS : Nat := 0x221C
/-- PORT_TSQ, P1's 0x221D. -/
abbrev Od.PORT_TSQ : Nat := 0x221D
/-- PORT_TAKEOVER, P1's 0x221E. -/
abbrev Od.PORT_TAKEOVER : Nat := 0x221E
/-- PORT_RX_FILL, P1's 0x221F. -/
abbrev Od.PORT_RX_FILL : Nat := 0x221F
/-- WKP_VERSIONS, 0x2300. -/
abbrev Od.WKP_VERSIONS : Nat := 0x2300
/-- WKP_V2_ENABLE, 0x2301. -/
abbrev Od.WKP_V2_ENABLE : Nat := 0x2301
/-- SESSION_LIMIT, 0x2302. -/
abbrev Od.SESSION_LIMIT : Nat := 0x2302
/-- SESSIONS_OPEN, 0x2303. -/
abbrev Od.SESSIONS_OPEN : Nat := 0x2303
/-- IDLE_TIMEOUT, 0x2304. -/
abbrev Od.IDLE_TIMEOUT : Nat := 0x2304
/-- HANDSHAKE_TIMEOUT, 0x2305. -/
abbrev Od.HANDSHAKE_TIMEOUT : Nat := 0x2305
/-- HALF_OPEN_LIMIT, 0x2306. -/
abbrev Od.HALF_OPEN_LIMIT : Nat := 0x2306
/-- COOKIE_ROTATION, 0x2307. -/
abbrev Od.COOKIE_ROTATION : Nat := 0x2307
/-- HELLO_RATE_PER_SOURCE, 0x2308. -/
abbrev Od.HELLO_RATE_PER_SOURCE : Nat := 0x2308
/-- SESSIONS_PER_SOURCE, 0x2309. -/
abbrev Od.SESSIONS_PER_SOURCE : Nat := 0x2309
/-- CREDIT_BYTES_MAX, 0x230A. -/
abbrev Od.CREDIT_BYTES_MAX : Nat := 0x230A
/-- CREDIT_CMDS_MAX, 0x230B. -/
abbrev Od.CREDIT_CMDS_MAX : Nat := 0x230B
/-- SLOTS_PER_SESSION, 0x230C. -/
abbrev Od.SLOTS_PER_SESSION : Nat := 0x230C
/-- GAP_TIMEOUT, 0x230D. -/
abbrev Od.GAP_TIMEOUT : Nat := 0x230D
/-- RESPONSE_HOLD, 0x230E. -/
abbrev Od.RESPONSE_HOLD : Nat := 0x230E
/-- ACK_DELAY, 0x230F. -/
abbrev Od.ACK_DELAY : Nat := 0x230F
/-- STALE_INTERVAL, 0x2310. -/
abbrev Od.STALE_INTERVAL : Nat := 0x2310
/-- REASSEMBLY_TIMEOUT, 0x2311. -/
abbrev Od.REASSEMBLY_TIMEOUT : Nat := 0x2311
/-- RESUME_WINDOW, 0x2312. -/
abbrev Od.RESUME_WINDOW : Nat := 0x2312
/-- ANCHOR_SELECT, 0x2320. -/
abbrev Od.ANCHOR_SELECT : Nat := 0x2320
/-- ANCHOR_CERT, 0x2321. -/
abbrev Od.ANCHOR_CERT : Nat := 0x2321
/-- ANCHOR_GROUP, 0x2322. -/
abbrev Od.ANCHOR_GROUP : Nat := 0x2322
/-- ANCHOR_STATE, 0x2323. -/
abbrev Od.ANCHOR_STATE : Nat := 0x2323
/-- REVOKED, 0x2325. -/
abbrev Od.REVOKED : Nat := 0x2325
/-- CERT_TIME_CHECK, 0x2326. -/
abbrev Od.CERT_TIME_CHECK : Nat := 0x2326
/-- CNT_COOKIES_SENT, 0x2330. -/
abbrev Od.CNT_COOKIES_SENT : Nat := 0x2330
/-- CNT_HELLO_RATE_DROPS, 0x2331. -/
abbrev Od.CNT_HELLO_RATE_DROPS : Nat := 0x2331
/-- CNT_MALFORMED, 0x2332. -/
abbrev Od.CNT_MALFORMED : Nat := 0x2332
/-- CNT_TAG_FAIL, 0x2333. -/
abbrev Od.CNT_TAG_FAIL : Nat := 0x2333
/-- CNT_AUTH_REFUSED, 0x2334. -/
abbrev Od.CNT_AUTH_REFUSED : Nat := 0x2334
/-- CNT_GAP_DROPS, 0x2335. -/
abbrev Od.CNT_GAP_DROPS : Nat := 0x2335
/-- CNT_NO_CREDIT, 0x2336. -/
abbrev Od.CNT_NO_CREDIT : Nat := 0x2336
/-- CNT_REASSEMBLY_DROPS, 0x2337. -/
abbrev Od.CNT_REASSEMBLY_DROPS : Nat := 0x2337
/-- CNT_STALE_SENT, 0x2338. -/
abbrev Od.CNT_STALE_SENT : Nat := 0x2338
/-- CNT_REPLAYED, 0x2339. -/
abbrev Od.CNT_REPLAYED : Nat := 0x2339
/-- SESSIONS_V2, 0x233A. -/
abbrev Od.SESSIONS_V2 : Nat := 0x233A
/-- INTAKE_STATE, 0x2400. -/
abbrev Od.INTAKE_STATE : Nat := 0x2400
/-- SERVICE_RESET, 0x2401. -/
abbrev Od.SERVICE_RESET : Nat := 0x2401
/-- POCKET_SIZE, 0x2402. -/
abbrev Od.POCKET_SIZE : Nat := 0x2402
/-- POCKET_USED, 0x2403. -/
abbrev Od.POCKET_USED : Nat := 0x2403
/-- POCKET_FILL, 0x2404. -/
abbrev Od.POCKET_FILL : Nat := 0x2404
/-- POCKET_THROTTLE, 0x2405. -/
abbrev Od.POCKET_THROTTLE : Nat := 0x2405
/-- CNT_POCKET_REFUSALS, 0x2407. -/
abbrev Od.CNT_POCKET_REFUSALS : Nat := 0x2407
/-- DISPATCH_AGE, 0x2410. -/
abbrev Od.DISPATCH_AGE : Nat := 0x2410
/-- SLOTS_IN_USE, 0x2411. -/
abbrev Od.SLOTS_IN_USE : Nat := 0x2411
/-- CNT_NO_SLOT, 0x2412. -/
abbrev Od.CNT_NO_SLOT : Nat := 0x2412
/-- OP_ENGINES, 0x2413. -/
abbrev Od.OP_ENGINES : Nat := 0x2413
/-- CNT_MACHINE_CHECK, 0x2414. -/
abbrev Od.CNT_MACHINE_CHECK : Nat := 0x2414
/-- CNT_FENCES, 0x2415. -/
abbrev Od.CNT_FENCES : Nat := 0x2415
/-- CNT_UNBOUND_FREED, 0x2416. -/
abbrev Od.CNT_UNBOUND_FREED : Nat := 0x2416
/-- LAST_RESET_CSN, 0x2418. -/
abbrev Od.LAST_RESET_CSN : Nat := 0x2418
/-- SERVICE_PAUSE_MAX, 0x2419. -/
abbrev Od.SERVICE_PAUSE_MAX : Nat := 0x2419
/-- NS_SELECT, 0x2500. -/
abbrev Od.NS_SELECT : Nat := 0x2500
/-- NS_STATE, 0x2501. -/
abbrev Od.NS_STATE : Nat := 0x2501
/-- NS_KIND_POLICY, 0x2502. -/
abbrev Od.NS_KIND_POLICY : Nat := 0x2502
/-- NS_WRITE_ONCE, 0x2503. -/
abbrev Od.NS_WRITE_ONCE : Nat := 0x2503
/-- NS_SEAL_POLICY, 0x2504. -/
abbrev Od.NS_SEAL_POLICY : Nat := 0x2504
/-- NS_RETENTION, 0x2505. -/
abbrev Od.NS_RETENTION : Nat := 0x2505
/-- NS_COUNTER_MODE, 0x2506. -/
abbrev Od.NS_COUNTER_MODE : Nat := 0x2506
/-- NS_QUOTA_BYTES, 0x2507. -/
abbrev Od.NS_QUOTA_BYTES : Nat := 0x2507
/-- NS_QUOTA_KEYS, 0x2508. -/
abbrev Od.NS_QUOTA_KEYS : Nat := 0x2508
/-- NS_USED_BYTES, 0x2509. -/
abbrev Od.NS_USED_BYTES : Nat := 0x2509
/-- NS_USED_KEYS, 0x250A. -/
abbrev Od.NS_USED_KEYS : Nat := 0x250A
/-- NS_ESSENTIAL, 0x250B. -/
abbrev Od.NS_ESSENTIAL : Nat := 0x250B
/-- NS_INCIDENT, 0x250C. -/
abbrev Od.NS_INCIDENT : Nat := 0x250C
/-- NS_ACCESS, 0x250D. -/
abbrev Od.NS_ACCESS : Nat := 0x250D
/-- NS_DATA_KEY_GEN, 0x250E. -/
abbrev Od.NS_DATA_KEY_GEN : Nat := 0x250E
/-- NS_HELD_BYTES, 0x250F. -/
abbrev Od.NS_HELD_BYTES : Nat := 0x250F
/-- NS_DEFINED_COUNT, 0x2520. -/
abbrev Od.NS_DEFINED_COUNT : Nat := 0x2520
/-- KEY_COUNT, 0x2521. -/
abbrev Od.KEY_COUNT : Nat := 0x2521
/-- KEY_LIMIT, 0x2522. -/
abbrev Od.KEY_LIMIT : Nat := 0x2522
/-- CSN_LAST, 0x2523. -/
abbrev Od.CSN_LAST : Nat := 0x2523
/-- EXPIRY_CLOCK, 0x2524. -/
abbrev Od.EXPIRY_CLOCK : Nat := 0x2524
/-- HOLD_COUNT, 0x2525. -/
abbrev Od.HOLD_COUNT : Nat := 0x2525
/-- STRIPE_COUNT, 0x2600. -/
abbrev Od.STRIPE_COUNT : Nat := 0x2600
/-- STRIPE_DATA, 0x2601. -/
abbrev Od.STRIPE_DATA : Nat := 0x2601
/-- FOLD_THRESHOLD, 0x2602. -/
abbrev Od.FOLD_THRESHOLD : Nat := 0x2602
/-- BIN_WIDTH, 0x2603. -/
abbrev Od.BIN_WIDTH : Nat := 0x2603
/-- BIN_IDLE, 0x2604. -/
abbrev Od.BIN_IDLE : Nat := 0x2604
/-- BINS_OPEN, 0x2605. -/
abbrev Od.BINS_OPEN : Nat := 0x2605
/-- BIN_SELECT, 0x2606. -/
abbrev Od.BIN_SELECT : Nat := 0x2606
/-- BIN_INFO, 0x2607. -/
abbrev Od.BIN_INFO : Nat := 0x2607
/-- USER_CAPACITY, 0x2610. -/
abbrev Od.USER_CAPACITY : Nat := 0x2610
/-- LIVE_BYTES, 0x2611. -/
abbrev Od.LIVE_BYTES : Nat := 0x2611
/-- HELD_BYTES, 0x2612. -/
abbrev Od.HELD_BYTES : Nat := 0x2612
/-- FREE_STRIPES, 0x2613. -/
abbrev Od.FREE_STRIPES : Nat := 0x2613
/-- COLLECT_START, 0x2614. -/
abbrev Od.COLLECT_START : Nat := 0x2614
/-- BIN_SIZING, 0x2615. -/
abbrev Od.BIN_SIZING : Nat := 0x2615
/-- SMALL_FOLD_USED, 0x2616. -/
abbrev Od.SMALL_FOLD_USED : Nat := 0x2616
/-- FOLD_START, 0x2617. -/
abbrev Od.FOLD_START : Nat := 0x2617
/-- FOLD_AGE, 0x2618. -/
abbrev Od.FOLD_AGE : Nat := 0x2618
/-- INCIDENT_WINDOW, 0x2620. -/
abbrev Od.INCIDENT_WINDOW : Nat := 0x2620
/-- INCIDENT_AFTER, 0x2621. -/
abbrev Od.INCIDENT_AFTER : Nat := 0x2621
/-- INCIDENT_REARM, 0x2622. -/
abbrev Od.INCIDENT_REARM : Nat := 0x2622
/-- INCIDENT_COUNT, 0x2623. -/
abbrev Od.INCIDENT_COUNT : Nat := 0x2623
/-- INCIDENT_LAST_CSN, 0x2624. -/
abbrev Od.INCIDENT_LAST_CSN : Nat := 0x2624
/-- INCIDENT_IGNORED, 0x2625. -/
abbrev Od.INCIDENT_IGNORED : Nat := 0x2625
/-- PATROL_PERIOD, 0x2630. -/
abbrev Od.PATROL_PERIOD : Nat := 0x2630
/-- PATROL_PROGRESS, 0x2631. -/
abbrev Od.PATROL_PROGRESS : Nat := 0x2631
/-- RELOCATE_BITS, 0x2632. -/
abbrev Od.RELOCATE_BITS : Nat := 0x2632
/-- TRACKER_SOURCE, 0x2633. -/
abbrev Od.TRACKER_SOURCE : Nat := 0x2633
/-- DIR_CHECKPOINT, 0x2634. -/
abbrev Od.DIR_CHECKPOINT : Nat := 0x2634
/-- DRAIN_IDLE, 0x2635. -/
abbrev Od.DRAIN_IDLE : Nat := 0x2635
/-- WEAR_USED, 0x2640. -/
abbrev Od.WEAR_USED : Nat := 0x2640
/-- WEAR_MAX_BLOCK, 0x2641. -/
abbrev Od.WEAR_MAX_BLOCK : Nat := 0x2641
/-- HOST_BYTES, 0x2642. -/
abbrev Od.HOST_BYTES : Nat := 0x2642
/-- MEDIA_BYTES, 0x2643. -/
abbrev Od.MEDIA_BYTES : Nat := 0x2643
/-- INDEX_BYTES, 0x2644. -/
abbrev Od.INDEX_BYTES : Nat := 0x2644
/-- WA_24H, 0x2645. -/
abbrev Od.WA_24H : Nat := 0x2645
/-- CNT_CORRECTED, 0x2646. -/
abbrev Od.CNT_CORRECTED : Nat := 0x2646
/-- CNT_UNCORRECTABLE, 0x2647. -/
abbrev Od.CNT_UNCORRECTABLE : Nat := 0x2647
/-- CNT_UNREADABLE, 0x2648. -/
abbrev Od.CNT_UNREADABLE : Nat := 0x2648
/-- CNT_RELOCATED, 0x2649. -/
abbrev Od.CNT_RELOCATED : Nat := 0x2649
/-- CNT_PROGRAM_FAIL, 0x264A. -/
abbrev Od.CNT_PROGRAM_FAIL : Nat := 0x264A
/-- CNT_ERASE_FAIL, 0x264B. -/
abbrev Od.CNT_ERASE_FAIL : Nat := 0x264B
/-- COLLECT_BYTES, 0x264C. -/
abbrev Od.COLLECT_BYTES : Nat := 0x264C
/-- FOLD_BYTES, 0x264D. -/
abbrev Od.FOLD_BYTES : Nat := 0x264D
/-- MATCH_ENTRIES, 0x2700. -/
abbrev Od.MATCH_ENTRIES : Nat := 0x2700
/-- MATCH_USED, 0x2701. -/
abbrev Od.MATCH_USED : Nat := 0x2701
/-- MATCH_GENERATION, 0x2702. -/
abbrev Od.MATCH_GENERATION : Nat := 0x2702
/-- MATCH_ENABLE, 0x2703. -/
abbrev Od.MATCH_ENABLE : Nat := 0x2703
/-- MATCH_TILE_MAP, 0x2704. -/
abbrev Od.MATCH_TILE_MAP : Nat := 0x2704
/-- MATCH_ACCESS, 0x2708. -/
abbrev Od.MATCH_ACCESS : Nat := 0x2708
/-- MATCH_LIST_SELECT, 0x2710. -/
abbrev Od.MATCH_LIST_SELECT : Nat := 0x2710
/-- LIST_ID, 0x2711. -/
abbrev Od.LIST_ID : Nat := 0x2711
/-- LIST_BASE, 0x2712. -/
abbrev Od.LIST_BASE : Nat := 0x2712
/-- LIST_SIZE, 0x2713. -/
abbrev Od.LIST_SIZE : Nat := 0x2713
/-- LIST_MODE, 0x2714. -/
abbrev Od.LIST_MODE : Nat := 0x2714
/-- LIST_COUNT, 0x2715. -/
abbrev Od.LIST_COUNT : Nat := 0x2715
/-- LIST_BUSY, 0x2716. -/
abbrev Od.LIST_BUSY : Nat := 0x2716
/-- CNT_MATCH_QUERIES, 0x2720. -/
abbrev Od.CNT_MATCH_QUERIES : Nat := 0x2720
/-- CNT_MATCH_HITS, 0x2721. -/
abbrev Od.CNT_MATCH_HITS : Nat := 0x2721
/-- CNT_MATCH_CHANGES, 0x2722. -/
abbrev Od.CNT_MATCH_CHANGES : Nat := 0x2722
/-- CNT_MATCH_REFUSED, 0x2723. -/
abbrev Od.CNT_MATCH_REFUSED : Nat := 0x2723
/-- CNT_MATCH_REPAIRS, 0x2724. -/
abbrev Od.CNT_MATCH_REPAIRS : Nat := 0x2724
/-- MATCH_DROPPED, 0x2725. -/
abbrev Od.MATCH_DROPPED : Nat := 0x2725
/-- CIPHER_CORES, 0x2800. -/
abbrev Od.CIPHER_CORES : Nat := 0x2800
/-- CIPHER_CORE_STATE, 0x2801. -/
abbrev Od.CIPHER_CORE_STATE : Nat := 0x2801
/-- LINING_STATE, 0x2802. -/
abbrev Od.LINING_STATE : Nat := 0x2802
/-- CIPHER_LOAD, 0x2803. -/
abbrev Od.CIPHER_LOAD : Nat := 0x2803
/-- KEY_CACHE_MISSES, 0x2804. -/
abbrev Od.KEY_CACHE_MISSES : Nat := 0x2804
/-- NONCE_BLOCKS, 0x2808. -/
abbrev Od.NONCE_BLOCKS : Nat := 0x2808
/-- CNT_CHUNK_TAG_FAIL, 0x2810. -/
abbrev Od.CNT_CHUNK_TAG_FAIL : Nat := 0x2810
/-- CNT_RETRY_RECOVERED, 0x2811. -/
abbrev Od.CNT_RETRY_RECOVERED : Nat := 0x2811
/-- CNT_PARTIAL, 0x2812. -/
abbrev Od.CNT_PARTIAL : Nat := 0x2812
/-- CNT_TAG_FAIL_FINAL, 0x2813. -/
abbrev Od.CNT_TAG_FAIL_FINAL : Nat := 0x2813
/-- CNT_META_TAG_FAIL, 0x2814. -/
abbrev Od.CNT_META_TAG_FAIL : Nat := 0x2814
/-- CNT_KAT_FAIL, 0x2815. -/
abbrev Od.CNT_KAT_FAIL : Nat := 0x2815
/-- KEYSTORE_STATE, 0x2820. -/
abbrev Od.KEYSTORE_STATE : Nat := 0x2820
/-- KEYSTORE_WRITES, 0x2821. -/
abbrev Od.KEYSTORE_WRITES : Nat := 0x2821
/-- CRYPTO_ERASE_CSN, 0x2822. -/
abbrev Od.CRYPTO_ERASE_CSN : Nat := 0x2822
/-- DRBG_STATE, 0x2830. -/
abbrev Od.DRBG_STATE : Nat := 0x2830
/-- DRBG_RESEED_INTERVAL, 0x2831. -/
abbrev Od.DRBG_RESEED_INTERVAL : Nat := 0x2831
/-- CNT_DRBG_RESEEDS, 0x2832. -/
abbrev Od.CNT_DRBG_RESEEDS : Nat := 0x2832
/-- CNT_ENTROPY_FAIL, 0x2833. -/
abbrev Od.CNT_ENTROPY_FAIL : Nat := 0x2833
/-- DEVICE_KEY_ID, 0x2900. -/
abbrev Od.DEVICE_KEY_ID : Nat := 0x2900
/-- DEVICE_CHAIN, 0x2901. -/
abbrev Od.DEVICE_CHAIN : Nat := 0x2901
/-- CNT_SIGNATURES, 0x2902. -/
abbrev Od.CNT_SIGNATURES : Nat := 0x2902
/-- CNT_VERIFICATIONS, 0x2903. -/
abbrev Od.CNT_VERIFICATIONS : Nat := 0x2903
/-- SEAL_INTERVAL, 0x2910. -/
abbrev Od.SEAL_INTERVAL : Nat := 0x2910
/-- SEAL_NS_SELECT, 0x2911. -/
abbrev Od.SEAL_NS_SELECT : Nat := 0x2911
/-- SEAL_NEXT_SEQ, 0x2912. -/
abbrev Od.SEAL_NEXT_SEQ : Nat := 0x2912
/-- SEAL_CHAIN_COUNT, 0x2913. -/
abbrev Od.SEAL_CHAIN_COUNT : Nat := 0x2913
/-- SEAL_SEQ_SELECT, 0x2914. -/
abbrev Od.SEAL_SEQ_SELECT : Nat := 0x2914
/-- SEAL_LINKS, 0x2915. -/
abbrev Od.SEAL_LINKS : Nat := 0x2915
/-- SEAL_LAG_MAX, 0x2916. -/
abbrev Od.SEAL_LAG_MAX : Nat := 0x2916
/-- LEDGER_COUNT, 0x2917. -/
abbrev Od.LEDGER_COUNT : Nat := 0x2917
/-- LEDGER_SELECT, 0x2918. -/
abbrev Od.LEDGER_SELECT : Nat := 0x2918
/-- LEDGER_RECORD, 0x2919. -/
abbrev Od.LEDGER_RECORD : Nat := 0x2919
/-- ATTEST_NONCE, 0x2920. -/
abbrev Od.ATTEST_NONCE : Nat := 0x2920
/-- ATTEST_REPORT, 0x2921. -/
abbrev Od.ATTEST_REPORT : Nat := 0x2921
/-- TIME_SOURCE, 0x2930. -/
abbrev Od.TIME_SOURCE : Nat := 0x2930
/-- TIME_SOURCE_ENABLE, 0x2931. -/
abbrev Od.TIME_SOURCE_ENABLE : Nat := 0x2931
/-- TIME_VALID, 0x2932. -/
abbrev Od.TIME_VALID : Nat := 0x2932
/-- DEVICE_TIME, 0x2933. -/
abbrev Od.DEVICE_TIME : Nat := 0x2933
/-- TIME_EPOCH, 0x2934. -/
abbrev Od.TIME_EPOCH : Nat := 0x2934
/-- STEP_THRESHOLD, 0x2935. -/
abbrev Od.STEP_THRESHOLD : Nat := 0x2935
/-- SLEW_MAX, 0x2936. -/
abbrev Od.SLEW_MAX : Nat := 0x2936
/-- TAI_UTC_OFFSET, 0x2937. -/
abbrev Od.TAI_UTC_OFFSET : Nat := 0x2937
/-- PTP_DOMAIN, 0x2938. -/
abbrev Od.PTP_DOMAIN : Nat := 0x2938
/-- FREQ_OFFSET, 0x2939. -/
abbrev Od.FREQ_OFFSET : Nat := 0x2939
/-- OFFSET_LAST, 0x293A. -/
abbrev Od.OFFSET_LAST : Nat := 0x293A
/-- CNT_STEPS_BACK, 0x293B. -/
abbrev Od.CNT_STEPS_BACK : Nat := 0x293B
/-- CNT_STEPS_FWD, 0x293C. -/
abbrev Od.CNT_STEPS_FWD : Nat := 0x293C
/-- PPS_OUT_ENABLE, 0x293D. -/
abbrev Od.PPS_OUT_ENABLE : Nat := 0x293D
/-- HOLDOVER_LIMIT, 0x293E. -/
abbrev Od.HOLDOVER_LIMIT : Nat := 0x293E
/-- LAST_STEP_NS, 0x293F. -/
abbrev Od.LAST_STEP_NS : Nat := 0x293F
/-- CNT_PPS_REJECTED, 0x2940. -/
abbrev Od.CNT_PPS_REJECTED : Nat := 0x2940
/-- SEAM_STATE, 0x2A00. -/
abbrev Od.SEAM_STATE : Nat := 0x2A00
/-- SEAM_WIDTH, 0x2A01. -/
abbrev Od.SEAM_WIDTH : Nat := 0x2A01
/-- SEAM_RATE, 0x2A02. -/
abbrev Od.SEAM_RATE : Nat := 0x2A02
/-- SEAM_CRC_RETRIES, 0x2A03. -/
abbrev Od.SEAM_CRC_RETRIES : Nat := 0x2A03
/-- ENGINE_EPOCH, 0x2A04. -/
abbrev Od.ENGINE_EPOCH : Nat := 0x2A04
/-- SUPERVISOR_EPOCH, 0x2A05. -/
abbrev Od.SUPERVISOR_EPOCH : Nat := 0x2A05
/-- LAST_ATTACH, 0x2A06. -/
abbrev Od.LAST_ATTACH : Nat := 0x2A06
/-- SUP_RESTARTS, 0x2A07. -/
abbrev Od.SUP_RESTARTS : Nat := 0x2A07
/-- SEAM_LOSSES, 0x2A08. -/
abbrev Od.SEAM_LOSSES : Nat := 0x2A08
/-- ORPHAN_SECONDS, 0x2A09. -/
abbrev Od.ORPHAN_SECONDS : Nat := 0x2A09
/-- ORPHAN_LONGEST, 0x2A0A. -/
abbrev Od.ORPHAN_LONGEST : Nat := 0x2A0A
/-- SEAM_EVENTS_LOST, 0x2A0B. -/
abbrev Od.SEAM_EVENTS_LOST : Nat := 0x2A0B
/-- SEAM_ACCESS_REFUSED, 0x2A0C. -/
abbrev Od.SEAM_ACCESS_REFUSED : Nat := 0x2A0C
/-- SUP_SLOTS_BUSY, 0x2A0D. -/
abbrev Od.SUP_SLOTS_BUSY : Nat := 0x2A0D
/-- EVENT_SOURCES, 0x2B00. -/
abbrev Od.EVENT_SOURCES : Nat := 0x2B00
/-- EVENT_SELECT, 0x2B01. -/
abbrev Od.EVENT_SELECT : Nat := 0x2B01
/-- EVENT_ROUTE, 0x2B02. -/
abbrev Od.EVENT_ROUTE : Nat := 0x2B02
/-- EVENT_SEVERITY, 0x2B03. -/
abbrev Od.EVENT_SEVERITY : Nat := 0x2B03
/-- EVENT_COUNT, 0x2B04. -/
abbrev Od.EVENT_COUNT : Nat := 0x2B04
/-- EVENT_LAST_DT, 0x2B05. -/
abbrev Od.EVENT_LAST_DT : Nat := 0x2B05
/-- EVENT_SUPPRESSED, 0x2B06. -/
abbrev Od.EVENT_SUPPRESSED : Nat := 0x2B06
/-- EVENT_RATE, 0x2B07. -/
abbrev Od.EVENT_RATE : Nat := 0x2B07
/-- EVENT_TEST, 0x2B08. -/
abbrev Od.EVENT_TEST : Nat := 0x2B08
/-- REC_CURSOR, 0x2B10. -/
abbrev Od.REC_CURSOR : Nat := 0x2B10
/-- REC_READ_MAX, 0x2B11. -/
abbrev Od.REC_READ_MAX : Nat := 0x2B11
/-- REC_READ, 0x2B12. -/
abbrev Od.REC_READ : Nat := 0x2B12
/-- REC_NEXT, 0x2B13. -/
abbrev Od.REC_NEXT : Nat := 0x2B13
/-- REC_OLDEST, 0x2B14. -/
abbrev Od.REC_OLDEST : Nat := 0x2B14
/-- REC_FREEZE, 0x2B15. -/
abbrev Od.REC_FREEZE : Nat := 0x2B15
/-- REC_PENDING, 0x2B16. -/
abbrev Od.REC_PENDING : Nat := 0x2B16
/-- REC_PENDING_LOST, 0x2B17. -/
abbrev Od.REC_PENDING_LOST : Nat := 0x2B17
/-- REC_STATE, 0x2B18. -/
abbrev Od.REC_STATE : Nat := 0x2B18
/-- REC_NOR_READ, 0x2B19. -/
abbrev Od.REC_NOR_READ : Nat := 0x2B19
/-- REC_FAULT_CLEAR, 0x2B1A. -/
abbrev Od.REC_FAULT_CLEAR : Nat := 0x2B1A
/-- PERF_SELECT, 0x2C00. -/
abbrev Od.PERF_SELECT : Nat := 0x2C00
/-- PERF_VALUE, 0x2C01. -/
abbrev Od.PERF_VALUE : Nat := 0x2C01
/-- DUMP_COUNT, 0x2D00. -/
abbrev Od.DUMP_COUNT : Nat := 0x2D00
/-- DUMP_HELD, 0x2D01. -/
abbrev Od.DUMP_HELD : Nat := 0x2D01
/-- DUMP_SELECT, 0x2D02. -/
abbrev Od.DUMP_SELECT : Nat := 0x2D02
/-- DUMP_HEADER, 0x2D03. -/
abbrev Od.DUMP_HEADER : Nat := 0x2D03
/-- DUMP_DATA, 0x2D04. -/
abbrev Od.DUMP_DATA : Nat := 0x2D04
/-- DUMP_REQUEST, 0x2D05. -/
abbrev Od.DUMP_REQUEST : Nat := 0x2D05
/-- DUMP_STATE, 0x2D06. -/
abbrev Od.DUMP_STATE : Nat := 0x2D06
/-- MCODE_ROM_ID, 0x2E00. -/
abbrev Od.MCODE_ROM_ID : Nat := 0x2E00
/-- MCODE_PATCH_STATE, 0x2E01. -/
abbrev Od.MCODE_PATCH_STATE : Nat := 0x2E01
/-- MCODE_SLOTS_USED, 0x2E02. -/
abbrev Od.MCODE_SLOTS_USED : Nat := 0x2E02
/-- MCODE_SLOTS_BY_STORE, 0x2E03. -/
abbrev Od.MCODE_SLOTS_BY_STORE : Nat := 0x2E03
/-- MCODE_LOAD_MS, 0x2E06. -/
abbrev Od.MCODE_LOAD_MS : Nat := 0x2E06
/-- CNT_MCODE_PARITY, 0x2E08. -/
abbrev Od.CNT_MCODE_PARITY : Nat := 0x2E08
/-- CNT_STORE_RELOADS, 0x2E09. -/
abbrev Od.CNT_STORE_RELOADS : Nat := 0x2E09
/-- CNT_STEP_OVERRUN, 0x2E0A. -/
abbrev Od.CNT_STEP_OVERRUN : Nat := 0x2E0A
/-- MCODE_REJECT_REASON, 0x2E0B. -/
abbrev Od.MCODE_REJECT_REASON : Nat := 0x2E0B
/-- STEP_MAX_CYCLES, 0x2E0C. -/
abbrev Od.STEP_MAX_CYCLES : Nat := 0x2E0C
/-- FW_STATE, 0x2F00. -/
abbrev Od.FW_STATE : Nat := 0x2F00
/-- FW_CONTROL, 0x2F01. -/
abbrev Od.FW_CONTROL : Nat := 0x2F01
/-- FW_REFUSE_REASON, 0x2F02. -/
abbrev Od.FW_REFUSE_REASON : Nat := 0x2F02
/-- FW_OWNER, 0x2F03. -/
abbrev Od.FW_OWNER : Nat := 0x2F03
/-- FW_RECEIVED, 0x2F04. -/
abbrev Od.FW_RECEIVED : Nat := 0x2F04
/-- FW_IMAGE_LEN, 0x2F05. -/
abbrev Od.FW_IMAGE_LEN : Nat := 0x2F05
/-- FW_PROGRESS, 0x2F06. -/
abbrev Od.FW_PROGRESS : Nat := 0x2F06
/-- FW_CONFIRM_WINDOW, 0x2F08. -/
abbrev Od.FW_CONFIRM_WINDOW : Nat := 0x2F08
/-- FW_CONFIRM_REMAINING, 0x2F09. -/
abbrev Od.FW_CONFIRM_REMAINING : Nat := 0x2F09
/-- FW_SELFTEST, 0x2F0A. -/
abbrev Od.FW_SELFTEST : Nat := 0x2F0A
/-- FW_LAST_PAUSE_US, 0x2F0B. -/
abbrev Od.FW_LAST_PAUSE_US : Nat := 0x2F0B
/-- FW_ACTIVATIONS, 0x2F0C. -/
abbrev Od.FW_ACTIVATIONS : Nat := 0x2F0C
/-- FW_FALLBACKS, 0x2F0D. -/
abbrev Od.FW_FALLBACKS : Nat := 0x2F0D
/-- FW_IMAGE, 0x2F10. -/
abbrev Od.FW_IMAGE : Nat := 0x2F10
/-- FW_HEADER, 0x2F11. -/
abbrev Od.FW_HEADER : Nat := 0x2F11
/-- FW_RUNNING, 0x2F20. -/
abbrev Od.FW_RUNNING : Nat := 0x2F20
/-- FW_RUNNING_COMPAT, 0x2F21. -/
abbrev Od.FW_RUNNING_COMPAT : Nat := 0x2F21
/-- FW_RUNNING_EPOCH, 0x2F22. -/
abbrev Od.FW_RUNNING_EPOCH : Nat := 0x2F22
/-- FW_FUSE_EPOCH, 0x2F23. -/
abbrev Od.FW_FUSE_EPOCH : Nat := 0x2F23
/-- FW_STAGED, 0x2F24. -/
abbrev Od.FW_STAGED : Nat := 0x2F24
/-- FW_RELEASE, 0x2F25. -/
abbrev Od.FW_RELEASE : Nat := 0x2F25
/-- FW_STAGED_RELEASE, 0x2F26. -/
abbrev Od.FW_STAGED_RELEASE : Nat := 0x2F26
/-- SANITISE_REQUEST, 0x3000. -/
abbrev Od.SANITISE_REQUEST : Nat := 0x3000
/-- SANITISE_STATE, 0x3001. -/
abbrev Od.SANITISE_STATE : Nat := 0x3001
/-- SANITISE_QUEUED, 0x3002. -/
abbrev Od.SANITISE_QUEUED : Nat := 0x3002
/-- SANITISE_PROGRESS, 0x3003. -/
abbrev Od.SANITISE_PROGRESS : Nat := 0x3003
/-- SANITISE_CSN, 0x3004. -/
abbrev Od.SANITISE_CSN : Nat := 0x3004
/-- FORMAT_REQUEST, 0x3008. -/
abbrev Od.FORMAT_REQUEST : Nat := 0x3008
/-- FORMAT_STATE, 0x3009. -/
abbrev Od.FORMAT_STATE : Nat := 0x3009
/-- FORMAT_PROGRESS, 0x300A. -/
abbrev Od.FORMAT_PROGRESS : Nat := 0x300A
/-- FORMAT_CSN, 0x300B. -/
abbrev Od.FORMAT_CSN : Nat := 0x300B
/-- DIAG_SPACE, 0x4000. -/
abbrev Od.DIAG_SPACE : Nat := 0x4000
/-- DIAG_ADDRESS, 0x4001. -/
abbrev Od.DIAG_ADDRESS : Nat := 0x4001
/-- DIAG_WORDS, 0x4002. -/
abbrev Od.DIAG_WORDS : Nat := 0x4002
/-- DIAG_DATA, 0x4003. -/
abbrev Od.DIAG_DATA : Nat := 0x4003

/-- Entries 0x1000–0x10FF. -/
def odRows10 : List OdRow := [
  ⟨0x1000, 0x1000, 0, 0, .uint 4, some 0, none, 0x00000000, 0, .any⟩,
  ⟨0x1001, 0x1001, 0, 0, .uint 1, some 0, none, 0, 1, .any⟩,
  ⟨0x1003, 0x1003, 0, 0, .uint 1, some 0, some 1, 0, 1, .upTo 0⟩,
  ⟨0x1003, 0x1003, 1, 8, .uint 4, some 0, none, 0, 1, .any⟩,
  ⟨0x1005, 0x1005, 0, 0, .uint 4, some 0, some 1, 0x00000080, 2, .cobId⟩,
  ⟨0x1008, 0x1008, 0, 0, .text, some 0, none, 0, 0, .any⟩,
  ⟨0x1009, 0x1009, 0, 0, .text, some 0, none, 0, 0, .any⟩,
  ⟨0x100A, 0x100A, 0, 0, .text, some 0, none, 0, 0, .any⟩,
  ⟨0x1010, 0x1010, 0, 0, .uint 1, some 0, none, 1, 0, .any⟩,
  ⟨0x1010, 0x1010, 1, 1, .uint 4, some 0, some 1, 0x00000002, 0, .any⟩,
  ⟨0x1011, 0x1011, 0, 0, .uint 1, some 0, none, 2, 0, .any⟩,
  ⟨0x1011, 0x1011, 1, 1, .uint 4, some 0, none, 0x00000000, 0, .any⟩,
  ⟨0x1011, 0x1011, 2, 2, .uint 4, some 0, some 1, 0x00000001, 0, .any⟩,
  ⟨0x1012, 0x1012, 0, 0, .uint 4, some 0, some 1, 0x80000100, 2, .cobTime⟩,
  ⟨0x1014, 0x1014, 0, 0, .uint 4, some 0, some 1, 0, 2, .cobEmcy⟩,
  ⟨0x1015, 0x1015, 0, 0, .uint 2, some 0, some 1, 0, 2, .any⟩,
  ⟨0x1017, 0x1017, 0, 0, .uint 2, some 0, some 1, 1000, 2, .heartbeat⟩,
  ⟨0x1018, 0x1018, 0, 0, .uint 1, some 0, none, 4, 0, .any⟩,
  ⟨0x1018, 0x1018, 1, 1, .uint 4, some 0, none, 0x5A4B0960, 0, .any⟩,
  ⟨0x1018, 0x1018, 2, 2, .uint 4, some 0, none, 0, 0, .any⟩,
  ⟨0x1018, 0x1018, 3, 3, .uint 4, some 0, none, 0, 0, .any⟩,
  ⟨0x1018, 0x1018, 4, 4, .uint 4, some 0, none, 0, 0, .any⟩]

/-- Entries 0x1200–0x12FF. -/
def odRows12 : List OdRow := [
  ⟨0x1200, 0x1200, 0, 0, .uint 1, some 0, none, 2, 0, .any⟩,
  ⟨0x1200, 0x1200, 1, 2, .uint 4, some 0, none, 0, 0, .any⟩]

/-- Entries 0x1400–0x14FF. -/
def odRows14 : List OdRow := [
  ⟨0x1400, 0x1403, 0, 0, .uint 1, some 0, none, 2, 0, .any⟩,
  ⟨0x1400, 0x1403, 1, 1, .uint 4, some 0, some 1, 0, 2, .cobPdo⟩,
  ⟨0x1400, 0x1403, 2, 2, .uint 1, some 0, some 1, 255, 2, .rpdoType⟩]

/-- Entries 0x1600–0x16FF. -/
def odRows16 : List OdRow := [
  ⟨0x1600, 0x1603, 0, 0, .uint 1, some 0, some 1, 0, 2, .upTo 8⟩,
  ⟨0x1600, 0x1603, 1, 8, .uint 4, some 0, some 1, 0, 2, .any⟩]

/-- Entries 0x1800–0x18FF. -/
def odRows18 : List OdRow := [
  ⟨0x1800, 0x1807, 0, 0, .uint 1, some 0, none, 5, 0, .any⟩,
  ⟨0x1800, 0x1807, 1, 1, .uint 4, some 0, some 1, 0, 2, .cobPdo⟩,
  ⟨0x1800, 0x1807, 2, 2, .uint 1, some 0, some 1, 254, 2, .tpdoType⟩,
  ⟨0x1800, 0x1807, 3, 3, .uint 2, some 0, some 1, 0, 2, .any⟩,
  ⟨0x1800, 0x1807, 5, 5, .uint 2, some 0, some 1, 0, 2, .any⟩]

/-- Entries 0x1A00–0x1AFF. -/
def odRows1A : List OdRow := [
  ⟨0x1A00, 0x1A07, 0, 0, .uint 1, some 0, some 1, 0, 2, .upTo 8⟩,
  ⟨0x1A00, 0x1A07, 1, 8, .uint 4, some 0, some 1, 0, 2, .any⟩]

/-- Entries 0x1F00–0x1FFF. -/
def odRows1F : List OdRow := [
  ⟨0x1F80, 0x1F80, 0, 0, .uint 4, some 0, some 1, 0x00000004, 2, .oneOf [0, 4]⟩]

/-- Entries 0x2000–0x20FF, part 1. -/
def odRows20a : List OdRow := [
  ⟨0x2040, 0x2040, 0, 0, .uint 1, some 0, none, 1, 1, .any⟩,
  ⟨0x2041, 0x2041, 0, 0, .uint 1, some 0, none, 1, 2, .any⟩,
  ⟨0x2042, 0x2042, 0, 0, .uint 4, some 0, none, 0, 1, .any⟩,
  ⟨0x2043, 0x2043, 0, 0, .uint 4, some 0, none, 0, 2, .any⟩,
  ⟨0x2044, 0x2044, 0, 0, .uint 1, some 0, none, 0, 2, .any⟩,
  ⟨0x2045, 0x2045, 0, 0, .uint 1, some 0, none, 16, 0, .any⟩,
  ⟨0x2045, 0x2045, 1, 16, .uint 1, some 0, none, 0, 2, .any⟩,
  ⟨0x2046, 0x2046, 0, 0, .uint 1, some 0, none, 0, 2, .any⟩,
  ⟨0x2047, 0x2047, 0, 0, .uint 2, some 0, some 0, 0, 1, .upTo 639⟩,
  ⟨0x2048, 0x2048, 0, 0, .uint 1, some 0, none, 0, 2, .any⟩,
  ⟨0x2049, 0x2049, 0, 0, .uint 2, some 0, none, 0, 2, .any⟩,
  ⟨0x204A, 0x204A, 0, 0, .uint 2, some 0, none, 0, 2, .any⟩,
  ⟨0x204B, 0x204B, 0, 0, .uint 1, some 0, none, 0, 2, .any⟩,
  ⟨0x204C, 0x204C, 0, 0, .uint 2, some 0, none, 0xFFFF, 2, .any⟩,
  ⟨0x204D, 0x204D, 0, 0, .uint 1, some 0, none, 0, 2, .any⟩,
  ⟨0x204E, 0x204E, 0, 0, .uint 1, some 0, none, 0, 2, .any⟩,
  ⟨0x2050, 0x2050, 0, 0, .uint 2, some 0, none, 0, 2, .any⟩,
  ⟨0x2051, 0x2051, 0, 0, .uint 2, some 0, none, 0, 2, .any⟩,
  ⟨0x2052, 0x2052, 0, 0, .uint 1, some 0, none, 0, 2, .any⟩,
  ⟨0x2054, 0x2054, 0, 0, .uint 1, some 0, none, 2, 2, .any⟩,
  ⟨0x2055, 0x2055, 0, 0, .uint 2, some 0, none, 0, 2, .any⟩,
  ⟨0x2056, 0x2056, 0, 0, .uint 1, some 0, none, 4, 2, .any⟩,
  ⟨0x2057, 0x2057, 0, 0, .uint 1, some 0, none, 2, 2, .any⟩,
  ⟨0x2058, 0x2058, 0, 0, .uint 1, some 0, none, 1, 2, .any⟩,
  ⟨0x2059, 0x2059, 0, 0, .uint 1, some 0, none, 1, 2, .any⟩,
  ⟨0x205A, 0x205A, 0, 0, .uint 1, some 0, none, 1, 2, .any⟩,
  ⟨0x205B, 0x205B, 0, 0, .uint 1, some 0, none, 0, 2, .any⟩,
  ⟨0x205C, 0x205C, 0, 0, .uint 1, some 0, none, 0, 2, .any⟩,
  ⟨0x2060, 0x2060, 0, 0, .uint 1, some 0, none, 16, 0, .any⟩,
  ⟨0x2060, 0x2060, 1, 16, .uint 4, some 0, none, 0, 2, .any⟩,
  ⟨0x2061, 0x2061, 0, 0, .int 2, some 0, none, 0, 2, .any⟩,
  ⟨0x2062, 0x2062, 0, 0, .int 2, some 0, none, 0, 2, .any⟩,
  ⟨0x2000, 0x2000, 0, 0, .text, some 0, none, 0, 0, .any⟩,
  ⟨0x2001, 0x2001, 0, 0, .text, some 0, none, 0, 0, .any⟩,
  ⟨0x2002, 0x2002, 0, 0, .uint 4, some 0, none, 0, 0, .any⟩,
  ⟨0x2003, 0x2003, 0, 0, .text, some 0, none, 0, 0, .any⟩,
  ⟨0x2004, 0x2004, 0, 0, .text, some 0, none, 0, 0, .any⟩,
  ⟨0x2005, 0x2005, 0, 0, .uint 8, some 0, none, 0, 0, .any⟩,
  ⟨0x2006, 0x2006, 0, 0, .uint 1, some 0, none, 0, 0, .any⟩,
  ⟨0x2007, 0x2007, 0, 0, .uint 1, some 0, none, 0, 0, .any⟩]

/-- Entries 0x2000–0x20FF, part 2. -/
def odRows20b : List OdRow := [
  ⟨0x2008, 0x2008, 0, 0, .octets 6, some 0, none, 0, 0, .any⟩,
  ⟨0x2009, 0x2009, 0, 0, .uint 4, some 0, none, 0, 2, .any⟩,
  ⟨0x200A, 0x200A, 0, 0, .uint 4, some 0, none, 0, 2, .any⟩,
  ⟨0x200B, 0x200B, 0, 0, .uint 8, some 0, none, 0, 2, .any⟩,
  ⟨0x200C, 0x200C, 0, 0, .octets 64, some 0, none, 0, 1, .any⟩,
  ⟨0x200D, 0x200D, 0, 0, .uint 2, some 0, none, 0, 0, .any⟩,
  ⟨0x200E, 0x200E, 0, 0, .uint 1, some 0, none, 0, 1, .any⟩,
  ⟨0x2010, 0x2010, 0, 0, .uint 1, some 0, none, 0, 1, .any⟩,
  ⟨0x2011, 0x2011, 0, 0, .uint 1, some 0, none, 254, 0, .any⟩,
  ⟨0x2011, 0x2011, 1, 254, .uint 1, some 0, some 3, 1, 2, .upTo 3⟩,
  ⟨0x2012, 0x2012, 0, 0, .uint 1, some 0, none, 2, 0, .any⟩,
  ⟨0x2012, 0x2012, 1, 2, .uint 1, some 0, some 3, 1, 2, .upTo 2⟩,
  ⟨0x2020, 0x2020, 0, 0, .uint 1, some 0, some 0, 1, 1, .between 1 2⟩,
  ⟨0x2021, 0x2021, 0, 0, .uint 1, some 0, some 2, 0, 2, .upTo 1⟩,
  ⟨0x2022, 0x2022, 0, 0, .uint 1, some 0, none, 2, 0, .any⟩,
  ⟨0x2022, 0x2022, 1, 2, .uint 1, some 0, some 2, 0x3A, 2, .nodeId⟩,
  ⟨0x2023, 0x2023, 0, 0, .uint 1, some 0, none, 2, 0, .any⟩,
  ⟨0x2023, 0x2023, 1, 2, .uint 2, some 0, some 2, 500, 2, .oneOf [125, 250, 500, 1000]⟩,
  ⟨0x2024, 0x2024, 0, 0, .uint 1, some 0, none, 2, 0, .any⟩,
  ⟨0x2024, 0x2024, 1, 2, .uint 1, some 0, none, 0, 1, .any⟩,
  ⟨0x2025, 0x2025, 0, 0, .uint 1, some 0, none, 2, 0, .any⟩,
  ⟨0x2025, 0x2025, 1, 2, .uint 1, some 0, none, 0, 1, .any⟩,
  ⟨0x2026, 0x2026, 0, 0, .uint 1, some 0, none, 2, 0, .any⟩,
  ⟨0x2026, 0x2026, 1, 2, .bool, some 0, some 2, 0, 2, .any⟩,
  ⟨0x2027, 0x2027, 0, 0, .uint 1, some 0, none, 2, 0, .any⟩,
  ⟨0x2027, 0x2027, 1, 2, .uint 4, some 0, some 2, 0x00000000, 2, .upTo 0x7FF⟩,
  ⟨0x2028, 0x2028, 0, 0, .uint 1, some 0, none, 2, 0, .any⟩,
  ⟨0x2028, 0x2028, 1, 2, .uint 4, some 0, some 2, 0x000007FF, 2, .upTo 0x7FF⟩,
  ⟨0x2029, 0x2029, 0, 0, .uint 1, some 0, none, 2, 0, .any⟩,
  ⟨0x2029, 0x2029, 1, 2, .uint 1, some 0, some 2, 2, 2, .upTo 8⟩,
  ⟨0x202A, 0x202A, 0, 0, .uint 1, some 0, none, 2, 0, .any⟩,
  ⟨0x202A, 0x202A, 1, 2, .uint 8, some 0, some 2, 0x0100000000000000, 2, .any⟩,
  ⟨0x2030, 0x2030, 0, 0, .uint 1, some 0, none, 2, 0, .any⟩,
  ⟨0x2030, 0x2030, 1, 2, .uint 4, some 0, none, 0, 1, .any⟩,
  ⟨0x2031, 0x2031, 0, 0, .uint 1, some 0, none, 2, 0, .any⟩,
  ⟨0x2031, 0x2031, 1, 2, .uint 4, some 0, none, 0, 1, .any⟩,
  ⟨0x2032, 0x2032, 0, 0, .uint 1, some 0, none, 2, 0, .any⟩,
  ⟨0x2032, 0x2032, 1, 2, .uint 4, some 0, none, 0, 1, .any⟩,
  ⟨0x2033, 0x2033, 0, 0, .uint 1, some 0, none, 2, 0, .any⟩,
  ⟨0x2033, 0x2033, 1, 2, .uint 4, some 0, none, 0, 1, .any⟩]

/-- Entries 0x2000–0x20FF, part 3. -/
def odRows20c : List OdRow := [
  ⟨0x2034, 0x2034, 0, 0, .uint 1, some 0, none, 2, 0, .any⟩,
  ⟨0x2034, 0x2034, 1, 2, .uint 4, some 0, none, 0, 2, .any⟩]

/-- Entries 0x2100–0x21FF, part 1. -/
def odRows21a : List OdRow := [
  ⟨0x2100, 0x2100, 0, 0, .int 4, some 0, none, 0, 1, .any⟩,
  ⟨0x2101, 0x2101, 0, 0, .int 4, some 0, none, 0, 1, .any⟩,
  ⟨0x2102, 0x2102, 0, 0, .uint 2, some 0, none, 0, 1, .any⟩,
  ⟨0x2103, 0x2103, 0, 0, .uint 2, some 0, none, 0, 1, .any⟩,
  ⟨0x2104, 0x2104, 0, 0, .uint 2, some 0, none, 720, 1, .any⟩,
  ⟨0x2105, 0x2105, 0, 0, .uint 1, some 0, none, 0, 1, .any⟩,
  ⟨0x2106, 0x2106, 0, 0, .uint 4, some 0, none, 0, 2, .any⟩,
  ⟨0x2107, 0x2107, 0, 0, .uint 4, some 0, none, 0, 2, .any⟩,
  ⟨0x2108, 0x2108, 0, 0, .uint 4, some 0, none, 0, 2, .any⟩,
  ⟨0x2109, 0x2109, 0, 0, .uint 2, some 0, none, 0, 2, .any⟩,
  ⟨0x210A, 0x210A, 0, 0, .uint 2, some 0, none, 0, 2, .any⟩,
  ⟨0x210B, 0x210B, 0, 0, .uint 4, some 0, none, 0, 2, .any⟩,
  ⟨0x210C, 0x210C, 0, 0, .uint 4, some 0, none, 0, 2, .any⟩,
  ⟨0x210D, 0x210D, 0, 0, .uint 4, some 0, none, 0, 2, .any⟩,
  ⟨0x2110, 0x2110, 0, 0, .uint 1, some 0, some 2, 100, 2, .between 10 100⟩,
  ⟨0x2111, 0x2111, 0, 0, .uint 2, some 0, none, 0, 2, .any⟩,
  ⟨0x2112, 0x2112, 0, 0, .uint 2, some 0, none, 0, 1, .any⟩,
  ⟨0x2113, 0x2113, 0, 0, .uint 1, some 0, none, 0, 1, .any⟩,
  ⟨0x2114, 0x2114, 0, 0, .uint 2, some 0, none, 12000, 0, .any⟩,
  ⟨0x2115, 0x2115, 0, 0, .uint 1, some 0, none, 6, 0, .any⟩,
  ⟨0x2115, 0x2115, 1, 6, .uint 4, some 0, none, 0, 2, .any⟩,
  ⟨0x2120, 0x2120, 0, 0, .bool, some 0, none, 0, 1, .any⟩,
  ⟨0x2121, 0x2121, 0, 0, .uint 2, some 0, some 2, 100, 2, .between 10 2000⟩,
  ⟨0x2122, 0x2122, 0, 0, .bool, some 0, none, 0, 1, .any⟩,
  ⟨0x2123, 0x2123, 0, 0, .uint 2, some 0, some 2, 50, 2, .between 10 1000⟩,
  ⟨0x2124, 0x2124, 0, 0, .uint 1, some 0, some 2, 1, 2, .upTo 2⟩,
  ⟨0x2125, 0x2125, 0, 0, .uint 2, some 0, some 2, 500, 2, .between 10 10000⟩,
  ⟨0x2126, 0x2126, 0, 0, .uint 1, some 0, none, 0, 1, .any⟩,
  ⟨0x2130, 0x2130, 0, 0, .int 2, some 0, none, 0, 1, .any⟩,
  ⟨0x2131, 0x2131, 0, 0, .int 2, some 0, none, 0, 1, .any⟩,
  ⟨0x2132, 0x2132, 0, 0, .int 2, some 0, none, 0, 1, .any⟩,
  ⟨0x2133, 0x2133, 0, 0, .uint 4, some 0, none, 0, 2, .any⟩,
  ⟨0x2134, 0x2134, 0, 0, .uint 4, some 0, none, 0, 2, .any⟩,
  ⟨0x2135, 0x2135, 0, 0, .uint 1, some 0, none, 0, 1, .any⟩,
  ⟨0x2136, 0x2136, 0, 0, .uint 1, some 0, none, 0, 2, .any⟩,
  ⟨0x2137, 0x2137, 0, 0, .uint 2, some 0, none, 0, 2, .any⟩,
  ⟨0x2138, 0x2138, 0, 0, .uint 2, some 0, some 2, 500, 2, .between 50 2000⟩,
  ⟨0x2139, 0x2139, 0, 0, .uint 4, some 0, none, 0, 2, .any⟩,
  ⟨0x2180, 0x2180, 0, 0, .uint 1, some 0, none, 0, 1, .any⟩,
  ⟨0x2181, 0x2181, 0, 0, .uint 4, some 0, some 2, 200, 2, .between 50 100000⟩]

/-- Entries 0x2100–0x21FF, part 2. -/
def odRows21b : List OdRow := [
  ⟨0x2182, 0x2182, 0, 0, .uint 4, some 0, some 2, 30, 2, .between 5 3600⟩,
  ⟨0x2183, 0x2183, 0, 0, .uint 1, some 0, some 2, 1, 2, .upTo 1⟩,
  ⟨0x2184, 0x2184, 0, 0, .bool, some 0, some 2, 1, 2, .any⟩,
  ⟨0x2185, 0x2185, 0, 0, .uint 1, some 0, none, 0, 1, .any⟩,
  ⟨0x2186, 0x2186, 0, 0, .uint 4, some 0, some 2, 600, 2, .between 60 86400⟩,
  ⟨0x2187, 0x2187, 0, 0, .uint 1, some 0, none, 4, 0, .any⟩,
  ⟨0x2187, 0x2187, 1, 4, .uint 4, some 0, none, 0, 1, .any⟩,
  ⟨0x2188, 0x2188, 0, 0, .uint 1, some 0, none, 4, 0, .any⟩,
  ⟨0x2188, 0x2188, 1, 4, .uint 4, some 0, none, 0, 2, .any⟩,
  ⟨0x2189, 0x2189, 0, 0, .uint 1, some 0, none, 3, 0, .any⟩,
  ⟨0x2189, 0x2189, 1, 3, .uint 8, some 0, none, 0, 2, .any⟩,
  ⟨0x218A, 0x218A, 0, 0, .uint 4, some 0, none, 0, 2, .any⟩,
  ⟨0x2190, 0x2190, 0, 0, .uint 1, some 0, none, 1, 1, .any⟩,
  ⟨0x2191, 0x2191, 0, 0, .uint 1, some 0, none, 0, 2, .any⟩,
  ⟨0x2192, 0x2192, 0, 0, .uint 4, some 0, none, 0, 2, .any⟩,
  ⟨0x2193, 0x2193, 0, 0, .uint 4, some 0, none, 0, 2, .any⟩,
  ⟨0x2194, 0x2194, 0, 0, .uint 2, some 0, none, 0, 1, .any⟩,
  ⟨0x2195, 0x2195, 0, 0, .uint 1, some 0, none, 6, 0, .any⟩,
  ⟨0x2195, 0x2195, 1, 6, .uint 4, some 0, none, 0, 2, .any⟩,
  ⟨0x21A0, 0x21A0, 0, 0, .uint 1, some 0, none, 0, 1, .any⟩,
  ⟨0x21A1, 0x21A1, 0, 0, .uint 4, some 0, none, 0, 2, .any⟩,
  ⟨0x21A2, 0x21A2, 0, 0, .uint 1, some 0, none, 8, 0, .any⟩,
  ⟨0x21A2, 0x21A2, 1, 8, .uint 4, some 0, none, 0, 0, .any⟩,
  ⟨0x21B0, 0x21B0, 0, 0, .uint 2, some 0, none, 0, 1, .any⟩,
  ⟨0x21B1, 0x21B1, 0, 0, .uint 2, some 0, some 0, 0, 1, .upTo 282⟩,
  ⟨0x21B2, 0x21B2, 0, 0, .uint 4, some 0, none, 0, 1, .any⟩]

/-- Entries 0x2200–0x22FF. -/
def odRows22 : List OdRow := [
  ⟨0x2200, 0x2200, 0, 0, .uint 1, some 0, some 2, 0x00, 2, .upTo 3⟩,
  ⟨0x2201, 0x2201, 0, 0, .uint 2, some 0, some 2, 500, 2, .between 100 10000⟩,
  ⟨0x2202, 0x2202, 0, 0, .uint 2, some 0, some 2, 10, 2, .between 1 600⟩,
  ⟨0x2203, 0x2203, 0, 0, .uint 1, some 0, some 2, 0x03, 2, .upTo 3⟩,
  ⟨0x2204, 0x2204, 0, 0, .uint 2, some 0, some 2, 1000, 2, .between 10 10000⟩,
  ⟨0x2205, 0x2205, 0, 0, .uint 4, some 0, none, 0, 2, .any⟩,
  ⟨0x2210, 0x2210, 0, 0, .bool, some 0, some 2, 1, 2, .any⟩,
  ⟨0x2211, 0x2211, 0, 0, .uint 2, some 0, some 2, 0, 2, .phyConfig⟩,
  ⟨0x2212, 0x2212, 0, 0, .uint 1, some 0, none, 0, 1, .any⟩,
  ⟨0x2213, 0x2213, 0, 0, .octets 6, some 0, none, 0, 0, .any⟩,
  ⟨0x2214, 0x2214, 0, 0, .uint 4, some 0, some 2, 0, 2, .any⟩,
  ⟨0x2215, 0x2215, 0, 0, .uint 1, some 0, none, 3, 0, .any⟩,
  ⟨0x2215, 0x2215, 1, 1, .octets 16, some 0, none, 0, 0, .any⟩,
  ⟨0x2215, 0x2215, 2, 3, .octets 16, some 0, some 2, 0, 2, .any⟩,
  ⟨0x2216, 0x2216, 0, 0, .uint 1, some 0, none, 8, 0, .any⟩,
  ⟨0x2216, 0x2216, 1, 1, .uint 2, some 0, some 2, 0x0000, 2, .vlan⟩,
  ⟨0x2216, 0x2216, 2, 8, .uint 2, some 0, some 2, 0xFFFF, 2, .vlan⟩,
  ⟨0x2217, 0x2217, 0, 0, .uint 2, some 0, some 2, 1500, 2, .between 1280 9216⟩,
  ⟨0x2218, 0x2218, 0, 0, .uint 4, some 0, some 2, 0, 2, .flow⟩,
  ⟨0x2219, 0x2219, 0, 0, .uint 2, some 0, some 2, 0, 2, .upTo 10000⟩,
  ⟨0x221A, 0x221A, 0, 0, .uint 1, some 0, none, 5, 0, .any⟩,
  ⟨0x221A, 0x221A, 1, 1, .bool, some 0, some 2, 1, 2, .any⟩,
  ⟨0x221A, 0x221A, 2, 2, .uint 1, some 0, none, 0, 1, .any⟩,
  ⟨0x221A, 0x221A, 3, 3, .bool, some 0, none, 0, 1, .any⟩,
  ⟨0x221A, 0x221A, 4, 4, .int 4, some 0, none, 0, 1, .any⟩,
  ⟨0x221A, 0x221A, 5, 5, .int 1, some 0, some 2, 0, 2, .oneOf [0, 1, 2, 3, 4, 5, 253, 254, 255]⟩,
  ⟨0x221B, 0x221B, 0, 0, .uint 1, some 0, none, 8, 0, .any⟩,
  ⟨0x221B, 0x221B, 1, 8, .uint 4, some 0, none, 0, 1, .any⟩,
  ⟨0x221C, 0x221C, 0, 0, .uint 1, some 0, none, 52, 0, .any⟩,
  ⟨0x221C, 0x221C, 1, 52, .uint 4, some 0, some 1, 0, 1, .upTo 0⟩,
  ⟨0x221D, 0x221D, 0, 0, .domain, some 0, none, 0, 1, .any⟩,
  ⟨0x221E, 0x221E, 0, 0, .uint 1, some 0, none, 0, 1, .any⟩,
  ⟨0x221F, 0x221F, 0, 0, .uint 1, some 0, none, 0, 1, .any⟩]

/-- Entries 0x2300–0x23FF. -/
def odRows23 : List OdRow := [
  ⟨0x2300, 0x2300, 0, 0, .uint 1, some 0, none, 0x0C, 0, .any⟩,
  ⟨0x2301, 0x2301, 0, 0, .bool, some 0, some 2, 1, 2, .any⟩,
  ⟨0x2302, 0x2302, 0, 0, .uint 2, some 0, none, 32768, 0, .any⟩,
  ⟨0x2303, 0x2303, 0, 0, .uint 2, some 0, none, 0, 1, .any⟩,
  ⟨0x2304, 0x2304, 0, 0, .uint 4, some 0, some 2, 120, 2, .between 5 3600⟩,
  ⟨0x2305, 0x2305, 0, 0, .uint 2, some 0, some 2, 2000, 2, .between 200 10000⟩,
  ⟨0x2306, 0x2306, 0, 0, .uint 2, some 0, some 2, 256, 2, .between 16 1024⟩,
  ⟨0x2307, 0x2307, 0, 0, .uint 2, some 0, some 2, 32, 2, .between 8 300⟩,
  ⟨0x2308, 0x2308, 0, 0, .uint 2, some 0, some 2, 50, 2, .between 1 1000⟩,
  ⟨0x2309, 0x2309, 0, 0, .uint 2, some 0, some 2, 64, 2, .between 1 4096⟩,
  ⟨0x230A, 0x230A, 0, 0, .uint 4, some 0, some 2, 8192, 2, .between 4100 262144⟩,
  ⟨0x230B, 0x230B, 0, 0, .uint 2, some 0, some 2, 256, 2, .between 1 4095⟩,
  ⟨0x230C, 0x230C, 0, 0, .uint 1, some 0, some 2, 16, 2, .between 1 64⟩,
  ⟨0x230D, 0x230D, 0, 0, .uint 2, some 0, some 2, 500, 2, .between 10 10000⟩,
  ⟨0x230E, 0x230E, 0, 0, .uint 2, some 0, some 2, 250, 2, .between 10 2000⟩,
  ⟨0x230F, 0x230F, 0, 0, .uint 2, some 0, some 2, 1000, 2, .between 50 20000⟩,
  ⟨0x2310, 0x2310, 0, 0, .uint 2, some 0, some 2, 100, 2, .between 10 1000⟩,
  ⟨0x2311, 0x2311, 0, 0, .uint 2, some 0, some 2, 1000, 2, .between 50 10000⟩,
  ⟨0x2312, 0x2312, 0, 0, .uint 1, some 0, none, 30, 0, .any⟩,
  ⟨0x2320, 0x2320, 0, 0, .uint 1, some 0, some 0, 1, 1, .between 1 16⟩,
  ⟨0x2321, 0x2321, 0, 0, .domain, some 0, some 2, 0, 2, .any⟩,
  ⟨0x2322, 0x2322, 0, 0, .uint 1, some 0, some 2, 0, 2, .upTo 254⟩,
  ⟨0x2323, 0x2323, 0, 0, .uint 1, some 0, none, 0, 1, .any⟩,
  ⟨0x2325, 0x2325, 0, 0, .uint 1, some 0, none, 64, 0, .any⟩,
  ⟨0x2325, 0x2325, 1, 64, .uint 8, some 0, some 2, 0, 2, .any⟩,
  ⟨0x2326, 0x2326, 0, 0, .bool, some 0, some 2, 1, 2, .any⟩,
  ⟨0x2330, 0x2330, 0, 0, .uint 4, some 0, none, 0, 1, .any⟩,
  ⟨0x2331, 0x2331, 0, 0, .uint 4, some 0, none, 0, 1, .any⟩,
  ⟨0x2332, 0x2332, 0, 0, .uint 4, some 0, none, 0, 1, .any⟩,
  ⟨0x2333, 0x2333, 0, 0, .uint 4, some 0, none, 0, 1, .any⟩,
  ⟨0x2334, 0x2334, 0, 0, .uint 4, some 0, none, 0, 1, .any⟩,
  ⟨0x2335, 0x2335, 0, 0, .uint 4, some 0, none, 0, 1, .any⟩,
  ⟨0x2336, 0x2336, 0, 0, .uint 4, some 0, none, 0, 1, .any⟩,
  ⟨0x2337, 0x2337, 0, 0, .uint 4, some 0, none, 0, 1, .any⟩,
  ⟨0x2338, 0x2338, 0, 0, .uint 4, some 0, none, 0, 1, .any⟩,
  ⟨0x2339, 0x2339, 0, 0, .uint 4, some 0, none, 0, 1, .any⟩,
  ⟨0x233A, 0x233A, 0, 0, .uint 2, some 0, none, 0, 1, .any⟩]

/-- Entries 0x2400–0x24FF. -/
def odRows24 : List OdRow := [
  ⟨0x2400, 0x2400, 0, 0, .uint 1, some 0, none, 3, 1, .any⟩,
  ⟨0x2401, 0x2401, 0, 0, .uint 1, some 0, some 2, 0, 1, .between 1 1⟩,
  ⟨0x2402, 0x2402, 0, 0, .uint 4, some 0, none, 92274688, 0, .any⟩,
  ⟨0x2403, 0x2403, 0, 0, .uint 4, some 0, none, 0, 1, .any⟩,
  ⟨0x2404, 0x2404, 0, 0, .uint 1, some 0, none, 0, 1, .any⟩,
  ⟨0x2405, 0x2405, 0, 0, .uint 1, some 0, some 2, 60, 2, .between 25 90⟩,
  ⟨0x2407, 0x2407, 0, 0, .uint 4, some 0, none, 0, 1, .any⟩,
  ⟨0x2410, 0x2410, 0, 0, .uint 4, some 0, some 2, 5000, 2, .between 100 100000⟩,
  ⟨0x2411, 0x2411, 0, 0, .uint 1, some 0, none, 8, 0, .any⟩,
  ⟨0x2411, 0x2411, 1, 8, .uint 1, some 0, none, 0, 1, .any⟩,
  ⟨0x2412, 0x2412, 0, 0, .uint 4, some 0, none, 0, 1, .any⟩,
  ⟨0x2413, 0x2413, 0, 0, .uint 1, some 0, none, 32, 1, .any⟩,
  ⟨0x2414, 0x2414, 0, 0, .uint 4, some 0, none, 0, 2, .any⟩,
  ⟨0x2415, 0x2415, 0, 0, .uint 4, some 0, none, 0, 1, .any⟩,
  ⟨0x2416, 0x2416, 0, 0, .uint 4, some 0, none, 0, 1, .any⟩,
  ⟨0x2418, 0x2418, 0, 0, .uint 8, some 0, none, 0, 2, .any⟩,
  ⟨0x2419, 0x2419, 0, 0, .uint 4, some 0, none, 0, 2, .any⟩]

/-- Entries 0x2500–0x25FF. -/
def odRows25 : List OdRow := [
  ⟨0x2500, 0x2500, 0, 0, .uint 2, some 0, some 0, 16, 1, .between 16 4095⟩,
  ⟨0x2501, 0x2501, 0, 0, .uint 1, some 0, some 2, 0, 2, .any⟩,
  ⟨0x2502, 0x2502, 0, 0, .uint 1, some 0, some 2, 0x07, 2, .upTo 7⟩,
  ⟨0x2503, 0x2503, 0, 0, .bool, some 0, some 2, 0, 2, .any⟩,
  ⟨0x2504, 0x2504, 0, 0, .uint 1, some 0, some 2, 0, 2, .upTo 1⟩,
  ⟨0x2505, 0x2505, 0, 0, .uint 4, some 0, some 2, 0, 2, .any⟩,
  ⟨0x2506, 0x2506, 0, 0, .uint 1, some 0, some 2, 1, 2, .upTo 2⟩,
  ⟨0x2507, 0x2507, 0, 0, .uint 8, some 0, some 2, 0, 2, .any⟩,
  ⟨0x2508, 0x2508, 0, 0, .uint 8, some 0, some 2, 0, 2, .any⟩,
  ⟨0x2509, 0x2509, 0, 0, .uint 8, some 0, none, 0, 1, .any⟩,
  ⟨0x250A, 0x250A, 0, 0, .uint 8, some 0, none, 0, 1, .any⟩,
  ⟨0x250B, 0x250B, 0, 0, .bool, some 0, some 2, 0, 2, .any⟩,
  ⟨0x250C, 0x250C, 0, 0, .bool, some 0, some 2, 0, 2, .any⟩,
  ⟨0x250D, 0x250D, 0, 0, .uint 1, some 0, none, 8, 0, .any⟩,
  ⟨0x250D, 0x250D, 1, 8, .uint 8, some 0, some 2, 0xFF00000000000000, 2, .access⟩,
  ⟨0x250E, 0x250E, 0, 0, .uint 4, some 0, none, 0, 2, .any⟩,
  ⟨0x250F, 0x250F, 0, 0, .uint 8, some 0, none, 0, 1, .any⟩,
  ⟨0x2520, 0x2520, 0, 0, .uint 2, some 0, none, 0, 1, .any⟩,
  ⟨0x2521, 0x2521, 0, 0, .uint 8, some 0, none, 0, 1, .any⟩,
  ⟨0x2522, 0x2522, 0, 0, .uint 8, some 0, none, 0, 0, .any⟩,
  ⟨0x2523, 0x2523, 0, 0, .uint 8, some 0, none, 0, 2, .any⟩,
  ⟨0x2524, 0x2524, 0, 0, .uint 8, some 0, none, 0, 2, .any⟩,
  ⟨0x2525, 0x2525, 0, 0, .uint 2, some 0, none, 0, 1, .any⟩]

/-- Entries 0x2600–0x26FF, part 1. -/
def odRows26a : List OdRow := [
  ⟨0x2600, 0x2600, 0, 0, .uint 2, some 0, none, 2048, 0, .any⟩,
  ⟨0x2601, 0x2601, 0, 0, .uint 8, some 0, none, 0, 0, .any⟩,
  ⟨0x2602, 0x2602, 0, 0, .uint 4, some 0, some 2, 1048576, 2, .between 65536 16777216⟩,
  ⟨0x2603, 0x2603, 0, 0, .uint 4, some 0, some 2, 21600, 2, .between 3600 604800⟩,
  ⟨0x2604, 0x2604, 0, 0, .uint 4, some 0, some 2, 86400, 2, .binIdle⟩,
  ⟨0x2605, 0x2605, 0, 0, .uint 1, some 0, none, 0, 1, .any⟩,
  ⟨0x2606, 0x2606, 0, 0, .uint 1, some 0, some 0, 0, 1, .upTo 35⟩,
  ⟨0x2607, 0x2607, 0, 0, .uint 1, some 0, none, 4, 0, .any⟩,
  ⟨0x2607, 0x2607, 1, 1, .uint 8, some 0, none, 0, 1, .any⟩,
  ⟨0x2607, 0x2607, 2, 2, .uint 2, some 0, none, 0xFFFF, 1, .any⟩,
  ⟨0x2607, 0x2607, 3, 3, .uint 8, some 0, none, 0, 1, .any⟩,
  ⟨0x2607, 0x2607, 4, 4, .uint 8, some 0, none, 0, 1, .any⟩,
  ⟨0x2610, 0x2610, 0, 0, .uint 8, some 0, none, 0, 0, .any⟩,
  ⟨0x2611, 0x2611, 0, 0, .uint 8, some 0, none, 0, 1, .any⟩,
  ⟨0x2612, 0x2612, 0, 0, .uint 8, some 0, none, 0, 1, .any⟩,
  ⟨0x2613, 0x2613, 0, 0, .uint 2, some 0, none, 0, 1, .any⟩,
  ⟨0x2614, 0x2614, 0, 0, .uint 2, some 0, some 2, 24, 2, .between 12 120⟩,
  ⟨0x2615, 0x2615, 0, 0, .uint 2, some 0, none, 0, 1, .any⟩,
  ⟨0x2616, 0x2616, 0, 0, .uint 1, some 0, none, 0, 1, .any⟩,
  ⟨0x2617, 0x2617, 0, 0, .uint 1, some 0, some 2, 50, 2, .between 10 90⟩,
  ⟨0x2618, 0x2618, 0, 0, .uint 4, some 0, some 2, 86400, 2, .between 600 604800⟩,
  ⟨0x2620, 0x2620, 0, 0, .uint 4, some 0, some 2, 600, 2, .between 10 7200⟩,
  ⟨0x2621, 0x2621, 0, 0, .uint 4, some 0, some 2, 0, 2, .upTo 3600⟩,
  ⟨0x2622, 0x2622, 0, 0, .uint 2, some 0, some 2, 10, 2, .between 1 600⟩,
  ⟨0x2623, 0x2623, 0, 0, .uint 4, some 0, none, 0, 2, .any⟩,
  ⟨0x2624, 0x2624, 0, 0, .uint 8, some 0, none, 0, 2, .any⟩,
  ⟨0x2625, 0x2625, 0, 0, .uint 4, some 0, none, 0, 2, .any⟩,
  ⟨0x2630, 0x2630, 0, 0, .uint 1, some 0, some 2, 7, 2, .between 2 30⟩,
  ⟨0x2631, 0x2631, 0, 0, .uint 1, some 0, none, 0, 2, .any⟩,
  ⟨0x2632, 0x2632, 0, 0, .uint 2, some 0, some 3, 120, 2, .between 40 170⟩,
  ⟨0x2633, 0x2633, 0, 0, .uint 1, some 0, none, 0, 1, .any⟩,
  ⟨0x2634, 0x2634, 0, 0, .uint 2, some 0, some 2, 300, 2, .between 30 900⟩,
  ⟨0x2635, 0x2635, 0, 0, .uint 2, some 0, some 2, 25000, 2, .between 1000 29000⟩,
  ⟨0x2640, 0x2640, 0, 0, .uint 1, some 0, none, 0, 2, .any⟩,
  ⟨0x2641, 0x2641, 0, 0, .uint 4, some 0, none, 0, 2, .any⟩,
  ⟨0x2642, 0x2642, 0, 0, .uint 8, some 0, none, 0, 2, .any⟩,
  ⟨0x2643, 0x2643, 0, 0, .uint 8, some 0, none, 0, 2, .any⟩,
  ⟨0x2644, 0x2644, 0, 0, .uint 8, some 0, none, 0, 2, .any⟩,
  ⟨0x2645, 0x2645, 0, 0, .uint 2, some 0, none, 1000, 1, .any⟩,
  ⟨0x2646, 0x2646, 0, 0, .uint 8, some 0, none, 0, 2, .any⟩]

/-- Entries 0x2600–0x26FF, part 2. -/
def odRows26b : List OdRow := [
  ⟨0x2647, 0x2647, 0, 0, .uint 4, some 0, none, 0, 2, .any⟩,
  ⟨0x2648, 0x2648, 0, 0, .uint 4, some 0, none, 0, 2, .any⟩,
  ⟨0x2649, 0x2649, 0, 0, .uint 8, some 0, none, 0, 2, .any⟩,
  ⟨0x264A, 0x264A, 0, 0, .uint 4, some 0, none, 0, 2, .any⟩,
  ⟨0x264B, 0x264B, 0, 0, .uint 4, some 0, none, 0, 2, .any⟩,
  ⟨0x264C, 0x264C, 0, 0, .uint 8, some 0, none, 0, 2, .any⟩,
  ⟨0x264D, 0x264D, 0, 0, .uint 8, some 0, none, 0, 2, .any⟩]

/-- Entries 0x2700–0x27FF. -/
def odRows27 : List OdRow := [
  ⟨0x2700, 0x2700, 0, 0, .uint 4, some 0, none, 131072, 1, .any⟩,
  ⟨0x2701, 0x2701, 0, 0, .uint 4, some 0, none, 0, 1, .any⟩,
  ⟨0x2702, 0x2702, 0, 0, .uint 4, some 0, none, 0, 2, .any⟩,
  ⟨0x2703, 0x2703, 0, 0, .uint 8, some 0, some 2, 0, 2, .any⟩,
  ⟨0x2704, 0x2704, 0, 0, .uint 1, some 0, none, 8, 0, .any⟩,
  ⟨0x2704, 0x2704, 1, 8, .uint 1, some 0, none, 0, 2, .any⟩,
  ⟨0x2708, 0x2708, 0, 0, .uint 1, some 0, none, 8, 0, .any⟩,
  ⟨0x2708, 0x2708, 1, 8, .uint 8, some 0, some 2, 0xFF00000000000000, 2, .access⟩,
  ⟨0x2710, 0x2710, 0, 0, .uint 1, some 0, some 0, 0, 1, .upTo 63⟩,
  ⟨0x2711, 0x2711, 0, 0, .uint 2, some 0, some 2, 0, 2, .any⟩,
  ⟨0x2712, 0x2712, 0, 0, .uint 4, some 0, some 2, 0, 2, .any⟩,
  ⟨0x2713, 0x2713, 0, 0, .uint 4, some 0, some 2, 0, 2, .between 1 131072⟩,
  ⟨0x2714, 0x2714, 0, 0, .uint 1, some 0, some 2, 0, 2, .upTo 1⟩,
  ⟨0x2715, 0x2715, 0, 0, .uint 4, some 0, none, 0, 1, .any⟩,
  ⟨0x2716, 0x2716, 0, 0, .uint 1, some 0, none, 0, 1, .any⟩,
  ⟨0x2720, 0x2720, 0, 0, .uint 8, some 0, none, 0, 1, .any⟩,
  ⟨0x2721, 0x2721, 0, 0, .uint 8, some 0, none, 0, 1, .any⟩,
  ⟨0x2722, 0x2722, 0, 0, .uint 4, some 0, none, 0, 2, .any⟩,
  ⟨0x2723, 0x2723, 0, 0, .uint 4, some 0, none, 0, 1, .any⟩,
  ⟨0x2724, 0x2724, 0, 0, .uint 4, some 0, none, 0, 2, .any⟩,
  ⟨0x2725, 0x2725, 0, 0, .uint 4, some 0, none, 0, 2, .any⟩]

/-- Entries 0x2800–0x28FF. -/
def odRows28 : List OdRow := [
  ⟨0x2800, 0x2800, 0, 0, .uint 1, some 0, none, 8, 1, .any⟩,
  ⟨0x2801, 0x2801, 0, 0, .uint 1, some 0, none, 10, 0, .any⟩,
  ⟨0x2801, 0x2801, 1, 10, .uint 1, some 0, none, 0, 2, .any⟩,
  ⟨0x2802, 0x2802, 0, 0, .uint 1, some 0, none, 0, 1, .any⟩,
  ⟨0x2803, 0x2803, 0, 0, .uint 1, some 0, none, 0, 1, .any⟩,
  ⟨0x2804, 0x2804, 0, 0, .uint 8, some 0, none, 0, 1, .any⟩,
  ⟨0x2808, 0x2808, 0, 0, .uint 8, some 0, none, 0, 2, .any⟩,
  ⟨0x2810, 0x2810, 0, 0, .uint 4, some 0, none, 0, 2, .any⟩,
  ⟨0x2811, 0x2811, 0, 0, .uint 4, some 0, none, 0, 2, .any⟩,
  ⟨0x2812, 0x2812, 0, 0, .uint 4, some 0, none, 0, 2, .any⟩,
  ⟨0x2813, 0x2813, 0, 0, .uint 4, some 0, none, 0, 2, .any⟩,
  ⟨0x2814, 0x2814, 0, 0, .uint 4, some 0, none, 0, 2, .any⟩,
  ⟨0x2815, 0x2815, 0, 0, .uint 4, some 0, none, 0, 2, .any⟩,
  ⟨0x2820, 0x2820, 0, 0, .uint 1, some 0, none, 0, 1, .any⟩,
  ⟨0x2821, 0x2821, 0, 0, .uint 4, some 0, none, 0, 2, .any⟩,
  ⟨0x2822, 0x2822, 0, 0, .uint 8, some 0, none, 0, 2, .any⟩,
  ⟨0x2830, 0x2830, 0, 0, .uint 1, some 0, none, 0, 1, .any⟩,
  ⟨0x2831, 0x2831, 0, 0, .uint 4, some 0, some 3, 600, 2, .between 60 3600⟩,
  ⟨0x2832, 0x2832, 0, 0, .uint 4, some 0, none, 0, 2, .any⟩,
  ⟨0x2833, 0x2833, 0, 0, .uint 4, some 0, none, 0, 2, .any⟩]

/-- Entries 0x2900–0x29FF. -/
def odRows29 : List OdRow := [
  ⟨0x2900, 0x2900, 0, 0, .octets 16, some 0, none, 0, 0, .any⟩,
  ⟨0x2901, 0x2901, 0, 0, .domain, some 0, none, 0, 0, .any⟩,
  ⟨0x2902, 0x2902, 0, 0, .uint 8, some 0, none, 0, 2, .any⟩,
  ⟨0x2903, 0x2903, 0, 0, .uint 8, some 0, none, 0, 2, .any⟩,
  ⟨0x2910, 0x2910, 0, 0, .uint 4, some 0, some 2, 1000, 2, .between 100 60000⟩,
  ⟨0x2911, 0x2911, 0, 0, .uint 2, some 0, some 0, 16, 1, .between 16 4095⟩,
  ⟨0x2912, 0x2912, 0, 0, .uint 8, some 0, none, 0, 1, .any⟩,
  ⟨0x2913, 0x2913, 0, 0, .uint 8, some 0, none, 0, 1, .any⟩,
  ⟨0x2914, 0x2914, 0, 0, .uint 8, some 0, some 0, 0, 1, .any⟩,
  ⟨0x2915, 0x2915, 0, 0, .domain, some 0, none, 0, 0, .any⟩,
  ⟨0x2916, 0x2916, 0, 0, .uint 4, some 0, none, 0, 2, .any⟩,
  ⟨0x2917, 0x2917, 0, 0, .uint 4, some 0, none, 0, 2, .any⟩,
  ⟨0x2918, 0x2918, 0, 0, .uint 4, some 0, some 0, 0, 1, .upTo 65535⟩,
  ⟨0x2919, 0x2919, 0, 0, .domain, some 0, none, 0, 0, .any⟩,
  ⟨0x2920, 0x2920, 0, 0, .octets 32, some 0, some 1, 0, 1, .any⟩,
  ⟨0x2921, 0x2921, 0, 0, .domain, some 0, none, 0, 1, .any⟩,
  ⟨0x2930, 0x2930, 0, 0, .uint 1, some 0, none, 0, 1, .any⟩,
  ⟨0x2931, 0x2931, 0, 0, .uint 1, some 0, some 2, 0x03, 2, .upTo 3⟩,
  ⟨0x2932, 0x2932, 0, 0, .bool, some 0, none, 0, 1, .any⟩,
  ⟨0x2933, 0x2933, 0, 0, .uint 8, some 0, none, 0, 1, .any⟩,
  ⟨0x2934, 0x2934, 0, 0, .uint 2, some 0, none, 0, 2, .any⟩,
  ⟨0x2935, 0x2935, 0, 0, .uint 4, some 0, some 2, 1000000, 2, .between 1000 1000000000⟩,
  ⟨0x2936, 0x2936, 0, 0, .uint 2, some 0, some 2, 200, 2, .between 10 500⟩,
  ⟨0x2937, 0x2937, 0, 0, .int 2, some 0, some 2, 37, 2, .any⟩,
  ⟨0x2938, 0x2938, 0, 0, .uint 1, some 0, some 2, 0, 2, .upTo 127⟩,
  ⟨0x2939, 0x2939, 0, 0, .int 4, some 0, none, 0, 2, .any⟩,
  ⟨0x293A, 0x293A, 0, 0, .int 4, some 0, none, 0, 1, .any⟩,
  ⟨0x293B, 0x293B, 0, 0, .uint 4, some 0, none, 0, 2, .any⟩,
  ⟨0x293C, 0x293C, 0, 0, .uint 4, some 0, none, 0, 2, .any⟩,
  ⟨0x293D, 0x293D, 0, 0, .bool, some 0, some 2, 1, 2, .any⟩,
  ⟨0x293E, 0x293E, 0, 0, .uint 4, some 0, some 2, 3600, 2, .between 60 86400⟩,
  ⟨0x293F, 0x293F, 0, 0, .int 8, some 0, none, 0, 2, .any⟩,
  ⟨0x2940, 0x2940, 0, 0, .uint 4, some 0, none, 0, 1, .any⟩]

/-- Entries 0x2A00–0x2AFF. -/
def odRows2A : List OdRow := [
  ⟨0x2A00, 0x2A00, 0, 0, .uint 1, some 0, none, 0, 1, .any⟩,
  ⟨0x2A01, 0x2A01, 0, 0, .uint 1, some 0, none, 16, 1, .any⟩,
  ⟨0x2A02, 0x2A02, 0, 0, .uint 1, some 0, none, 16, 1, .any⟩,
  ⟨0x2A03, 0x2A03, 0, 0, .uint 4, some 0, none, 0, 1, .any⟩,
  ⟨0x2A04, 0x2A04, 0, 0, .uint 4, some 0, none, 0, 2, .any⟩,
  ⟨0x2A05, 0x2A05, 0, 0, .uint 4, some 0, none, 0, 2, .any⟩,
  ⟨0x2A06, 0x2A06, 0, 0, .uint 1, some 0, none, 0, 1, .any⟩,
  ⟨0x2A07, 0x2A07, 0, 0, .uint 4, some 0, none, 0, 2, .any⟩,
  ⟨0x2A08, 0x2A08, 0, 0, .uint 4, some 0, none, 0, 2, .any⟩,
  ⟨0x2A09, 0x2A09, 0, 0, .uint 4, some 0, none, 0, 2, .any⟩,
  ⟨0x2A0A, 0x2A0A, 0, 0, .uint 4, some 0, none, 0, 2, .any⟩,
  ⟨0x2A0B, 0x2A0B, 0, 0, .uint 4, some 0, none, 0, 1, .any⟩,
  ⟨0x2A0C, 0x2A0C, 0, 0, .uint 4, some 0, none, 0, 1, .any⟩,
  ⟨0x2A0D, 0x2A0D, 0, 0, .uint 1, some 0, none, 0, 1, .any⟩]

/-- Entries 0x2B00–0x2BFF. -/
def odRows2B : List OdRow := [
  ⟨0x2B00, 0x2B00, 0, 0, .uint 2, some 0, none, 256, 0, .any⟩,
  ⟨0x2B01, 0x2B01, 0, 0, .uint 1, some 0, some 0, 0, 1, .any⟩,
  ⟨0x2B02, 0x2B02, 0, 0, .uint 1, some 0, some 2, 0, 2, .upTo 15⟩,
  ⟨0x2B03, 0x2B03, 0, 0, .uint 1, some 0, none, 0, 0, .any⟩,
  ⟨0x2B04, 0x2B04, 0, 0, .uint 4, some 0, none, 0, 1, .any⟩,
  ⟨0x2B05, 0x2B05, 0, 0, .uint 8, some 0, none, 0, 1, .any⟩,
  ⟨0x2B06, 0x2B06, 0, 0, .uint 4, some 0, none, 0, 1, .any⟩,
  ⟨0x2B07, 0x2B07, 0, 0, .uint 1, some 0, some 2, 10, 2, .between 1 100⟩,
  ⟨0x2B08, 0x2B08, 0, 0, .uint 4, none, some 3, 0, 1, .any⟩,
  ⟨0x2B10, 0x2B10, 0, 0, .uint 4, some 0, some 0, 0, 1, .any⟩,
  ⟨0x2B11, 0x2B11, 0, 0, .uint 2, some 0, some 0, 64, 1, .between 1 1024⟩,
  ⟨0x2B12, 0x2B12, 0, 0, .domain, some 0, none, 0, 1, .any⟩,
  ⟨0x2B13, 0x2B13, 0, 0, .uint 4, some 0, none, 0, 2, .any⟩,
  ⟨0x2B14, 0x2B14, 0, 0, .uint 4, some 0, none, 4096, 1, .any⟩,
  ⟨0x2B15, 0x2B15, 0, 0, .uint 1, some 0, some 1, 0, 1, .upTo 1⟩,
  ⟨0x2B16, 0x2B16, 0, 0, .uint 2, some 0, none, 0, 1, .any⟩,
  ⟨0x2B17, 0x2B17, 0, 0, .uint 4, some 0, none, 0, 2, .any⟩,
  ⟨0x2B18, 0x2B18, 0, 0, .uint 1, some 0, none, 0, 2, .any⟩,
  ⟨0x2B19, 0x2B19, 0, 0, .domain, some 0, none, 0, 0, .any⟩,
  ⟨0x2B1A, 0x2B1A, 0, 0, .uint 1, none, some 3, 0, 1, .between 1 1⟩]

/-- Entries 0x2C00–0x2CFF. -/
def odRows2C : List OdRow := [
  ⟨0x2C00, 0x2C00, 0, 0, .uint 1, some 3, none, 64, 0, .any⟩,
  ⟨0x2C00, 0x2C00, 1, 64, .uint 1, some 3, some 3, 0xFF, 1, .perfEvent⟩,
  ⟨0x2C01, 0x2C01, 0, 0, .uint 1, some 3, none, 64, 0, .any⟩,
  ⟨0x2C01, 0x2C01, 1, 64, .octets 16, some 3, none, 0, 1, .any⟩]

/-- Entries 0x2D00–0x2DFF. -/
def odRows2D : List OdRow := [
  ⟨0x2D00, 0x2D00, 0, 0, .uint 4, some 0, none, 0, 2, .any⟩,
  ⟨0x2D01, 0x2D01, 0, 0, .uint 1, some 0, none, 4, 0, .any⟩,
  ⟨0x2D01, 0x2D01, 1, 4, .uint 4, some 0, none, 0, 2, .any⟩,
  ⟨0x2D02, 0x2D02, 0, 0, .uint 4, some 0, some 0, 0, 1, .any⟩,
  ⟨0x2D03, 0x2D03, 0, 0, .domain, some 2, none, 0, 0, .any⟩,
  ⟨0x2D04, 0x2D04, 0, 0, .domain, some 2, none, 0, 0, .any⟩,
  ⟨0x2D05, 0x2D05, 0, 0, .uint 4, none, some 3, 0, 1, .oneOf [0x44554D50]⟩,
  ⟨0x2D06, 0x2D06, 0, 0, .uint 1, some 0, none, 0, 1, .any⟩]

/-- Entries 0x2E00–0x2EFF. -/
def odRows2E : List OdRow := [
  ⟨0x2E00, 0x2E00, 0, 0, .uint 4, some 0, none, 0, 0, .any⟩,
  ⟨0x2E01, 0x2E01, 0, 0, .uint 1, some 0, none, 1, 1, .any⟩,
  ⟨0x2E02, 0x2E02, 0, 0, .uint 2, some 0, none, 0, 1, .any⟩,
  ⟨0x2E03, 0x2E03, 0, 0, .uint 1, some 0, none, 3, 0, .any⟩,
  ⟨0x2E03, 0x2E03, 1, 3, .uint 2, some 0, none, 0, 1, .any⟩,
  ⟨0x2E06, 0x2E06, 0, 0, .uint 2, some 0, none, 0, 1, .any⟩,
  ⟨0x2E08, 0x2E08, 0, 0, .uint 1, some 0, none, 3, 0, .any⟩,
  ⟨0x2E08, 0x2E08, 1, 3, .uint 4, some 0, none, 0, 2, .any⟩,
  ⟨0x2E09, 0x2E09, 0, 0, .uint 4, some 0, none, 0, 2, .any⟩,
  ⟨0x2E0A, 0x2E0A, 0, 0, .uint 4, some 0, none, 0, 2, .any⟩,
  ⟨0x2E0B, 0x2E0B, 0, 0, .uint 1, some 0, none, 0, 1, .any⟩,
  ⟨0x2E0C, 0x2E0C, 0, 0, .uint 4, some 0, none, 0, 1, .any⟩]

/-- Entries 0x2F00–0x2FFF. -/
def odRows2F : List OdRow := [
  ⟨0x2F00, 0x2F00, 0, 0, .uint 1, some 0, none, 0, 2, .any⟩,
  ⟨0x2F01, 0x2F01, 0, 0, .uint 4, some 0, some 3, 0, 1, .any⟩,
  ⟨0x2F02, 0x2F02, 0, 0, .uint 1, some 0, none, 0, 1, .any⟩,
  ⟨0x2F03, 0x2F03, 0, 0, .uint 4, some 0, none, 0, 1, .any⟩,
  ⟨0x2F04, 0x2F04, 0, 0, .uint 8, some 0, none, 0, 1, .any⟩,
  ⟨0x2F05, 0x2F05, 0, 0, .uint 8, some 0, none, 0, 2, .any⟩,
  ⟨0x2F06, 0x2F06, 0, 0, .uint 1, some 0, none, 0, 1, .any⟩,
  ⟨0x2F08, 0x2F08, 0, 0, .uint 2, some 0, some 3, 1800, 2, .between 300 1800⟩,
  ⟨0x2F09, 0x2F09, 0, 0, .uint 2, some 0, none, 0, 2, .any⟩,
  ⟨0x2F0A, 0x2F0A, 0, 0, .uint 1, some 0, none, 0, 1, .any⟩,
  ⟨0x2F0B, 0x2F0B, 0, 0, .uint 4, some 0, none, 0, 2, .any⟩,
  ⟨0x2F0C, 0x2F0C, 0, 0, .uint 4, some 0, none, 0, 2, .any⟩,
  ⟨0x2F0D, 0x2F0D, 0, 0, .uint 4, some 0, none, 0, 2, .any⟩,
  ⟨0x2F10, 0x2F10, 0, 0, .domain, none, some 3, 0, 1, .any⟩,
  ⟨0x2F11, 0x2F11, 0, 0, .domain, some 0, none, 0, 2, .any⟩,
  ⟨0x2F20, 0x2F20, 0, 0, .uint 1, some 0, none, 6, 0, .any⟩,
  ⟨0x2F20, 0x2F20, 1, 6, .uint 4, some 0, none, 0, 2, .any⟩,
  ⟨0x2F21, 0x2F21, 0, 0, .uint 1, some 0, none, 6, 0, .any⟩,
  ⟨0x2F21, 0x2F21, 1, 6, .uint 4, some 0, none, 0, 2, .any⟩,
  ⟨0x2F22, 0x2F22, 0, 0, .uint 1, some 0, none, 6, 0, .any⟩,
  ⟨0x2F22, 0x2F22, 1, 6, .uint 1, some 0, none, 0, 2, .any⟩,
  ⟨0x2F23, 0x2F23, 0, 0, .uint 1, some 0, none, 6, 0, .any⟩,
  ⟨0x2F23, 0x2F23, 1, 6, .uint 1, some 0, none, 0, 0, .any⟩,
  ⟨0x2F24, 0x2F24, 0, 0, .uint 1, some 0, none, 6, 0, .any⟩,
  ⟨0x2F24, 0x2F24, 1, 6, .uint 4, some 0, none, 0, 2, .any⟩,
  ⟨0x2F25, 0x2F25, 0, 0, .uint 4, some 0, none, 0, 2, .any⟩,
  ⟨0x2F26, 0x2F26, 0, 0, .uint 4, some 0, none, 0, 2, .any⟩]

/-- Entries 0x3000–0x30FF. -/
def odRows30 : List OdRow := [
  ⟨0x3000, 0x3000, 0, 0, .uint 4, some 0, some 2, 0, 1, .any⟩,
  ⟨0x3001, 0x3001, 0, 0, .uint 1, some 0, none, 0, 2, .any⟩,
  ⟨0x3002, 0x3002, 0, 0, .uint 1, some 0, none, 0, 2, .any⟩,
  ⟨0x3003, 0x3003, 0, 0, .uint 1, some 0, none, 0, 2, .any⟩,
  ⟨0x3004, 0x3004, 0, 0, .uint 8, some 0, none, 0, 2, .any⟩,
  ⟨0x3008, 0x3008, 0, 0, .uint 4, some 0, some 3, 0, 1, .any⟩,
  ⟨0x3009, 0x3009, 0, 0, .uint 1, some 0, none, 0, 2, .any⟩,
  ⟨0x300A, 0x300A, 0, 0, .uint 1, some 0, none, 0, 2, .any⟩,
  ⟨0x300B, 0x300B, 0, 0, .uint 8, some 0, none, 0, 2, .any⟩]

/-- Entries 0x4000–0x40FF. -/
def odRows40 : List OdRow := [
  ⟨0x4000, 0x4000, 0, 0, .uint 1, some 3, some 3, 0, 1, .upTo 6⟩,
  ⟨0x4001, 0x4001, 0, 0, .uint 8, some 3, some 3, 0, 1, .any⟩,
  ⟨0x4002, 0x4002, 0, 0, .uint 2, some 3, some 3, 16, 1, .between 1 4096⟩,
  ⟨0x4003, 0x4003, 0, 0, .domain, some 3, none, 0, 1, .any⟩]

/-- The rows of the 256 indices that `index` lies in. -/
def odRowsOf (index : Nat) : List OdRow :=
  match index / 256 with
  | 0x10 => odRows10
  | 0x12 => odRows12
  | 0x14 => odRows14
  | 0x16 => odRows16
  | 0x18 => odRows18
  | 0x1A => odRows1A
  | 0x1F => odRows1F
  | 0x20 => odRows20a ++ odRows20b ++ odRows20c
  | 0x21 => odRows21a ++ odRows21b
  | 0x22 => odRows22
  | 0x23 => odRows23
  | 0x24 => odRows24
  | 0x25 => odRows25
  | 0x26 => odRows26a ++ odRows26b
  | 0x27 => odRows27
  | 0x28 => odRows28
  | 0x29 => odRows29
  | 0x2A => odRows2A
  | 0x2B => odRows2B
  | 0x2C => odRows2C
  | 0x2D => odRows2D
  | 0x2E => odRows2E
  | 0x2F => odRows2F
  | 0x30 => odRows30
  | 0x40 => odRows40
  | _ => []

/-- Every row of the dictionary. -/
def odRows : List OdRow :=
  odRows10 ++ odRows12 ++ odRows14 ++ odRows16 ++ odRows18 ++ odRows1A ++ odRows1F ++ odRows20a ++ odRows20b ++ odRows20c ++ odRows21a ++ odRows21b ++ odRows22 ++ odRows23 ++ odRows24 ++ odRows25 ++ odRows26a ++ odRows26b ++ odRows27 ++ odRows28 ++ odRows29 ++ odRows2A ++ odRows2B ++ odRows2C ++ odRows2D ++ odRows2E ++ odRows2F ++ odRows30 ++ odRows40

end Sys2Proof.Machine
end

