-- ==== Sys2Proof/Machine/Ops.lean ====
section
/-! DEFINITION. The shared operations on the state: keyed tables, values of the object dictionary and their
defaults, counters, free values, and access to one session, slot, port, network, stripe. -/

namespace Sys2Proof.Machine

/-- The outcome of a command. -/
abbrev Out := Host.Outcome State Fault Refusal

/-- `w` bytes at an offset as a number. -/
def fieldAt (b : Bytes) (off w : Nat) : Nat := beNat ((b.drop off).take w)

/-- The value at a key of a table. -/
def SMap.get? {α : Type} : SMap α → Nat → Option α
  | [], _ => none
  | (k, a) :: m, n => if k = n then some a else SMap.get? m n

/-- The table with a key set; keys stay strictly rising. -/
def SMap.put {α : Type} : SMap α → Nat → α → SMap α
  | [], n, a => [(n, a)]
  | (k, b) :: m, n, a =>
    if n < k then (n, a) :: (k, b) :: m else if n = k then (n, a) :: m else (k, b) :: SMap.put m n a

/-- The table without a key. -/
def SMap.erase {α : Type} (m : SMap α) (n : Nat) : SMap α := m.filter (fun p => p.1 != n)

/-- The value at a key, or the table's default. -/
def SMap.getD {α : Type} (m : SMap α) (n : Nat) (d : α) : α := (SMap.get? m n).getD d

/-- The value at a key changed, from the table's default if it is not listed. -/
def SMap.modify {α : Type} (m : SMap α) (n : Nat) (d : α) (f : α → α) : SMap α := SMap.put m n (f (SMap.getD m n d))

/-- The keys of a table rise strictly. -/
def SMap.rising {α : Type} : SMap α → Bool
  | [] => true
  | (k, _) :: m => (match m with | [] => true | (j, _) :: _ => decide (k < j)) && SMap.rising m

/-- The number of an access path: the supervisor 0, the SDO servers 1 and 2, a session's context c 16 + c. -/
def pathCode : Path → Nat
  | .supervisor => 0
  | .sdo n => 1 + n.val
  | .wkp c => 16 + c.val

/-- Where a value of entry `index`, sub `sub` stands in `OdState.vals`, for the object `inst` of a window. -/
def odKey (inst index sub : Nat) : Nat := inst * 16777216 + index * 256 + sub

/-- An index of a port's block as P1's. -/
def odBase (index : Nat) : Nat := if 0x2210 ≤ index ∧ index < 0x2280 then 0x2210 + index % 16 else index

/-- The row of an entry and sub-index; a port's block stands once, at P1's index. -/
def odRow? (index sub : Nat) : Option OdRow :=
  (odRowsOf (odBase index)).find? (fun r => r.lo ≤ odBase index && odBase index ≤ r.hi && r.subLo ≤ sub && sub ≤ r.subHi)

/-- Whether an index is listed (R459). -/
def odHasIndex (index : Nat) : Bool :=
  (odRowsOf (odBase index)).any (fun r => r.lo ≤ odBase index && odBase index ≤ r.hi)

/-- One of three figures by capacity grade. -/
def byGrade {α : Type} (g : Grade) (a b c : α) : α := match g with | .t60 => a | .t40 => b | .t20 => c

/-- Rows N of Table 6.1. -/
def gradeRows (g : Grade) : Nat := byGrade g 9 6 3

/-- Data bytes of a QLC stripe (Table 6.1): 33.75, 22.5 or 11.25 GiB. -/
def stripeData (g : Grade) : Nat := byGrade g 36238786560 24159191040 12079595520

/-- USER_CAPACITY: 1,656 QLC stripes of data (R242). -/
def userCapacity (g : Grade) : Nat := 1656 * stripeData g

/-- KEY_LIMIT by grade (Table 2.1). -/
def keyLimit (g : Grade) : Nat := byGrade g 8000000000 5300000000 2600000000

/-- The clock frequencies of Table 15.1 in kHz, in its order. -/
def clkFreq : List Nat := [1250000, 1250000, 390625, 156250, 625000, 125000, 2500000, 8000000]

/-- The SPEEDS bits that a port has (Tables 11.1 and 11.11). -/
def portSpeeds (p : Nat) : Nat := if p < 2 then 0xF00 else if p < 6 then 0x700 else 0x080

/-- Source 0 of Table 16.2. -/
abbrev Ev.SUPPLY_DROPOUT : Nat := 0
/-- Source 1 of Table 16.2. -/
abbrev Ev.SUPPLY_CAP_ON : Nat := 1
/-- Source 2 of Table 16.2. -/
abbrev Ev.SUPPLY_OVERVOLTAGE : Nat := 2
/-- Source 3 of Table 16.2. -/
abbrev Ev.SUPPLY_REVERSE : Nat := 3
/-- Source 4 of Table 16.2. -/
abbrev Ev.HOLDUP_LOW : Nat := 4
/-- Source 5 of Table 16.2. -/
abbrev Ev.HEM_INCOMPLETE : Nat := 5
/-- Source 6 of Table 16.2. -/
abbrev Ev.HEM_DONE : Nat := 6
/-- Source 7 of Table 16.2. -/
abbrev Ev.THERMAL_CAP_ON : Nat := 7
/-- Source 8 of Table 16.2. -/
abbrev Ev.THERMAL_STOP : Nat := 8
/-- Source 9 of Table 16.2. -/
abbrev Ev.THERMAL_RESUMED : Nat := 9
/-- Source 10 of Table 16.2. -/
abbrev Ev.HUMIDITY_HIGH : Nat := 10
/-- Source 11 of Table 16.2. -/
abbrev Ev.SHOCK_DETECTED : Nat := 11
/-- Source 12 of Table 16.2. -/
abbrev Ev.CLK_REF_LOST : Nat := 12
/-- Source 13 of Table 16.2. -/
abbrev Ev.CLK_REF_RESTORED : Nat := 13
/-- Source 14 of Table 16.2. -/
abbrev Ev.COLD_START : Nat := 14
/-- Source 32 of Table 16.2. -/
abbrev Ev.MEDIA_PROGRAM_FAIL : Nat := 32
/-- Source 33 of Table 16.2. -/
abbrev Ev.MEDIA_ERASE_FAIL : Nat := 33
/-- Source 34 of Table 16.2. -/
abbrev Ev.MEDIA_UNCORRECTABLE : Nat := 34
/-- Source 35 of Table 16.2. -/
abbrev Ev.MEDIA_DATA_LOST : Nat := 35
/-- Source 36 of Table 16.2. -/
abbrev Ev.PATROL_RELOCATE : Nat := 36
/-- Source 37 of Table 16.2. -/
abbrev Ev.PATROL_PASS_DONE : Nat := 37
/-- Source 38 of Table 16.2. -/
abbrev Ev.FTL_COLLECT_URGENT : Nat := 38
/-- Source 39 of Table 16.2. -/
abbrev Ev.FTL_SMALL_FOLD_FULL : Nat := 39
/-- Source 40 of Table 16.2. -/
abbrev Ev.FTL_NO_SPACE : Nat := 40
/-- Source 41 of Table 16.2. -/
abbrev Ev.MEDIA_DIE_TIMEOUT : Nat := 41
/-- Source 64 of Table 16.2. -/
abbrev Ev.MAC_LINK_UP : Nat := 64
/-- Source 65 of Table 16.2. -/
abbrev Ev.MAC_LINK_DOWN : Nat := 65
/-- Source 66 of Table 16.2. -/
abbrev Ev.MAC_SPEED_FALLBACK : Nat := 66
/-- Source 67 of Table 16.2. -/
abbrev Ev.MAC_CNT_HALF : Nat := 67
/-- Source 68 of Table 16.2. -/
abbrev Ev.MAC_TSQ_OVF : Nat := 68
/-- Source 69 of Table 16.2. -/
abbrev Ev.MAC_PAUSE_WDOG : Nat := 69
/-- Source 70 of Table 16.2. -/
abbrev Ev.MAC_TC10_WAKE : Nat := 70
/-- Source 71 of Table 16.2. -/
abbrev Ev.MAC_TAKEOVER : Nat := 71
/-- Source 72 of Table 16.2. -/
abbrev Ev.MAC_TAKEBACK : Nat := 72
/-- Source 73 of Table 16.2. -/
abbrev Ev.MAC_PHY_SELFTEST_FAIL : Nat := 73
/-- Source 74 of Table 16.2. -/
abbrev Ev.WKP_CERT_REJECTED : Nat := 74
/-- Source 75 of Table 16.2. -/
abbrev Ev.WKP_HELLO_FLOOD : Nat := 75
/-- Source 76 of Table 16.2. -/
abbrev Ev.WKP_SESSIONS_FULL : Nat := 76
/-- Source 96 of Table 16.2. -/
abbrev Ev.MATCH_ACCESS_REFUSED : Nat := 96
/-- Source 97 of Table 16.2. -/
abbrev Ev.MATCH_LIST_FULL : Nat := 97
/-- Source 98 of Table 16.2. -/
abbrev Ev.MATCH_SOFT_ERROR : Nat := 98
/-- Source 99 of Table 16.2. -/
abbrev Ev.MATCH_ENTRY_LOST : Nat := 99
/-- Source 100 of Table 16.2. -/
abbrev Ev.MATCH_TILE_SPARED : Nat := 100
/-- Source 101 of Table 16.2. -/
abbrev Ev.MATCH_CAPACITY_LOST : Nat := 101
/-- Source 112 of Table 16.2. -/
abbrev Ev.CIPHER_RETRY_OK : Nat := 112
/-- Source 113 of Table 16.2. -/
abbrev Ev.CIPHER_TAG_FAIL : Nat := 113
/-- Source 114 of Table 16.2. -/
abbrev Ev.LINING_FALLBACK : Nat := 114
/-- Source 115 of Table 16.2. -/
abbrev Ev.KEYSTORE_DEGRADED : Nat := 115
/-- Source 116 of Table 16.2. -/
abbrev Ev.DRBG_HALT : Nat := 116
/-- Source 117 of Table 16.2. -/
abbrev Ev.SEAL_LAG : Nat := 117
/-- Source 118 of Table 16.2. -/
abbrev Ev.TIME_SOURCE_CHANGE : Nat := 118
/-- Source 119 of Table 16.2. -/
abbrev Ev.TIME_STEP : Nat := 119
/-- Source 120 of Table 16.2. -/
abbrev Ev.TIME_HOLDOVER : Nat := 120
/-- Source 121 of Table 16.2. -/
abbrev Ev.CIPHER_KAT_FAIL : Nat := 121
/-- Source 122 of Table 16.2. -/
abbrev Ev.META_TAG_FAIL : Nat := 122
/-- Source 128 of Table 16.2. -/
abbrev Ev.POCKET_THROTTLE_ON : Nat := 128
/-- Source 129 of Table 16.2. -/
abbrev Ev.POCKET_THROTTLE_OFF : Nat := 129
/-- Source 130 of Table 16.2. -/
abbrev Ev.OPE_MCHK : Nat := 130
/-- Source 131 of Table 16.2. -/
abbrev Ev.INCIDENT_HOLD : Nat := 131
/-- Source 132 of Table 16.2. -/
abbrev Ev.HOLD_REFUSED : Nat := 132
/-- Source 133 of Table 16.2. -/
abbrev Ev.SERVICE_RESET_DONE : Nat := 133
/-- Source 134 of Table 16.2. -/
abbrev Ev.SANITISE_DONE : Nat := 134
/-- Source 135 of Table 16.2. -/
abbrev Ev.FORMAT_DONE : Nat := 135
/-- Source 136 of Table 16.2. -/
abbrev Ev.SESSION_FENCED : Nat := 136
/-- Source 137 of Table 16.2. -/
abbrev Ev.NS_QUOTA_REACHED : Nat := 137
/-- Source 138 of Table 16.2. -/
abbrev Ev.ENG_FATAL : Nat := 138
/-- Source 160 of Table 16.2. -/
abbrev Ev.SEAM_LOST : Nat := 160
/-- Source 161 of Table 16.2. -/
abbrev Ev.SEAM_RESTORED : Nat := 161
/-- Source 162 of Table 16.2. -/
abbrev Ev.SEAM_DEGRADED : Nat := 162
/-- Source 163 of Table 16.2. -/
abbrev Ev.SEAM_ACCESS_VIOLATION : Nat := 163
/-- Source 164 of Table 16.2. -/
abbrev Ev.SUP_RESTART : Nat := 164
/-- Source 165 of Table 16.2. -/
abbrev Ev.ORPHAN_REPLACE : Nat := 165
/-- Source 166 of Table 16.2. -/
abbrev Ev.ATTACH_DONE : Nat := 166
/-- Source 167 of Table 16.2. -/
abbrev Ev.OD_STORE_LOST : Nat := 167
/-- Source 176 of Table 16.2. -/
abbrev Ev.MCODE_PARITY : Nat := 176
/-- Source 177 of Table 16.2. -/
abbrev Ev.MCODE_PATCH_LOADED : Nat := 177
/-- Source 178 of Table 16.2. -/
abbrev Ev.MCODE_PATCH_REJECTED : Nat := 178
/-- Source 179 of Table 16.2. -/
abbrev Ev.FW_DOWNLOAD_DONE : Nat := 179
/-- Source 180 of Table 16.2. -/
abbrev Ev.FW_HEADER_REFUSED : Nat := 180
/-- Source 181 of Table 16.2. -/
abbrev Ev.FW_VERIFY_FAIL : Nat := 181
/-- Source 182 of Table 16.2. -/
abbrev Ev.FW_ACTIVATED : Nat := 182
/-- Source 183 of Table 16.2. -/
abbrev Ev.FW_CONFIRMED : Nat := 183
/-- Source 184 of Table 16.2. -/
abbrev Ev.FW_FALLBACK : Nat := 184
/-- Source 192 of Table 16.2. -/
abbrev Ev.HEALTH_CHANGE : Nat := 192
/-- Source 193 of Table 16.2. -/
abbrev Ev.GUSSET_START : Nat := 193
/-- Source 194 of Table 16.2. -/
abbrev Ev.GUSSET_DONE : Nat := 194
/-- Source 195 of Table 16.2. -/
abbrev Ev.DIE_FAILING : Nat := 195
/-- Source 196 of Table 16.2. -/
abbrev Ev.CHANNEL_LOST : Nat := 196
/-- Source 197 of Table 16.2. -/
abbrev Ev.ROW_NARROWED : Nat := 197
/-- Source 198 of Table 16.2. -/
abbrev Ev.NARROW_DONE : Nat := 198
/-- Source 199 of Table 16.2. -/
abbrev Ev.INDEX_EXCLUDED : Nat := 199
/-- Source 200 of Table 16.2. -/
abbrev Ev.SRAM_ROW_REPAIR : Nat := 200
/-- Source 201 of Table 16.2. -/
abbrev Ev.SRAM_BANK_SPARED : Nat := 201
/-- Source 202 of Table 16.2. -/
abbrev Ev.OPE_SPARED : Nat := 202
/-- Source 203 of Table 16.2. -/
abbrev Ev.CIPHER_CORE_SPARED : Nat := 203
/-- Source 204 of Table 16.2. -/
abbrev Ev.SHA_SPARED : Nat := 204
/-- Source 205 of Table 16.2. -/
abbrev Ev.SCAP_CELL_SPARED : Nat := 205
/-- Source 206 of Table 16.2. -/
abbrev Ev.PHASE_DISABLED : Nat := 206
/-- Source 207 of Table 16.2. -/
abbrev Ev.LPDDR_MAPPED_OUT : Nat := 207
/-- Source 208 of Table 16.2. -/
abbrev Ev.PORT_HELD_DOWN : Nat := 208
/-- Source 224 of Table 16.2. -/
abbrev Ev.REC_MIRROR_FAIL : Nat := 224
/-- Source 225 of Table 16.2. -/
abbrev Ev.REC_MIRROR_REBUILT : Nat := 225
/-- Source 226 of Table 16.2. -/
abbrev Ev.REC_LAST_RESORT : Nat := 226
/-- Source 227 of Table 16.2. -/
abbrev Ev.REC_PENDING_OVF : Nat := 227
/-- Source 228 of Table 16.2. -/
abbrev Ev.DUMP_TAKEN : Nat := 228
/-- Source 229 of Table 16.2. -/
abbrev Ev.DUMP_INCOMPLETE : Nat := 229
/-- Source 230 of Table 16.2. -/
abbrev Ev.PERF_COUNTER_WRAP : Nat := 230
/-- Source 240 of Table 16.2. -/
abbrev Ev.TEST_EVENT : Nat := 240

/-- The severities and default routes of Table 16.2: source, severity (0 I, 1 W, 2 E, 3 F), route bits
(1 supervisor, 2 EMCY, 4 notice, 8 recorder). -/
def eventTable : List (Nat × Nat × Nat) := [
  (0, 1, 9), (1, 0, 8), (2, 1, 9), (3, 1, 9), (4, 2, 15), (5, 2, 15),
  (6, 0, 8), (7, 1, 11), (8, 2, 15), (9, 0, 9), (10, 1, 9), (11, 1, 8),
  (12, 2, 11), (13, 0, 8), (14, 0, 8), (32, 1, 8), (33, 1, 8), (34, 1, 8),
  (35, 2, 15), (36, 0, 8), (37, 0, 8), (38, 1, 9), (39, 1, 9), (40, 1, 13),
  (41, 1, 8), (64, 0, 8), (65, 1, 9), (66, 1, 8), (67, 0, 8), (68, 1, 8),
  (69, 1, 9), (70, 0, 8), (71, 1, 15), (72, 0, 9), (73, 2, 15), (74, 1, 8),
  (75, 1, 8), (76, 1, 9), (96, 1, 8), (97, 1, 13), (98, 0, 8), (99, 2, 9),
  (100, 1, 11), (101, 2, 15), (112, 1, 8), (113, 2, 13), (114, 2, 15), (115, 2, 15),
  (116, 2, 15), (117, 1, 13), (118, 0, 12), (119, 1, 12), (120, 1, 12), (121, 2, 9),
  (122, 2, 9), (128, 1, 8), (129, 0, 8), (130, 1, 8), (131, 1, 15), (132, 2, 15),
  (133, 0, 9), (134, 0, 13), (135, 0, 13), (136, 0, 0), (137, 0, 4), (138, 3, 15),
  (160, 2, 8), (161, 0, 9), (162, 1, 11), (163, 2, 9), (164, 1, 11), (165, 2, 12),
  (166, 0, 8), (167, 2, 15), (176, 1, 8), (177, 0, 8), (178, 2, 15), (179, 0, 13),
  (180, 1, 9), (181, 2, 13), (182, 0, 15), (183, 0, 13), (184, 2, 15), (192, 1, 13),
  (193, 1, 9), (194, 0, 9), (195, 1, 9), (196, 2, 9), (197, 2, 9), (198, 0, 9),
  (199, 2, 9), (200, 0, 8), (201, 1, 9), (202, 1, 9), (203, 1, 9), (204, 1, 9),
  (205, 1, 9), (206, 1, 9), (207, 1, 9), (208, 2, 9), (224, 2, 11), (225, 0, 8),
  (226, 3, 3), (227, 1, 9), (228, 0, 15), (229, 1, 9), (230, 0, 1), (240, 0, 15)]

/-- The severity of a source; none for a reserved one (R554). -/
def severity? (src : Nat) : Option Nat := (eventTable.find? (fun e => e.1 == src)).map (·.2.1)

/-- The default route of a source. -/
def defaultRoute (src : Nat) : Nat := ((eventTable.find? (fun e => e.1 == src)).map (·.2.2)).getD 0

/-- The default of a numeric entry (the Default columns); N is the network's node-ID (R483). (DESIGN CHOICE, log 2) -/
def odDefault (g : Grade) (node inst index sub : Nat) : Nat :=
  if index = Od.KEY_LIMIT then keyLimit g
  else if index = Od.STRIPE_DATA then stripeData g
  else if index = Od.USER_CAPACITY then userCapacity g
  else if index = Od.MATCH_TILE_MAP ∧ 0 < sub then sub - 1
  else if index = Od.CIPHER_CORE_STATE ∧ 0 < sub then (if sub ≤ 8 then 1 else 0)
  else if odBase index = 0x2211 then portSpeeds ((index - 0x2210) / 16) + 0x10
  else if odBase index = 0x2218 then 0x4B32
  else if index = Od.COB_ID_EMCY then 0x80 + node
  else if 0x1400 ≤ index ∧ index ≤ 0x1403 ∧ sub = 1 then 0x80000200 + 0x100 * (index - 0x1400) + node
  else if 0x1800 ≤ index ∧ index ≤ 0x1807 ∧ sub = 1 then
    (if index = 0x1800 then 0x180 + node
     else if index ≤ 0x1803 then 0x80000180 + 0x100 * (index - 0x1800) + node else 0x80000000)
  else if index = 0x1800 ∧ (sub = 3 ∨ sub = 5) then 1000
  else if index = 0x1A00 then [4, 0x20400008, 0x24040008, 0x23030010, 0x20420020].getD sub 0
  else if index = Od.CAN_WAKE_ENABLE ∧ sub = 2 then 0
  else if index = Od.EXIT_LATENCY ∧ 0 < sub then [40, 2000, 1500000, 4000000].getD (sub - 1) 0
  else if index = Od.CLK_FREQ ∧ 0 < sub then clkFreq.getD (sub - 1) 0
  else if index = Od.HOLDUP_ENERGY then 24050
  else if index = Od.EVENT_ROUTE then defaultRoute inst
  else if index = Od.EVENT_SEVERITY then (severity? inst).getD 0xFF
  else if index = Od.SCAP_CELL ∧ 0 < sub then (if sub ≤ 5 then 0x40000000 else 0)
  else ((odRow? index sub).map (·.dflt)).getD 0

/-- The value held of a numeric entry, for one object of its window. -/
def State.odGet (s : State) (inst index sub : Nat) : Nat :=
  match SMap.get? s.od.vals (odKey inst index sub) with
  | some v => v
  | none => odDefault s.hw.grade ((SMap.getD s.can inst {}).node) inst index sub

/-- The value held of a single entry. -/
def State.val (s : State) (index : Nat) : Nat := s.odGet 0 index 0

/-- A numeric entry set. -/
def State.odPut (s : State) (inst index sub v : Nat) : State :=
  { s with od := { s.od with vals := SMap.put s.od.vals (odKey inst index sub) v } }

/-- A single entry set. -/
def State.setVal (s : State) (index v : Nat) : State := s.odPut 0 index 0 v

/-- A counter of `w` bits advanced by `n`, wrapping (the closing lines of the OD tables). -/
def State.bump (s : State) (index : Nat) (n : Nat := 1) (sub : Nat := 0) (w : Nat := 32) : State :=
  s.odPut 0 index sub ((s.odGet 0 index sub + n) % 2 ^ w)

/-- A counter of Table 6.12 advanced by `n`, saturating. -/
def State.bumpSat (s : State) (index : Nat) (n : Nat := 1) (w : Nat := 32) : State :=
  s.setVal index (min (s.val index + n) (2 ^ w - 1))

/-- A figure raised to at least `n`. -/
def State.raiseTo (s : State) (index n : Nat) : State := s.setVal index (max (s.val index) n)

/-- The selection of a path: a selector entry keeps one value for each path (R460). -/
def State.selection (s : State) (p : Nat) (index : Nat) : Nat := s.odGet p index 0

/-- The selectors of R460. -/
def selectors : List Nat :=
  [0x2500, 0x2320, 0x2606, 0x2047, 0x2710, 0x2911, 0x2914, 0x2918, 0x2020, 0x21B1, 0x2B01, 0x2B10, 0x2B11, 0x2D02,
   0x4000, 0x4001, 0x4002]

/-- Every selector of a path at its default again (R460); ATTEST_NONCE is one of them (R378), and the report and the second of
R355 end with the session of a path. (DESIGN CHOICE, log 29) -/
def State.resetSelectors (s : State) (p : Nat) : State :=
  { s with
    od := { s.od with
      vals := s.od.vals.filter (fun e => !(selectors.any (fun i => e.1 == odKey p i 0)))
      blobs := s.od.blobs.filter (fun e => e.1 != odKey p 0x2920 0 && !(decide (16 ≤ p) && e.1 == odKey p 0x2921 0)) }
    seals := { s.seals with nonceHot := if 16 ≤ p then SMap.erase s.seals.nonceHot p else s.seals.nonceHot } }

/-- A blob entry's bytes. -/
def State.blob (s : State) (inst index sub : Nat) : Bytes := SMap.getD s.od.blobs (odKey inst index sub) []

/-- ANCHOR_STATE of a trust anchor: 0 empty, 1 valid, 2 refused (Table 3.14). -/
def State.anchorState (s : State) (a : Nat) : Nat :=
  let c := s.blob a Od.ANCHOR_CERT 0
  if c = [] then 0 else if Config.anchorValid c then 1 else 2

/-- A blob entry set. -/
def State.setBlob (s : State) (inst index sub : Nat) (b : Bytes) : State :=
  { s with od := { s.od with blobs := SMap.put s.od.blobs (odKey inst index sub) b } }

/-- The answer of an access path recorded (the model's own). (DESIGN CHOICE, log 9) -/
def State.answer (s : State) (p : Nat) (a : OdAnswer) : State :=
  { s with od := { s.od with answers := SMap.put s.od.answers p a } }

/-- One more free value drawn. (DESIGN CHOICE, log 3) -/
def State.draw (s : State) : State := { s with draws := s.draws + 1 }

/-- Something sent, recorded. (DESIGN CHOICE, log 6) -/
def State.emit (s : State) (x : Sent) : State := { s with sent := x :: s.sent }

/-- A task slot. -/
def State.slot (s : State) (n : Nat) : Slot := SMap.getD s.seq.slots n {}

/-- A task slot set. -/
def State.setSlot (s : State) (n : Nat) (x : Slot) : State :=
  { s with seq := { s.seq with slots := SMap.put s.seq.slots n x } }

/-- KEY_HANDLE of a slot claimed at a DT: where its key lies in the slot buffer storage, which the spec leaves open (Table 5.2).
(PRESUMED, log 43) -/
def keyHandleOf (n dt : Nat) : Nat := (Config.diagWord 0 (16 * n + 3) dt).toNat % 2 ^ 32

/-- A task slot freed: FREE slots are not listed. -/
def State.freeSlot (s : State) (n : Nat) : State :=
  { s with seq := { s.seq with slots := SMap.erase s.seq.slots n } }

/-- An op engine; the first 32 are in service at manufacture, 32 to 35 are spares (R230). -/
def State.engine (s : State) (e : Nat) : OpEngine := SMap.getD s.seq.engines e { inService := decide (e < 32) }

/-- An op engine set. -/
def State.setEngine (s : State) (e : Nat) (x : OpEngine) : State :=
  { s with seq := { s.seq with engines := SMap.put s.seq.engines e x } }

/-- A session context. -/
def State.session (s : State) (c : Nat) : Session := SMap.getD s.wkp.sessions c {}

/-- A session context set. -/
def State.setSession (s : State) (c : Nat) (x : Session) : State :=
  { s with wkp := { s.wkp with sessions := SMap.put s.wkp.sessions c x } }

/-- A port. -/
def State.port (s : State) (p : Nat) : Port := SMap.getD s.ports p {}

/-- A port set. -/
def State.setPort (s : State) (p : Nat) (x : Port) : State := { s with ports := SMap.put s.ports p x }

/-- A CAN network. -/
def State.net (s : State) (n : Nat) : CanNet := SMap.getD s.can n {}

/-- A CAN network set. -/
def State.setNet (s : State) (n : Nat) (x : CanNet) : State := { s with can := SMap.put s.can n x }

/-- A stripe. -/
def State.stripe (s : State) (i : Nat) : Stripe := SMap.getD s.flash.stripes i {}

/-- A stripe set. -/
def State.setStripe (s : State) (i : Nat) (x : Stripe) : State :=
  { s with flash := { s.flash with stripes := SMap.put s.flash.stripes i x } }

/-- DATA_LEN of a record. -/
def Record.dataLen (r : Record) : Nat := r.data.length

/-- A bin. -/
def State.bin (s : State) (b : Nat) : Bin := SMap.getD s.flash.bins b {}

/-- A bin set. -/
def State.setBin (s : State) (b : Nat) (x : Bin) : State :=
  { s with flash := { s.flash with bins := SMap.put s.flash.bins b x } }

/-- The chain of a namespace. -/
def State.chain (s : State) (ns : Nat) : Chain := SMap.getD s.seals.chains ns {}

/-- The chain of a namespace set. -/
def State.setChain (s : State) (ns : Nat) (x : Chain) : State :=
  { s with seals := { s.seals with chains := SMap.put s.seals.chains ns x } }

/-- The stamp of now: TE, DT and a CSN. -/
def State.stampOf (s : State) (csn : Nat) : Stamp := ⟨s.clock.te, s.clock.dt, csn⟩

/-- Operating seconds (0x200A). -/
def State.seconds (s : State) : Nat := s.val Od.OPERATING_SECONDS

/-- The module is powered and its start-up has begun. -/
def State.live (s : State) : Bool :=
  match s.power.phase with
  | .boot | .running | .drowse1 => true
  | _ => false

/-- Background work and the steps of long routines run: no pause has checkpointed them (Table 5.7), and no entry into DROWSE has
stopped background work (R227). -/
def State.backgroundRuns (s : State) : Bool := s.live && s.power.phase != .drowse1 && s.admin.pauseStage < 2

/-- The index of a port's entry. -/
def portIndex (p offset : Nat) : Nat := 0x2210 + 16 * p + offset

/-- A port counter of Table 11.7 advanced. -/
def State.portStat (s : State) (p sub : Nat) : Nat := s.odGet 0 (portIndex p 12) sub

/-- The counters that select an event of Table 16.6 advance by `n`; a count that reaches 2^48 wraps (R569).
(DESIGN CHOICE, log 38) -/
def State.perf (s : State) (event n : Nat) : State :=
  let on := s.od.vals.filterMap (fun e =>
    if odKey 0 Od.PERF_SELECT 1 ≤ e.1 && e.1 ≤ odKey 0 Od.PERF_SELECT 64 && e.2 == event
    then some (e.1 - odKey 0 Od.PERF_SELECT 0) else none)
  { s with events := { s.events with
      perf := on.foldl (fun m k => SMap.modify m k 0 (· + n)) s.events.perf } }

/-- A job uses a key: it is in the key cache, or is unwrapped into it, and the least recently used of 1,024 leaves (R405). Key 0 is the
MDK, a namespace's number its NDK, 65536 and above the session keys. -/
def State.useKey (s : State) (k : Nat) : State :=
  let s1 := if s.cipher.keyCache.contains k then s else (s.bump Od.KEY_CACHE_MISSES 1 0 64).perf 89 1
  { s1 with cipher := { s1.cipher with keyCache := (k :: s.cipher.keyCache.filter (· != k)).take 1024 } }

end Sys2Proof.Machine
end

