-- ==== Sys2Proof/Machine/Wire.lean ====
section
/-! DEFINITION. Transmission: the queues of a port and what starts next (R423 to R425), datagrams of a session, and
messages on a CAN network (R466 to R470). -/

namespace Sys2Proof.Machine

/-- Bytes that wait in a transmit queue. -/
def queueBytes (fs : List TxFrame) : Nat := fs.foldl (fun n f => n + f.bytes) 0

/-- The highest queue that holds a frame and is not held (R423). -/
def nextQueue? (p : Port) : Option Nat :=
  [7, 6, 5, 4, 3, 2, 1, 0].find? (fun q => !(SMap.getD p.txq q []).isEmpty && (SMap.get? p.held q).isNone)

/-- A port starts its next frame: PAUSE and PFC frames first, then strict priority (R423, R428). -/
def Port.start (p : Port) (now : Nat × Nat) : Port :=
  if p.linkUp = true ∧ p.inFlight = none then
    match p.control with
    | f :: fs => { p with inFlight := some f, control := fs, started := now }
    | [] =>
      match nextQueue? p with
      | none => p
      | some q =>
        match SMap.getD p.txq q [] with
        | [] => p
        | f :: fs => { p with inFlight := some f, txq := SMap.put p.txq q fs, started := now }
  else p

/-- The performance event of a port counter, from the port's first (Table 16.6). -/
def portEvent? (sub : Nat) : Option Nat :=
  if sub = 1 then some 0 else if sub = 2 then some 1 else if sub = 31 then some 2 else if sub = 32 then some 3
  else if sub = 10 then some 4 else if 18 ≤ sub ∧ sub ≤ 30 then some 5 else if sub = 47 then some 6
  else if sub = 46 then some 7 else none

/-- A port counter of Table 11.7 advanced, wrapping at 2^32 (R433); there are seven ports. (DESIGN CHOICE, log 36) -/
def State.portAdd (s : State) (p sub n : Nat) : State :=
  if p < 7 then
    let s1 := s.odPut 0 (portIndex p 12) sub ((s.portStat p sub + n) % 2 ^ 32)
    match portEvent? sub with
    | some k => s1.perf (16 + 8 * p + k) n
    | none => s1
  else s

/-- A port starts its next frame now. -/
def State.startPort (s : State) (p : Nat) : State := s.setPort p (Port.start (s.port p) (s.clock.dt, s.clock.te))

/-- A frame enters a transmit queue, or is discarded into TX_QUEUE_DROP when it does not fit (R425). PS has one queue
of 2 MiB (R449). -/
def State.txPut (s : State) (p q : Nat) (f : TxFrame) : State :=
  let k := if p = 6 then 0 else q
  let room := if p = 6 then 2097152 else 524288
  let po := s.port p
  let w := SMap.getD po.txq k []
  if queueBytes w + f.bytes ≤ room then
    (s.setPort p { po with txq := SMap.put po.txq k (w ++ [f]) }).startPort p
  else s.portAdd p 46 1

/-- The session id of a context (Table 3.5). -/
def sessionId (c gen : Nat) : BitVec 32 := BitVec.ofNat 32 (c * 16384 + gen)

/-- The CONTEXT and GEN of a session id (Table 3.5). -/
def contextOf (sid : BitVec 32) : Nat := sid.toNat / 16384

/-- The type of the WKP message that a datagram carries (Table 3.6); none for a frame that is no WKP datagram. -/
def Msg.wkpType : Msg → Option Nat
  | .cookie _ => some 0x02
  | .helloReply _ _ _ _ => some 0x03
  | .established _ _ => some 0x05
  | .response _ _ _ _ _ _ => some 0x11
  | .ack _ => some 0x12
  | .notice _ _ => some 0x13
  | .close _ _ => some 0x1E
  | .stale _ _ => some 0x1F
  | _ => none

/-- The payload of the datagram of a message, in clear. -/
def Msg.payload : Msg → Bytes
  | .cookie b => b
  | .helloReply _ _ _ b => b
  | .established _ b => b
  | .response _ _ _ _ _ b => b
  | .notice _ b => b
  | .close _ r => toBE 2 r
  | .stale sid r => toBE 4 sid.toNat ++ toBE 1 r
  | _ => []

/-- Command tag, INSTANCE, OFFSET and Message length of the datagram of a message (Tables 3.3 and 3.5). -/
def Msg.place : Msg → Nat × Nat × Nat × Nat
  | .response _ tag inst off total _ => (tag, inst, off, total)
  | .helloReply _ off total _ => (0, 0, off, total)
  | m => (0, 0, 0, m.payload.length)

/-- The 40 bytes of the header of a WKP datagram (Tables 3.3 to 3.5). -/
def headBytes (h : WkpHead) : Bytes :=
  [0x5A] ++ toBE 1 h.version ++ toBE 1 h.type ++ toBE 1 h.flags ++ toBE 4 h.session.toNat ++ toBE 6 h.pn ++ toBE 6 h.ack
    ++ toBE 4 h.sack ++ toBE 4 h.credit ++ toBE 4 h.tag ++ toBE 4 (h.inst * 33554432 + h.offset) ++ toBE 4 h.msgLen

/-- The 40 bytes of the header of a received datagram (Table 3.3). -/
def dgramHead (d : Dgram) : Bytes :=
  [d.magic, d.version, d.type, d.flags] ++ toBE 4 d.session.toNat ++ toBE 6 d.pn.toNat ++ toBE 6 d.ack.toNat
    ++ toBE 4 d.sack.toNat ++ toBE 4 d.credit.toNat ++ toBE 4 d.tag.toNat ++ toBE 4 d.frag.toNat ++ toBE 4 d.msgLen.toNat

/-- The GCM nonce of a session datagram: direction, 16 zero bits, packet number (R124). -/
def sessionNonce (toClient : Bool) (pn : Nat) : BitVec 96 :=
  BitVec.ofNat 96 ((if toClient then 0x0C02 else 0x0C01) * 2 ^ 80 + pn % 2 ^ 64)

/-- The GCM tag of a received datagram verifies under the session's K_cd, with the header as additional data (R23, R124). -/
def tagVerifies (x : Session) (d : Dgram) : Bool :=
  d.gcm == (Config.aesGcm x.keyCd (sessionNonce false d.pn.toNat) (dgramHead d) d.payload).2

/-- Highest packet number received, and the selective-ack bitmap (Table 3.3). -/
def ackFields (rxPns : List Nat) : Nat × Nat :=
  let a := rxPns.foldl max 0
  (a, ((List.range 32).map (fun i => if i + 1 < a ∧ rxPns.contains (a - 1 - i) then 2 ^ i else 0)).sum)

/-- The credit grant word (Table 3.11). -/
def creditWord (x : Session) : Nat := x.creditUnits * 4096 + x.creditCmds

/-- The ones' complement sum of the 16-bit words of bytes. -/
def wordSum : Bytes → Nat
  | a :: b :: rest => a.toNat * 256 + b.toNat + wordSum rest
  | [a] => a.toNat * 256
  | [] => 0

/-- The Internet checksum of bytes; 0xFFFF in place of 0 (RFC 768, R424). (PRESUMED, log 22) -/
def internetSum (b : Bytes) : Nat :=
  let n := wordSum b
  let c := 65535 - n % 65535
  if c = 0 then 65535 else c

/-- The bytes of an IP address: 4 on IPv4, 16 on IPv6. -/
def addrBytes (ipv6 : Bool) (a : BitVec 128) : Bytes := toBE (if ipv6 then 16 else 4) a.toNat

/-- The UDP checksum of a datagram, over its pseudo-header, its UDP header and its data (RFC 768, R424). (PRESUMED, log 22) -/
def udpSum (ipv6 : Bool) (src dst : BitVec 128) (srcPort dstPort : Nat) (data : Bytes) : Nat :=
  internetSum (addrBytes ipv6 src ++ addrBytes ipv6 dst ++ [0, 17] ++ toBE 2 (data.length + 8) ++ toBE 2 srcPort ++ toBE 2 dstPort
    ++ toBE 2 (data.length + 8) ++ [0, 0] ++ data)

/-- The checksum of the header of an IPv4 datagram sent, of `n` bytes in all: version 4, no options, don't-fragment set (RFC 791, R104,
R424). (PRESUMED, log 22) -/
def ipv4Sum (src dst : BitVec 128) (protocol n : Nat) : Nat :=
  let w := (Config.ipv4Free n).toNat
  let head := [0x45] ++ toBE 1 (w / 2 ^ 24) ++ toBE 2 n ++ toBE 2 (w / 256) ++ [0x40, 0] ++ toBE 1 w ++ toBE 1 protocol ++ [0, 0]
    ++ toBE 4 src.toNat ++ toBE 4 dst.toNat
  (65535 - wordSum head % 65535) % 65535

/-- The IP header of a datagram sent: on IPv4 the don't-fragment bit is set (Table 3.1). -/
def ipHead (ipv6 : Bool) (src dst : BitVec 128) (protocol data srcPort dstPort checksum : Nat) : IpHead :=
  { ipv6 := ipv6, src := src, dst := dst, dontFragment := !ipv6, srcPort := srcPort, dstPort := dstPort, checksum := checksum
    headSum := if ipv6 then 0 else ipv4Sum src dst protocol (20 + data) }

/-- An IP datagram that carries UDP: the UDP checksum is always generated (Table 3.1). -/
def udpHead (ipv6 : Bool) (src dst : BitVec 128) (srcPort dstPort : Nat) (data : Bytes) : IpHead :=
  ipHead ipv6 src dst 17 (8 + data.length) srcPort dstPort (udpSum ipv6 src dst srcPort dstPort data)

/-- Bytes of a frame that carries a UDP datagram: Ethernet header, tag when there is one, IP, UDP, data, FCS (R105, R419).
(PRESUMED, log 22) -/
def udpFrameBytes (ipv6 tagged : Bool) (data : Nat) : Nat := 46 + data + (if ipv6 then 20 else 0) + (if tagged then 4 else 0)

/-- A frame is tagged: it is on a VLAN, or it carries a PCP (R417, R418). -/
def linkTagged (l : LinkHead) : Bool := l.vlan != 0 || l.pcp.isSome

/-- The frame of a WKP datagram: in a secured session, encrypted under K_dc with its header as additional data (R103, R104, R107,
R124, R424). -/
def wkpFrame (l : LinkHead) (ipv6 : Bool) (src dst : BitVec 128) (srcPort dstPort : Nat) (key : Option (BitVec 256)) (h : WkpHead)
    (m : Msg) : TxFrame :=
  let cipher := key.map (fun k => Config.aesGcm k (sessionNonce true h.pn) (headBytes h) m.payload)
  let data := headBytes h ++ (match cipher with | some c => c.1 ++ toBE 16 c.2.toNat | none => m.payload)
  { bytes := udpFrameBytes ipv6 (linkTagged l) (40 + m.payload.length + (if key.isSome then 16 else 0)), msg := m, onLink := some l
    ip := some (udpHead ipv6 src dst srcPort dstPort data), head := some h, cipher := cipher }

/-- Where the frames of a session go: to the link-layer address and on the VLAN of its latest accepted frame, with its PCP, from
the MAC address of the session's own port (R418, R446). -/
def sessionLink (x : Session) : LinkHead := { mac := x.port, link := x.link, vlan := x.vlan, pcp := x.pcp }

/-- The header of a datagram of a session. PRIO is that of the queue it leaves on; ORDERED, TIMED and ACK_NOW are 0. A HELLO_REPLY
is not encrypted and has packet number 0 (Tables 3.3, 3.4, 3.6). (DESIGN CHOICE, log 45) -/
def sessionHead (c : Nat) (x : Session) (q : Nat) (numbered : Bool) (m : Msg) : WkpHead :=
  let a := ackFields x.rxPns
  let p := m.place
  { version := x.version, type := m.wkpType.getD 0, flags := q * 32 + (if x.secured && numbered then 2 else 0)
    session := sessionId c x.gen, pn := if numbered then x.txPn + 1 else 0, ack := a.1, sack := a.2, credit := creditWord x
    tag := p.1, inst := p.2.1, offset := p.2.2.1, msgLen := p.2.2.2 }

/-- The frame of a datagram of a session, from the UDP port and address at which it was established (R103). -/
def sessionFrame (c : Nat) (x : Session) (q : Nat) (numbered : Bool) (m : Msg) : TxFrame :=
  wkpFrame (sessionLink x) x.ipv6 x.dst x.src x.udp x.srcPort.toNat (if x.secured && numbered then some x.keyDc else none)
    (sessionHead c x q numbered m) m

/-- A datagram leaves for the session's client under the next packet number, from the port of its latest accepted frame
(R124, R135, R405, R418). -/
def State.sessionDatagram (s : State) (c q : Nat) (m : Msg) (stamped : Bool) : State :=
  let x := s.session c
  let stamp := if stamped then some (BitVec.ofNat 32 (c * 16384 + x.gen), (x.txPn + 1) % 65536, 3) else none
  ((if x.secured then s.useKey (65537 + 2 * c) else s).setSession c { x with txPn := x.txPn + 1, ackDue := false }).txPut x.physical q
    { sessionFrame c x q true m with stampKind := stamp }

/-- The packet numbers of a session under its present keys are used up but for the last, which is that of its CLOSE (R139).
(DESIGN CHOICE, log 29) -/
def numbersUsed (x : Session) : Bool := decide (2 ^ 48 - 2 ≤ x.txPn)

/-- A datagram leaves for the session's client, while a packet number is left for it (R124, R139). -/
def State.sessionSend (s : State) (c q : Nat) (m : Msg) (stamped : Bool := false) : State :=
  if numbersUsed (s.session c) then s else s.sessionDatagram c q m stamped

/-- The context that a session id names, if the id is its present one. -/
def State.contextAt? (s : State) (sid : BitVec 32) : Option Nat :=
  let c := contextOf sid
  if c < 32768 ∧ (s.session c).gen = sid.toNat % 16384 ∧ 0 < sid.toNat % 16384 then some c else none

/-- The network whose communication entries network `n` uses: CAN1's in mode 1 (R467). -/
def State.netEntries (s : State) (n : Nat) : Nat := if n = 1 ∧ (s.net 1).mode = 1 then 0 else n

/-- The NMT state code of a network: 0 initialising, 4 Stopped, 5 Operational, 0x7F Pre-operational. -/
def State.nmt (s : State) (n : Nat) : Nat := s.odGet 0 Od.CAN_NMT_STATE (s.netEntries n + 1)

/-- The CAN controllers and the supervisor are powered: not in the Hem, in DROWSE or in a fatal stop (Table 14.3, R528). -/
def State.canPowered (s : State) : Bool :=
  s.live || s.power.phase == .drowse2 || s.power.phase == .thermalStop

/-- CANopen messages can leave: the supervisor reaches the controllers, which are powered and not bus-off (R470). -/
def State.canLive (s : State) (n : Nat) : Bool :=
  s.canPowered && !s.seam.orphan && !(s.net n).busOff

/-- A CAN message leaves on one network. -/
def State.canSend (s : State) (n cob : Nat) (data : Bytes) : State :=
  if s.canLive n then s.emit (.can n ⟨cob % 2048, data⟩) else s

/-- A CAN message leaves on the network, and on the other as well in mode 1 (R467). -/
def State.canSendBoth (s : State) (n cob : Nat) (data : Bytes) : State :=
  if (s.net 1).mode = 1 then (s.canSend 0 cob data).canSend 1 cob data else s.canSend n cob data

/-- The error register of a network (R477). -/
def State.errorRegister (s : State) (n : Nat) : Nat :=
  let b4 := (s.net n).passive || (s.net n).busOff
  let b7 := decide (4 ≤ s.val Od.HEALTH_STATE)
  (if b7 then 128 else 0) + (if b4 then 16 else 0) + (if b4 || b7 then 1 else 0)

/-- EMCY is served in Pre-operational and Operational (R468), and not while the node is unconfigured (R480). -/
def State.emcyServed (s : State) (n : Nat) : Bool :=
  s.canLive n && (s.nmt n == 5 || s.nmt n == 0x7F) && (s.net (s.netEntries n)).node != 255

/-- An EMCY leaves: code, error register, five bytes (R476); the error field takes it (R478). -/
def State.emcyOut (s : State) (n code : Nat) (five : Bytes) : State :=
  let e := s.netEntries n
  let s1 := s.canSend n (s.odGet e Od.COB_ID_EMCY 0) (toLE 2 code ++ [BitVec.ofNat 8 (s.errorRegister n)] ++ five)
  let field := code + (five.getD 0 0).toNat * 65536 + (five.getD 1 0).toNat * 16777216
  s1.setNet n { s1.net n with
    errors := (field :: (s1.net n).errors).take 8
    inhibited := decide (0 < s1.odGet e Od.INHIBIT_TIME_EMCY 0) }

/-- Whether an error code is a health EMCY (Table 12.7). -/
def isHealthCode (code : Nat) : Bool := 0xFF11 ≤ code && code ≤ 0xFF17

/-- The first entry that satisfies a test removed. -/
def dropFirst {α : Type} (p : α → Bool) : List α → List α
  | [] => []
  | a :: l => if p a then l else a :: dropFirst p l

/-- An EMCY is sent at once, queued, takes another's place, or is dropped (R478); bit 31 of COB_ID_EMCY turns the producer
off. (DEDUCED, log 13) -/
def State.emcy (s : State) (n code : Nat) (five : Bytes) : State :=
  let x := s.net n
  if bitOf 31 (s.odGet (s.netEntries n) Od.COB_ID_EMCY 0) then s
  else if x.emcy.isEmpty && !x.inhibited && s.emcyServed n then s.emcyOut n code five
  else if x.emcy.length < 16 then s.setNet n { x with emcy := x.emcy ++ [(code, five)] }
  else if isHealthCode code then
    let rest := if x.emcy.any (fun e => !isHealthCode e.1) then dropFirst (fun e => !isHealthCode e.1) x.emcy
      else x.emcy.drop 1
    (s.setNet n { x with emcy := rest ++ [(code, five)] }).bump Od.CNT_EMCY_LOST 1 (n + 1)
  else s.bump Od.CNT_EMCY_LOST 1 (n + 1)

/-- The queued EMCYs of a network leave as far as the inhibit time lets them: one, or all of them with an inhibit time of 0
(R478). -/
def State.emcyDrain : Nat → State → Nat → State
  | 0, s, _ => s
  | k + 1, s, n =>
    match (s.net n).emcy with
    | [] => s
    | e :: es =>
      if (s.net n).inhibited || !s.emcyServed n then s
      else State.emcyDrain k ((s.setNet n { s.net n with emcy := es }).emcyOut n e.1 e.2) n

/-- The queued EMCYs of both networks. -/
def State.emcyDrainAll (s : State) : State := State.emcyDrain 16 (State.emcyDrain 16 s 0) 1

/-- An EMCY on each network. -/
def State.emcyAll (s : State) (code : Nat) (five : Bytes) : State := (s.emcy 0 code five).emcy 1 code five

end Sys2Proof.Machine
end

