-- ==== Sys2Proof/Machine/Events.lean ====
section
/-! DEFINITION. Events: routing, rate windows, notices, the recorder (R554 to R567). -/

namespace Sys2Proof.Machine

/-- CRC-32 of IEEE 802.3, one bit at a time. -/
def crcBits : Nat → Nat → Nat
  | 0, c => c
  | k + 1, c => crcBits k (if c % 2 = 1 then Nat.xor (c / 2) 0xEDB88320 else c / 2)

/-- CRC-32 of IEEE 802.3 (R561). (DESIGN CHOICE, log 4) -/
def crc32 (bs : Bytes) : Nat :=
  Nat.xor (bs.foldl (fun c b => crcBits 8 (Nat.xor c b.toNat)) 0xFFFFFFFF) 0xFFFFFFFF

/-- Three 32-bit parameters, unused ones 0. -/
def paramBytes (ps : List (BitVec 32)) : Bytes :=
  ((ps ++ [0, 0, 0]).take 3).foldr (fun (p : BitVec 32) bs => toBE 4 p.toNat ++ bs) []

/-- The 28 bytes of a record before its CRC (Table 16.3). -/
def recHead (r : Rec) : Bytes :=
  toBE 2 r.code ++ toBE 1 (r.sev * 64 + (if r.engine then 32 else 0) + (if r.late then 16 else 0) + (if r.fromNor then 8 else 0))
    ++ toBE 1 (min r.params.length 3) ++ toBE 4 r.seconds ++ toBE 4 r.cycles ++ toBE 4 r.seqNo
    ++ paramBytes r.params

/-- The 32 bytes of a record (Table 16.3). (DESIGN CHOICE, log 45) -/
def recBytes (r : Rec) : Bytes := recHead r ++ toBE 4 (crc32 (recHead r))

/-- The sequence number after one: 4,096 follows 0xFFFFFFFF (R562). -/
def seqAfter (n : Nat) : Nat := if n = 0xFFFFFFFF then 4096 else n + 1

/-- The log after records are written: LOG_SEQ below 4,096 stays for life, of the others the newest 16,384 (R562). -/
def logAppend (log rs : List Rec) : List Rec :=
  let circ := (log ++ rs).filter (fun r => 4096 ≤ r.seqNo)
  (log ++ rs).filter (fun r => r.seqNo < 4096) ++ circ.drop (circ.length - 16384)

/-- The pending buffer is written to the log band, or to the last-resort area when both mirrors have failed (R563,
R568). -/
def State.writeLog (s : State) : State :=
  let e := s.events
  if 2 ≤ e.mirrorsLost.length then
    { s with events := { e with pendingRecs := []
                                nor := (e.nor ++ e.pendingRecs).drop ((e.nor ++ e.pendingRecs).length - 64) } }
  else { s with events := { e with pendingRecs := [], log := logAppend e.log e.pendingRecs } }

/-- A record with the next LOG_SEQ enters the pending buffer. -/
def State.addPending (s : State) (r : Rec) : State :=
  { s with events := { s.events with
      pendingRecs := s.events.pendingRecs ++ [{ r with seqNo := s.events.nextSeq }]
      nextSeq := seqAfter s.events.nextSeq } }

/-- A record is dropped by a full buffer (R567). -/
def State.dropRecord (s : State) : State :=
  let s1 := s.bump Od.REC_PENDING_LOST
  { s1 with events := { s1.events with
      frozenLost := s1.events.frozenLost + (if s1.events.frozen then 1 else 0) } }

/-- Whether a record of severity `sev` would be dropped (R567). -/
def State.dropsRecord (s : State) (sev : Nat) : Bool := 256 ≤ s.events.pendingRecs.length && sev != 3

/-- A record of the present POWER_CYCLES. -/
def State.mkRec (s : State) (code sev : Nat) (engine late : Bool) (params : List (BitVec 32)) (seconds : Nat) : Rec :=
  { code := code, sev := sev, engine := engine, late := late, params := params, seconds := seconds
    cycles := s.val Od.POWER_CYCLES, seqNo := 0 }

/-- The freeze ends: a THAW record is made and the pending buffer is written (R566). -/
def State.thaw (s : State) (why : Nat) : State :=
  let r := s.mkRec 0x0202 0 false false [BitVec.ofNat 32 s.events.frozenLost, BitVec.ofNat 32 why] s.seconds
  let s1 := if s.dropsRecord 0 then s.dropRecord else s.addPending r
  ({ s1 with events := { s1.events with frozen := false, frozenLost := 0, ovfRaised := false } }.setVal Od.REC_FREEZE 0).writeLog

/-- A record enters the pending buffer, which is written when it holds 64 or the record is of severity E or F, unless
the recorder is frozen (R563, R566, R567). -/
def State.enterRecord (s : State) (r : Rec) : State :=
  if s.dropsRecord r.sev then s.dropRecord
  else
    let s1 := (if 256 ≤ s.events.pendingRecs.length then s.writeLog else s).addPending r
    if s1.events.frozen then (if r.sev = 3 then s1.thaw 2 else s1)
    else if 2 ≤ r.sev ∨ 64 ≤ s1.events.pendingRecs.length then s1.writeLog else s1

/-- The sources that the engine raises, by the duties of Table 13.1; the supervisor raises the others. (DEDUCED, log 10) -/
def engineSource (src : Nat) : Bool :=
  (32 ≤ src && src ≤ 73) || (75 ≤ src && src ≤ 138) || (160 ≤ src && src ≤ 163) || src == 165 || (176 ≤ src && src ≤ 178)
    || (193 ≤ src && src ≤ 204) || src == 207 || src == 208 || src == 230

/-- Whether one more raise of a source may reach a destination in this window (R559). -/
def State.withinRate (s : State) (src dest sev : Nat) : Bool :=
  sev == 3 || decide (SMap.getD s.events.delivered (src * 4 + dest) 0 < s.val Od.EVENT_RATE)

/-- A raise counted as delivered to a destination, or as suppressed (R559). (DESIGN CHOICE, log 36) -/
def State.countRaise (s : State) (src dest : Nat) (ok : Bool) : State :=
  { s with events := { s.events with
      delivered := if ok then SMap.modify s.events.delivered (src * 4 + dest) 0 (· + 1) else s.events.delivered
      suppressed := if ok then s.events.suppressed else SMap.modify s.events.suppressed src 0 (· + 1) } }

/-- The body of a NOTICE (Table 4.11). (DESIGN CHOICE, log 45) -/
def noticeBody (s : State) (seqNo src sev : Nat) (params : List (BitVec 32)) : Bytes :=
  toBE 8 seqNo ++ toBE 2 s.clock.te ++ toBE 1 src ++ toBE 1 sev ++ toBE 1 (min params.length 3) ++ [0, 0, 0]
    ++ toBE 8 s.clock.dt ++ paramBytes params ++ [0, 0, 0, 0]

/-- Notices of a session that wait in transmit queues (R185). -/
def State.noticesWaiting (s : State) (sid : BitVec 32) : Nat :=
  (s.ports.map (fun e => (e.2.txq.map (fun q =>
    (q.2.filter (fun f => match f.msg with | .notice k _ => k == sid | _ => false)).length)).sum)).sum

/-- A notice to one session: it consumes its NOTICE_SEQ, and is sent when the session is OPEN and its queue has room
(R185). -/
def State.noticeTo (s : State) (src sev : Nat) (params : List (BitVec 32)) (c : Nat) : State :=
  let x := s.session c
  if x.noticeMask.getLsbD src then
    let n := x.noticeSeq + 1
    let s1 := s.setSession c { x with noticeSeq := n }
    if x.state = .isOpen ∧ s.noticesWaiting (sessionId c x.gen) < 64 then
      s1.sessionSend c 6 (.notice (sessionId c x.gen) (noticeBody s n src sev params))
    else s1
  else s

/-- A notice to every session whose subscription selects the source. -/
def State.notices (s : State) (src sev : Nat) (params : List (BitVec 32)) : State :=
  (s.wkp.sessions.map (·.1)).foldl (fun t c => t.noticeTo src sev params c) s

/-- An event reaches the supervisor, EMCY and recorder destinations of its route (R556). (DESIGN CHOICE, log 36) -/
def State.deliver (s : State) (src sev : Nat) (engine late : Bool) (params : List (BitVec 32)) (dt seconds : Nat) : State :=
  let route := s.odGet src Od.EVENT_ROUTE 0
  let s1 := if bitOf 0 route then
      ((s.odPut src Od.EVENT_COUNT 0 ((s.odGet src Od.EVENT_COUNT 0 + 1) % 2 ^ 32)).odPut src Od.EVENT_LAST_DT 0 dt).emit
        (.supervisorInterrupt src (recBytes (s.mkRec src sev engine late params seconds)))
    else s
  let s2 := if bitOf 1 route then
      (if s1.withinRate src 1 sev then
        (s1.countRaise src 1 true).emcyAll 0xFF01 (toBE 1 src ++ toLE 4 (params.getD 0 0).toNat)
       else s1.countRaise src 1 false)
    else s1
  if bitOf 3 route && src != 226 then
    (if s2.withinRate src 3 sev then
      (s2.countRaise src 3 true).enterRecord (s2.mkRec src sev engine late params seconds)
     else s2.countRaise src 3 false)
  else s2

/-- One raise of an event: the engine's own notices at once, the other destinations through the Seam (R556, R560).
(DEDUCED, log 10; DESIGN CHOICE, log 42) -/
def State.raiseOnce (s : State) (src : Nat) (params : List (BitVec 32)) : State :=
  match severity? src with
  | none => s
  | some sev =>
    let s0 := s.perf 191 1
    let s1 := if bitOf 2 (s0.odGet src Od.EVENT_ROUTE 0) then
        (if s0.withinRate src 2 sev then (s0.countRaise src 2 true).notices src sev params else s0.countRaise src 2 false)
      else s0
    if engineSource src && (!s1.seam.up || !s1.seam.queue.isEmpty) then
      if s1.seam.queue.length < 4096 then
        { s1 with seam := { s1.seam with queue := s1.seam.queue ++ [⟨src, params, s1.clock.dt, s1.seconds⟩] } }
      else s1.bump Od.SEAM_EVENTS_LOST
    else s1.deliver src sev (engineSource src) false params s1.clock.dt s1.seconds

/-- REC_PENDING_OVF is raised once for each freeze, or once for each second (R567). (DESIGN CHOICE, log 36) -/
def State.reportOverflow (s : State) (lostBefore : Nat) : State :=
  if s.val Od.REC_PENDING_LOST ≠ lostBefore ∧ s.events.ovfRaised = false then
    { s with events := { s.events with ovfRaised := true } }.raiseOnce Ev.REC_PENDING_OVF
      [BitVec.ofNat 32 (s.val Od.REC_PENDING_LOST)]
  else s

/-- An event is raised (R556). -/
def State.raise (s : State) (src : Nat) (params : List Nat := []) : State :=
  (s.raiseOnce src (params.map (BitVec.ofNat 32))).reportOverflow (s.val Od.REC_PENDING_LOST)

/-- A record that no event makes enters the buffer (Table 16.5). (DESIGN CHOICE, log 36) -/
def State.record (s : State) (code : Nat) (params : List Nat) : State :=
  (s.enterRecord (s.mkRec code 0 false false (params.map (BitVec.ofNat 32)) s.seconds)).reportOverflow
    (s.val Od.REC_PENDING_LOST)

/-- The oldest queued event message crosses the Seam (R492); LATE when it waited more than 1 s (Table 16.4). -/
def State.seamDeliver (s : State) : State :=
  match s.seam.queue with
  | [] => s
  | e :: rest =>
    ({ s with seam := { s.seam with queue := rest } }.deliver e.source ((severity? e.source).getD 0) true
      (decide (e.seconds + 1 < s.seconds)) e.params e.dt e.seconds).reportOverflow (s.val Od.REC_PENDING_LOST)

/-- `n` queued event messages cross the Seam in order (R502). -/
def State.seamDeliverAll : Nat → State → State
  | 0, s => s
  | n + 1, s => State.seamDeliverAll n s.seamDeliver

/-- A dump is ended early (R573). -/
def State.abandonDump (s : State) : State :=
  match s.events.dumping with
  | none => s
  | some d =>
    ({ s with events := { s.events with dumping := none, dumps := s.events.dumps ++ [d] } }.setVal Od.DUMP_STATE 0).raise
      Ev.DUMP_INCOMPLETE [d.seqNo]

/-- A port counter advanced, and MAC_CNT_HALF raised when it crosses half its range (R435). -/
def State.portCount (s : State) (p sub : Nat) (n : Nat := 1) : State :=
  let before := s.portStat p sub
  let s1 := s.portAdd p sub n
  if before < 2 ^ 31 ∧ 2 ^ 31 ≤ s1.portStat p sub then s1.raise Ev.MAC_CNT_HALF [p, sub, s1.portStat p sub] else s1

end Sys2Proof.Machine
end

