-- ==== Sys2Proof/Machine/CanNet.lean ====
section
/-! DEFINITION. A CAN network's NMT state, its boot-up and its reset (R467 to R470, R477). -/

namespace Sys2Proof.Machine

/-- The NMT state of a network set. -/
def State.setNmt (s : State) (n v : Nat) : State := s.odPut 0 Od.CAN_NMT_STATE (s.netEntries n + 1) v

/-- The node-ID in force on a network. -/
def State.nodeOf (s : State) (n : Nat) : Nat := (s.net (s.netEntries n)).node

/-- The boot-up message, unless the node is unconfigured (R470, R480). -/
def State.bootUp (s : State) (n : Nat) : State :=
  if s.nodeOf n = 255 then s else s.canSendBoth n (0x700 + s.nodeOf n) [0]

/-- What a network forgets when its communication restarts: transfer, LSS state, samples, inhibit times, pending PDOs. -/
def forgetTraffic (x : CanNet) : CanNet :=
  { x with sdo := none, lss := .waiting, fastscan := 0, lastSent := [], sentAt := [], syncs := [], rpdos := [] }

/-- A network as after a supervisor restart: boot-up, then Operational or Pre-operational by NMT_STARTUP (R470). -/
def State.canBoot (s : State) (n : Nat) : State :=
  if s.nodeOf n = 255 then s.setNmt n 0
  else
    (s.bootUp n).setNmt n (if bitOf 2 (s.odGet (s.netEntries n) Od.NMT_STARTUP 0) then 5 else 0x7F)

/-- Both networks as after a supervisor restart, which has forgotten their traffic; in mode 1 CAN1's boot-up leaves on both (R467).
(DEDUCED, log 13) -/
def State.canBootAll (s : State) : State :=
  let s1 := (s.setNet 0 (forgetTraffic (s.net 0))).setNet 1 (forgetTraffic (s.net 1))
  (if (s1.net 1).mode = 1 then s1.canBoot 0 else (s1.canBoot 0).canBoot 1).emcyDrainAll

/-- A network whose communication is reset: a configured node-ID and bit rate take effect (R469). -/
def freshNet (x : CanNet) : CanNet :=
  { forgetTraffic x with node := x.pendNode.getD x.node, rate := x.pendRate.getD x.rate, pendNode := none, pendRate := none }

/-- The networks whose communication a reset on network `n` restarts (R467). -/
def State.resetNets (s : State) (n : Nat) : List Nat := if (s.net 1).mode = 1 then [0, 1] else [n]

/-- The 0x1000-range entries of a network at their defaults, where a restore was asked for (Table 12.10, 0x1011). -/
def State.restoreDefaults (s : State) (n : Nat) : State :=
  if s.od.restoreDefaults.contains n then
    { s with od := { s.od with
        vals := s.od.vals.filter (fun e => !(e.1 / 16777216 == n && decide (0x1000 ≤ e.1 / 256 % 65536) && decide (e.1 / 256 % 65536 < 0x2000)))
        restoreDefaults := s.od.restoreDefaults.filter (· != n) } }
  else s

/-- One network's part of an NMT reset communication (R469): CAN2_MODE takes effect with CAN2's (R467). -/
def State.resetNet (s : State) (n : Nat) : State :=
  let s1 := (s.restoreDefaults n).resetSelectors (1 + n)
  let x := freshNet (s1.net n)
  s1.setNet n (if n = 1 then { x with mode := s1.val Od.CAN2_MODE } else x)

/-- A network whose communication has been reset: boot-up and Pre-operational (R469); unconfigured it serves LSS only. -/
def State.enterPreOp (s : State) (n : Nat) : State :=
  if s.nodeOf n = 255 then s.setNmt n 0 else (s.bootUp n).setNmt n 0x7F

/-- NMT reset communication (R469). A reset that brings CAN2 into mode 1 leaves CAN1's state as it is (R467, R468).
(DEDUCED, log 13) -/
def State.canReset (s : State) (n : Nat) : State :=
  let s1 := (s.resetNets n).foldl State.resetNet s
  if (s1.net 1).mode = 1 then (if (s.net 1).mode = 1 then s1.enterPreOp 0 else s1.bootUp 1)
  else (s.resetNets n).foldl State.enterPreOp s1

/-- The networks after power-up: stored node-ID and bit rate, CAN2_MODE in force, nothing sent yet. -/
def State.canPowerUp (s : State) : State :=
  [0, 1].foldl (fun t n =>
    (t.setNet n { node := t.odGet 0 Od.CAN_NODE_ID (n + 1), rate := t.odGet 0 Od.CAN_BITRATE (n + 1)
                  mode := if n = 1 then t.val Od.CAN2_MODE else 0 }).odPut 0 Od.CAN_NMT_STATE (n + 1) 0) s

/-- EMCY 0x0000 when the error register of a network returns to 0 (Table 12.7). -/
def State.emcyClear (s before : State) (n : Nat) : State :=
  if before.errorRegister n ≠ 0 ∧ s.errorRegister n = 0 then s.emcy n 0 [0, 0, 0, 0, 0] else s

end Sys2Proof.Machine
end

