-- ==== Sys2Proof/Machine/Microcode.lean ====
section
/-! DEFINITION. The control stores (R577 to R588): the words of Tables 17.1 to 17.3 by their fields, their parity, patch slots and
their checks, what a store holds, and where a step takes the micro PC of an op engine. -/

namespace Sys2Proof.Machine

/-- The even parity of some bits of a word: set when an odd number of them is set. -/
def parityOf (bits : List Nat) (n : Nat) : Bool := bits.foldl (fun p k => p != n.testBit k) false

/-- A number whose bit `k` is the `k`-th of some parities. -/
def parityBits (ps : List Bool) : Nat := ps.foldr (fun p n => 2 * n + (if p then 1 else 0)) 0

/-- KIND of a micro word: a nano pointer (Table 17.1). -/
def microPointer (w : BitVec 32) : Bool := w.getLsbD 31
/-- NANO_ADDR of a pointer word. -/
def microNano (w : BitVec 32) : BitVec 11 := w.extractLsb' 20 11
/-- REG_A, REG_B and REG_DEST of a pointer word. -/
def microRegs (w : BitVec 32) : BitVec 4 × BitVec 4 × BitVec 4 := (w.extractLsb' 16 4, w.extractLsb' 12 4, w.extractLsb' 8 4)
/-- CTL_OP of a control word. -/
def microCtl (w : BitVec 32) : BitVec 4 := w.extractLsb' 27 4
/-- COND of a control word. -/
def microCond (w : BitVec 32) : BitVec 5 := w.extractLsb' 22 5
/-- TARGET of a control word. -/
def microTarget (w : BitVec 32) : BitVec 14 := w.extractLsb' 8 14
/-- STEP_END of a micro word. -/
def microStepEnd (w : BitVec 32) : Bool := w.getLsbD 7

/-- PARITY of a micro word: bit 0 over bits 30, 28, … 2, bit 1 over bits 31, 29, … 3 (Table 17.1). -/
def microParity (n : Nat) : Nat :=
  parityBits [parityOf ((List.range 15).map (fun k => 2 * k + 2)) n, parityOf ((List.range 15).map (fun k => 2 * k + 3)) n]

/-- PARITY of a nanoword or a sequencer microword: bit i over the bits of its lower `w` whose number modulo 8 is i (Tables 17.2,
17.3). -/
def lanesParity (w n : Nat) : Nat :=
  parityBits ((List.range 8).map (fun i => parityOf ((List.range (w / 8)).map (fun k => 8 * k + i)) n))

/-- The fields of a nanoword by their bits (Table 17.2), PARITY and the reserved bits apart. -/
def nanoFields : List (String × Nat × Nat) := [
  ("ALU_OP", 191, 184), ("SRC_A", 183, 176), ("SRC_B", 175, 168), ("DEST", 167, 160), ("IMMEDIATE", 159, 128), ("SLOT_CTL", 127, 112),
  ("POCKET_CTL", 111, 96), ("CRYPTO_CTL", 95, 80), ("INDEX_CTL", 79, 64), ("MEDIA_CTL", 63, 48), ("MEM_CTL", 47, 32),
  ("STATUS_CTL", 31, 16), ("HOLD", 15, 8)]

/-- The fields of a sequencer microword by their bits (Table 17.3), PARITY and the reserved bits apart. -/
def seqFields : List (String × Nat × Nat) := [
  ("SEQ_OP", 135, 128), ("NEXT_ADDR", 127, 115), ("COND", 114, 110), ("DIE", 109, 106), ("NAND_CMD", 105, 98), ("CYCLE", 97, 94),
  ("TIMER", 93, 78), ("ADDR_SRC", 77, 70), ("BUF_CTL", 69, 58), ("LDPC_CTL", 57, 50), ("XOR_CTL", 49, 42), ("RLVL_SEL", 41, 34),
  ("POLL_MASK", 33, 26), ("CNT_CTL", 25, 18), ("EVT_CTL", 17, 10), ("STEP_END", 0, 0)]

/-- A field of a word by its name. -/
def wordField (fields : List (String × Nat × Nat)) (name : String) (n : Nat) : Nat :=
  match fields.find? (fun f => f.1 == name) with
  | some (_, hi, lo) => bitsOf hi lo n
  | none => 0

/-- Words in a store: 0 micro, 1 nano, 2 sequencer (R577). -/
def storeWords (store : Nat) : Nat := [16384, 2048, 8192].getD store 0

/-- Bytes of a word of a store (Table 17.5). -/
def wordBytes (store : Nat) : Nat := [4, 25, 18].getD store 0

/-- PARITY stands right in a word of a store. -/
def wordParityOk (store n : Nat) : Bool :=
  match store with
  | 0 => n % 4 == microParity n
  | 1 => bitsOf 199 192 n == lanesParity 192 n
  | _ => bitsOf 143 136 n == lanesParity 136 n

/-- The word of the ROM base at an address: its fields, its reserved bits 0, and its parity (R577, Tables 17.1 to 17.3). -/
def romWord (store a : Nat) : Nat :=
  match store with
  | 0 =>
    let n := (Config.romMicro (BitVec.ofNat 14 a)).toNat * 2 ^ 7
    n + microParity n
  | 1 =>
    let n := (Config.romNano (BitVec.ofNat 11 a)).toNat * 2 ^ 8
    n + lanesParity 192 n * 2 ^ 192
  | _ =>
    let f := (Config.romSeq (BitVec.ofNat 13 a)).toNat
    let n := f / 2 * 2 ^ 10 + f % 2
    n + lanesParity 136 n * 2 ^ 136

/-- The slot records of a part's plaintext (Table 17.5); none where they do not parse. `fuel` bounds their number. -/
def parsePatches : Nat → Bytes → Option (List PatchSlot)
  | _, [] => some []
  | 0, _ => none
  | fuel + 1, b =>
    let store := fieldAt b 0 1
    let count := fieldAt b 2 2
    let w := wordBytes store
    if w = 0 ∨ fieldAt b 1 1 ≠ 0 ∨ count = 0 ∨ 4096 < count ∨ b.length < 8 + count * w then none
    else
      (parsePatches fuel (b.drop (8 + count * w))).map (fun l =>
        { store := store, start := fieldAt b 4 4, words := (List.range count).map (fun k => fieldAt b (8 + k * w) w) } :: l)

/-- A slot lies within its store. -/
def patchFits (x : PatchSlot) : Bool := decide (x.start + x.words.length ≤ storeWords x.store)

/-- Two slots do not overlap. -/
def patchesApart (x y : PatchSlot) : Bool :=
  x.store != y.store || decide (x.start + x.words.length ≤ y.start) || decide (y.start + y.words.length ≤ x.start)

/-- No two slots of a list overlap. -/
def allApart : List PatchSlot → Bool
  | [] => true
  | x :: l => l.all (patchesApart x) && allApart l

/-- Step 4 of R585: the slots of both parts, when every check of them passes. Each part's plaintext is at most 262,144 bytes
(R584). -/
def checkedPatches (eng msq : Bytes) : Option (List PatchSlot) :=
  if 262144 < eng.length ∨ 262144 < msq.length then none
  else match parsePatches 256 eng, parsePatches 256 msq with
    | some e, some m =>
      if e.all (fun x => decide (x.store < 2)) && m.all (fun x => x.store == 2) && (e ++ m).all patchFits && allApart (e ++ m)
          && decide ((e ++ m).length ≤ 256) && (e ++ m).all (fun x => x.words.all (wordParityOk x.store)) then some (e ++ m)
      else none
    | _, _ => none

/-- Steps 1 to 4 of R585: the slots to apply, or the number of the first check that fails (Table 17.6, MCODE_REJECT_REASON). -/
def State.patchCheck (s : State) (signed tags : Bool) (eng msq : Bytes) : Except Nat (List PatchSlot) :=
  let parts := s.fw.running.filter (fun p => p.code == 3 || p.code == 4)
  if !signed then .error 1
  else if parts.any (fun p => p.epoch < s.fw.fuses.getD (p.code - 1) 0) then .error 2
  else if parts.any (fun p => p.requires != Config.mcodeRomId.toNat) then .error 3
  else if !tags then .error 4
  else match checkedPatches eng msq with
    | some l => .ok l
    | none => .error 5

/-- The outcome of a patch load: every store holds the ROM base with the slots, or the ROM base alone (R585, R586). The slot of a
rejection is one that the spec does not name where no slot record fails (Table 16.2). -/
def State.loadStores (s : State) (r : Except Nat (List PatchSlot)) : State :=
  let put (t : State) (state reason : Nat) (l : List PatchSlot) : State :=
    let n (k : Nat) : Nat := (l.filter (fun x => x.store == k)).length
    let t1 : State := { t with seq := { t.seq with patches := l } }
    (((((t1.setVal Od.MCODE_PATCH_STATE state).setVal Od.MCODE_REJECT_REASON reason).setVal Od.MCODE_SLOTS_USED
      l.length).odPut 0 Od.MCODE_SLOTS_BY_STORE 1 (n 0)).odPut 0 Od.MCODE_SLOTS_BY_STORE 2 (n 1)).odPut 0 Od.MCODE_SLOTS_BY_STORE 3 (n 2)
  match r with
  | .error e => put s.draw 2 e []
  | .ok [] => put s 1 0 []
  | .ok l => put s 0 0 l

/-- The word that a store holds at an address in every unit whose store is sound: a patch slot's, or the ROM base's (R577, R584). -/
def State.storeWord (s : State) (store a : Nat) : Nat :=
  match s.seq.patches.find? (fun x => x.store == store && x.start ≤ a && a < x.start + x.words.length) with
  | some x => x.words.getD (a - x.start) 0
  | none => romWord store a

/-- The micro PC and the call stack of an op engine, the newest return address first (R578). -/
structure MicroPlace where
  pc    : BitVec 14
  calls : List (BitVec 14)
deriving DecidableEq, Repr

/-- Where execution goes after a micro word: on to the next address after a pointer word; after a control word by its CTL_OP: 0 next,
1 jump, 2 conditional branch, 3 call, 4 return, 5 dispatch on OPCODE, 6 step yield. The encodings of CTL_OP and the conditions are the
ROM's own (R578). The call stack is 8 deep; a ninth call loses the oldest address, and a return without one goes on at the next word.
(DESIGN CHOICE, log 47) -/
def microNext (op draw : Nat) (w : BitVec 32) (p : MicroPlace) : MicroPlace :=
  let next := p.pc + 1
  if microPointer w then { p with pc := next }
  else match (Config.ctlKind (microCtl w)).val with
    | 1 => { p with pc := microTarget w }
    | 2 => { p with pc := if Config.condition (microCond w) draw then microTarget w else next }
    | 3 => { pc := microTarget w, calls := (next :: p.calls).take 8 }
    | 4 => (match p.calls with | [] => { p with pc := next } | c :: cs => { pc := c, calls := cs })
    | 5 => { p with pc := Config.routineEntry (BitVec.ofNat 8 op) }
    | _ => { p with pc := next }

/-- The micro words of a step, up to and with the one that has STEP_END set (R581); a step takes at most 62,500 cycles, so `n` words
(R582). -/
def State.runStep (s : State) (op : Nat) : Nat → MicroPlace → MicroPlace
  | 0, p => p
  | n + 1, p =>
    let w := BitVec.ofNat 32 (s.storeWord 0 p.pc.toNat)
    let q := microNext op (s.draws + n) w p
    if microStepEnd w then q else s.runStep op n q

/-- An op engine ends a step of a routine (R581). -/
def State.endStep (s : State) (e op : Nat) : State :=
  let x := s.engine e
  let q := s.runStep op 62500 ⟨x.pc, x.calls⟩
  s.setEngine e { x with pc := q.pc, calls := q.calls }

/-- An op engine takes a slot's routine from its entry (R578). -/
def State.enterRoutine (s : State) (e n op : Nat) : State :=
  s.setEngine e { s.engine e with slot := some n, pc := Config.routineEntry (BitVec.ofNat 8 op), calls := [] }

/-- An op engine ends the last step of a routine, and is free. -/
def State.leaveEngine (s : State) (e op : Nat) : State :=
  let s1 := s.endStep e op
  s1.setEngine e { s1.engine e with slot := none }

/-- A step restarts from its beginning on another op engine: where the engine that failed had begun it (R230, R589). -/
def State.restartOn (s : State) (k n : Nat) (from_ : Option Nat) (op : Nat) : State :=
  match from_ with
  | some e => s.setEngine k { s.engine k with slot := some n, pc := (s.engine e).pc, calls := (s.engine e).calls }
  | none => s.enterRoutine k n op

/-- A word of a unit's store that a fetch found with bad parity, until the store is reloaded (R589). -/
def State.spoil (s : State) (store unit a : Nat) : State :=
  let k := (store, unit, a)
  { s with seq := { s.seq with spoiled := if s.seq.spoiled.contains k then s.seq.spoiled else k :: s.seq.spoiled } }

/-- A unit's stores hold the ROM base and the patches again (R588). -/
def State.reload (s : State) (seq : Bool) (unit : Nat) : State :=
  { s with seq := { s.seq with spoiled := s.seq.spoiled.filter (fun k => !(k.2.1 == unit && (k.1 == 2) == seq)) } }

end Sys2Proof.Machine
end

