-- ==== Sys2Proof/Machine/Operands.lean ====
section
/-! DEFINITION. The operand forms of the key-value commands: reassembly of a message (R134), the COMMAND body and its
fields (R151 to R154, R163), the RESPONSE body, meta block and trailer (R156 to R161). -/

namespace Sys2Proof.Machine

/-- The bytes of a fragment at `o` that no earlier one has brought, in the list of fragments by offset: they are cut where a
received fragment begins, and go on behind its end. Repeated bytes are ignored (R134). -/
def insertFrag (o : Nat) (b : Bytes) : List (Nat × Bytes) → List (Nat × Bytes)
  | [] => if b.isEmpty then [] else [(o, b)]
  | (p, c) :: l =>
    let before := b.take (p - o)
    let rest := b.drop (p - o)
    (if before.isEmpty then [] else [(o, before)]) ++ (p, c) :: insertFrag (max o (p + c.length)) (rest.drop (p + c.length - max o p)) l

/-- The bytes gathered from the start without a gap. -/
def assemble (frags : List (Nat × Bytes)) : Bytes :=
  frags.foldl (fun acc f => if f.1 ≤ acc.length then acc ++ f.2.drop (acc.length - f.1) else acc) []

/-- A command by the fields of Table 4.1. -/
structure Cmd where
  opcode   : Nat
  cflags   : Nat
  ns       : Nat
  paramLen : Nat
  reserved : Nat
  dataLen  : Nat
  total    : Nat
  keyLen   : Nat
  key      : Bytes
  params   : Bytes
  data     : Bytes
deriving DecidableEq, Repr

/-- The fields of a COMMAND body (Table 4.1). -/
def parseCmd (b : Bytes) : Cmd :=
  let kl := fieldAt b 4 1
  let pl := fieldAt b 5 1
  { opcode := fieldAt b 0 1, cflags := fieldAt b 1 1, ns := fieldAt b 2 2, paramLen := pl, reserved := fieldAt b 6 2
    dataLen := fieldAt b 8 4, total := b.length, keyLen := kl
    key := (b.drop 12).take kl, params := (b.drop (12 + kl)).take pl, data := b.drop (12 + kl + pl) }

/-- A parameter of a command. -/
def Cmd.param (c : Cmd) (off w : Nat) : Nat := fieldAt c.params off w

/-- A parameter read in two's complement. -/
def Cmd.paramInt (c : Cmd) (off : Nat) : Int := signed 64 (fieldAt c.params off 8)

/-- EXPIRY_MODE (Table 4.2). -/
def Cmd.expiryMode (c : Cmd) : Nat := bitsOf 7 6 c.cflags

/-- CTR_MODE (Table 4.2). -/
def Cmd.ctrMode (c : Cmd) : Nat := bitsOf 5 4 c.cflags

/-- WANT_META (Table 4.2). -/
def Cmd.wantMeta (c : Cmd) : Bool := bitOf 3 c.cflags

/-- What Tables 4.7 and 4.8 say of an opcode. -/
structure OpInfo where
  op       : Nat
  paramLen : Nat
  /-- 0 names no key, 1 names one, 2 a prefix or start key, 3 an OD key -/
  key      : Nat
  namesNs  : Bool
  readOnly : Bool
  hasData  : Bool
  /-- offset of EXPIRY in PARAMS -/
  expiry   : Option Nat
  makesCtr : Bool
  /-- reserved fields of PARAMS: offset and size -/
  reserved : List (Nat × Nat)
  /-- operation class bit of Table 2.3 -/
  cls      : Option Nat
deriving DecidableEq, Repr

/-- Table 4.7 with the lengths and reserved fields of Table 4.8. The class of XOPEN follows its MODE. -/
def opTable : List OpInfo := [
  ⟨0x01, 8, 1, true, false, true, some 0, false, [], some 2⟩,
  ⟨0x02, 16, 1, true, false, true, some 0, false, [], some 2⟩,
  ⟨0x03, 0, 1, true, true, false, none, false, [], some 0⟩,
  ⟨0x04, 0, 1, true, true, false, none, false, [], some 0⟩,
  ⟨0x05, 0, 1, true, false, false, none, false, [], some 3⟩,
  ⟨0x06, 8, 1, true, false, false, none, false, [], some 3⟩,
  ⟨0x07, 16, 2, true, true, true, none, false, [(1, 3)], some 1⟩,
  ⟨0x10, 16, 1, true, false, false, some 8, false, [(1, 7)], some 4⟩,
  ⟨0x11, 16, 1, true, false, true, none, false, [(4, 4)], some 5⟩,
  ⟨0x12, 8, 1, true, false, true, none, false, [(4, 4)], some 5⟩,
  ⟨0x13, 16, 1, true, true, false, none, false, [], some 4⟩,
  ⟨0x14, 24, 1, true, false, false, none, false, [(4, 4)], some 6⟩,
  ⟨0x15, 8, 1, true, false, false, none, false, [(4, 4)], some 5⟩,
  ⟨0x16, 16, 1, true, false, false, none, false, [(4, 4)], some 6⟩,
  ⟨0x20, 16, 1, true, false, false, some 0, true, [], some 8⟩,
  ⟨0x21, 32, 1, true, false, false, some 0, true, [], some 8⟩,
  ⟨0x22, 0, 1, true, true, false, none, false, [], some 7⟩,
  ⟨0x23, 0, 1, true, false, false, none, false, [], some 8⟩,
  ⟨0x24, 16, 1, true, false, false, some 0, true, [], some 8⟩,
  ⟨0x30, 24, 2, true, false, false, none, false, [(1, 7)], some 9⟩,
  ⟨0x31, 8, 0, true, false, false, none, false, [], some 9⟩,
  ⟨0x38, 24, 0, false, true, false, none, false, [(20, 4)], none⟩,
  ⟨0x39, 56, 0, false, false, false, none, false, [(1, 1)], none⟩,
  ⟨0x40, 16, 0, true, true, false, none, false, [(12, 4)], some 10⟩,
  ⟨0x41, 32, 0, true, false, false, none, false, [], some 11⟩,
  ⟨0x50, 0, 0, false, false, false, none, false, [], none⟩,
  ⟨0x51, 0, 0, false, false, false, none, false, [], none⟩,
  ⟨0x52, 8, 0, false, false, false, none, false, [(4, 4)], none⟩,
  ⟨0x53, 8, 0, false, false, false, none, false, [], none⟩,
  ⟨0x60, 16, 3, true, true, false, none, false, [], none⟩,
  ⟨0x61, 8, 3, true, false, true, none, false, [], none⟩]

/-- The row of an opcode. -/
def opInfo? (op : Nat) : Option OpInfo := opTable.find? (fun i => i.op == op)

/-- Whether Table 4.7 marks an opcode "Read only". -/
def opReadOnly (op : Nat) : Bool := ((opInfo? op).map (·.readOnly)).getD false

/-- The Pocket bytes that a message of a length and an opcode reserves (R199). -/
def bodyReservation (msgLen op : Nat) : Nat :=
  if 4096 < msgLen ∨ [0x01, 0x02, 0x11, 0x12].contains op then roundUp msgLen 4096 else 0

/-- Whether an opcode names a namespace. -/
def opNamesNs (op : Nat) : Bool := ((opInfo? op).map (·.namesNs)).getD false

/-- The operation class checked under R50 (Table 2.3), XOPEN's by its MODE. -/
def opClass (c : Cmd) : Option Nat :=
  if c.opcode = 0x10 then (if c.param 0 1 = 1 then some 5 else some 4) else (opInfo? c.opcode).bind (·.cls)

/-- The opcodes that a version 2 session does not have (R148). -/
def notInV2 : List Nat := [0x10, 0x11, 0x12, 0x13, 0x14, 0x15, 0x40, 0x38, 0x39, 0x41]

/-- The EXPIRY parameter breaks R153. -/
def badExpiry (clock : Nat) (i : OpInfo) (c : Cmd) : Bool :=
  match i.expiry with
  | none => c.expiryMode != 0
  | some o =>
    let e := c.param o 8
    (c.expiryMode == 1 && (decide (e ≤ clock) || e == 2 ^ 64 - 1)) || (c.expiryMode == 2 && (e == 0 || decide (2 ^ 32 ≤ e)))

/-- A command that completes with MALFORMED whatever its opcode's own rules say (R52, R148, R153, R154). The KEY of LIST may be
empty in MODE 1 as in MODE 0. (DESIGN CHOICE, log 28) -/
def malformed (v2 : Bool) (clock : Nat) (c : Cmd) : Bool :=
  match opInfo? c.opcode with
  | none => true
  | some i =>
    (c.total != 12 + c.keyLen + c.paramLen + c.dataLen) || c.paramLen != i.paramLen || c.reserved != 0 || bitsOf 2 0 c.cflags != 0
      || i.reserved.any (fun r => fieldAt c.params r.1 r.2 != 0)
      || badExpiry clock i c || (c.ctrMode != 0 && !i.makesCtr) || (c.wantMeta && c.opcode != 0x03 && c.opcode != 0x13)
      || (c.dataLen != 0 && !i.hasData) || (i.key == 0 && c.keyLen != 0) || (i.key == 1 && c.keyLen == 0)
      || (v2 && notInV2.contains c.opcode)

/-- The statuses of Table 4.10. -/
abbrev St.DONE : Nat := 0
abbrev St.MALFORMED : Nat := 0x0101
abbrev St.KEY_TOO_LONG : Nat := 0x0102
abbrev St.VALUE_TOO_LARGE : Nat := 0x0103
abbrev St.BAD_NAMESPACE : Nat := 0x0104
abbrev St.NOT_PERMITTED : Nat := 0x0105
abbrev St.BAD_KIND : Nat := 0x0106
abbrev St.NOT_FOUND : Nat := 0x0201
abbrev St.VERSION_MISMATCH : Nat := 0x0202
abbrev St.EXISTS : Nat := 0x0203
abbrev St.FENCED : Nat := 0x0204
abbrev St.COUNTER_BOUND : Nat := 0x0205
abbrev St.OBJECT_BUSY : Nat := 0x0206
abbrev St.HELD : Nat := 0x0207
abbrev St.NO_CONTEXT : Nat := 0x0301
abbrev St.NO_SPACE : Nat := 0x0302
abbrev St.QUOTA : Nat := 0x0303
abbrev St.NO_CREDIT : Nat := 0x0304
abbrev St.MEDIA_UNREADABLE : Nat := 0x0401
abbrev St.TAG_FAIL : Nat := 0x0402
abbrev St.PARTIAL : Nat := 0x0403
abbrev St.AUTH_FAIL : Nat := 0x0501
abbrev St.REPLAYED : Nat := 0x0502
abbrev St.CERT_REJECTED : Nat := 0x0503
abbrev St.RETRY_LATER : Nat := 0x0601
abbrev St.SERVICE_PAUSED : Nat := 0x0602
abbrev St.RESTRICTED : Nat := 0x0603
abbrev St.WAKING : Nat := 0x0604

/-- What a command came to: its status, RFLAGS bits, results, data, the trailer's final status and verified length, and
the journal record of its effect. -/
structure Reply where
  status  : Nat := 0
  rflags  : Nat := 0
  rparams : Bytes := []
  data    : Bytes := []
  trailer : Option (Nat × Nat) := none
  effect  : Option JRec := none
  result0 : Nat := 0
  result1 : Nat := 0
  length  : Nat := 0
deriving DecidableEq, Repr

/-- A reply that is a failure (R158: RPARAM_LEN is 0 where Table 4.4 lists nothing). -/
def Reply.fail (status : Nat) (rparams : Bytes := []) : Reply := { status := status, rparams := rparams }

/-- The status that decides a fence: the trailer's when there is one (R159). -/
def Reply.final (r : Reply) : Nat := match r.trailer with | some t => t.1 | none => r.status

/-- The announced data bytes that are not sent (R160). -/
def Reply.gap (r : Reply) : Nat := match r.trailer with | some t => r.data.length - t.2 | none => 0

/-- A RESPONSE body (Table 4.3) with its trailer (Table 4.5); no DATA byte at or above VERIFIED_LEN is sent (R160).
(DESIGN CHOICE, log 45) -/
def responseBody (op : Nat) (st : Stamp) (r : Reply) : Bytes :=
  toBE 2 r.status ++ toBE 1 op ++ toBE 1 (r.rflags + (if r.trailer.isSome then 2 else 0)) ++ toBE 8 st.csn ++ toBE 2 st.te
    ++ [0, 0] ++ toBE 8 st.dt ++ toBE 1 r.rparams.length ++ [0, 0, 0] ++ toBE 4 r.data.length ++ r.rparams
    ++ (match r.trailer with
        | none => r.data
        | some (fin, len) => r.data.take len ++ toBE 2 fin ++ [0, 0, 0, 0, 0, 0] ++ toBE 8 len)

end Sys2Proof.Machine
end

