-- ==== Sys2Proof/Machine/Stamps.lean ====
section
/-! DEFINITION. CSNs and their blocks (R73 to R76), the journal ring (R213), the expiry clock (R79), key digests
(R259), seals as they are bound (R358 to R368). -/

namespace Sys2Proof.Machine

/-- The main cores in service, by number. -/
def State.coresInService (s : State) : List Nat :=
  (List.range 10).filter (fun k => s.odGet 0 Od.CIPHER_CORE_STATE (k + 1) == 1)

/-- The unit that encrypts a job: a main core in service, or the Lining, number 10, when there is none (R401).
(DESIGN CHOICE, log 19) -/
def State.jobCore (s : State) : Nat :=
  let cs := s.coresInService
  cs.getD ((Config.corePick s.draws).toNat % max 1 cs.length) 10

/-- The nonce of the next job of domain 0x0A00 + `d`: domain, instance and counter (Table 10.3). -/
def State.nextNonce (s : State) (d : Nat) : Nat :=
  (0x0A00 + d) * 2 ^ 80 + s.jobCore * 2 ^ 64 + SMap.getD s.cipher.counters (d * 16 + s.jobCore) 0 % 2 ^ 64

/-- A job takes `n` nonces of domain 0x0A00 + `d`; the blocks of 2^32 that it enters are recorded before (R385).
(DESIGN CHOICE, log 19) -/
def State.takeNonces (s : State) (d n : Nat) : State :=
  if n = 0 then s
  else
    let k := d * 16 + s.jobCore
    let v := SMap.getD s.cipher.counters k 0
    let last := (v + n - 1) / 2 ^ 32
    let known := match SMap.get? s.cipher.blocks k with | some b => b + 1 | none => 0
    let s1 : State := { s.draw with cipher := { s.cipher with
      counters := SMap.put s.cipher.counters k (v + n), blocks := SMap.put s.cipher.blocks k (max last (known - 1)) } }
    s1.bump Od.NONCE_BLOCKS (last + 1 - known) 0 64

/-- Every counter resumes above the highest block recorded for it (R386). -/
def State.skipNonces (s : State) : State :=
  { s with cipher := { s.cipher with counters := s.cipher.blocks.map (fun e => (e.1, (e.2 + 1) * 2 ^ 32)) } }

/-- The CSN that is assigned next: one above CSN_LAST, and after a start without a completed Hem the first of the block above
the highest block recorded (R75, R76). -/
def State.nextCsn (s : State) : Nat := max (s.seq.csnLast + 1) s.seq.csnFloor

/-- The next CSN is taken; the block above is reserved with the first CSN of a block (R76). CSNs have 64 bits (R13): the last one
would stand for every command after it. (DESIGN CHOICE, log 12) -/
def State.takeCsn (s : State) : State :=
  let c := max s.seq.csnLast (min s.nextCsn (2 ^ 64 - 1))
  let b := c / 2 ^ 20
  let first := decide (c % 2 ^ 20 = 0) || decide (c = 1)
  { s with seq := { s.seq with
      csnLast := c
      blockHigh := some (max ((s.seq.blockHigh).getD 0) (if first then b + 1 else b)) } }

/-- A record enters the journal ring (R213). In READ_ONLY, and while no main cipher core is usable, it is durable in flash
before its command is acknowledged (R306, R401). -/
def State.journal (s : State) (r : JRec) : State :=
  let p := s.pocket
  ({ s with pocket := if s.val Od.HEALTH_STATE = 6 ∨ s.val Od.CIPHER_CORES = 0 then { p with durable := p.durable ++ [r] }
                      else { p with journal := p.journal ++ [r] } }).perf 11 1

/-- A journal record of internal work, stamped now. -/
def State.journalInternal (s : State) (type ns csn argA argB : Nat) : State :=
  s.journal { type := type, ns := ns, csn := csn, dt := s.clock.dt, te := s.clock.te, argA := argA, argB := argB }

/-- The 64 bytes of a journal record (Table 5.5). -/
def JRec.bytes (r : JRec) : Bytes :=
  toBE 1 r.type ++ toBE 1 r.flags ++ toBE 2 r.ns ++ toBE 4 r.session.toNat ++ toBE 8 r.csn ++ toBE 8 r.dt ++ toBE 2 r.te
    ++ toBE 2 r.status ++ toBE 4 r.tag.toNat ++ toBE 16 r.digest ++ toBE 8 r.argA ++ toBE 8 r.argB

/-- Device time moves, within its 64 bits (R13); the expiry clock is the highest DT reached (R79). (DESIGN CHOICE, log 12) -/
def State.setDt (s : State) (dt : Nat) : State :=
  let t := min dt (2 ^ 64 - 1)
  { s with clock := { s.clock with dt := t, expiry := max s.clock.expiry t } }

/-- The 128-bit key digest (R259). -/
def keyDigest (ns : Nat) (key : Bytes) : Nat := (Config.sha512 (toBE 2 ns ++ key)).toNat / 2 ^ 384

/-- The DEVICE_KEY_ID: first 16 bytes of SHA-512 of the device public key (R354). -/
def deviceKeyId : Bytes := (toBE 64 (Config.sha512 (toBE 133 Config.devicePublicKey.toNat)).toNat).take 16

/-- H_0 of a sealed namespace (R358). -/
def sealGenesis (ns keyGen : Nat) : BitVec 512 :=
  Config.sha512 ([0x5A, 0x4B, 0x53, 0x45, 0x41, 0x4C] ++ deviceKeyId ++ toBE 2 ns ++ toBE 4 keyGen)

/-- The record digest D of a put (R358). -/
def sealDigest (ns : Nat) (key value : Bytes) (st : Stamp) : BitVec 512 :=
  Config.sha512 (toBE 2 ns ++ toBE 1 key.length ++ key ++ toBE 64 (Config.sha512 value).toNat ++ toBE 8 st.csn
    ++ toBE 8 st.dt ++ toBE 2 st.te)

/-- A link put in CSN order (R359, R367). -/
def insertLink (l : Nat × BitVec 512) : List (Nat × BitVec 512) → List (Nat × BitVec 512)
  | [] => [l]
  | k :: ks => if l.1 < k.1 then l :: k :: ks else k :: insertLink l ks

/-- A put takes the next chain position of its sealed namespace, in CSN order (R359). -/
def State.chainPut (s : State) (ns : Nat) (key value : Bytes) (st : Stamp) : State :=
  s.setChain ns { s.chain ns with links := insertLink (st.csn, sealDigest ns key value st) (s.chain ns).links }

/-- H after links (R358). -/
def foldLinks (h : BitVec 512) (ls : List (Nat × BitVec 512)) : BitVec 512 :=
  ls.foldl (fun h l => Config.sha512 (toBE 64 h.toNat ++ toBE 64 l.2.toNat)) h

/-- CHAIN_COUNT: the positions taken since the namespace was defined (R359). -/
def Chain.taken (c : Chain) : Nat := c.count + c.links.length

/-- The number of a time source (Table 9.5). -/
def sourceCode : TimeSource → Nat | .free => 0 | .pps => 1 | .ptp => 2

/-- Bytes 0 to 215 of a seal record (Table 9.2), which the signature covers. -/
def sealHead (x : Seal) : Bytes :=
  toBE 4 0x5A4B534C ++ [1] ++ toBE 1 x.flags ++ toBE 2 x.ns ++ toBE 8 x.seqNo ++ toBE 8 x.stamp.csn ++ toBE 8 x.stamp.dt
    ++ toBE 2 x.stamp.te ++ toBE 1 (sourceCode x.source) ++ [0] ++ toBE 4 x.keyGen ++ toBE 8 x.firstCsn ++ toBE 8 x.lastCsn
    ++ toBE 8 x.count ++ toBE 8 (unsigned 64 x.stepNs) ++ toBE 64 x.head.toNat ++ toBE 64 x.prev.toNat ++ deviceKeyId

/-- The 348 bytes of a signed seal record (R363). (DESIGN CHOICE, log 45) -/
def sealBytes (x : Seal) : Bytes :=
  sealHead x ++ toBE 132 ((x.signature.map (·.toNat)).getD 0)

/-- A free internal slot (Table 5.1). -/
def State.freeInternal? (s : State) : Option Nat :=
  ((List.range 64).map (· + 448)).find? (fun n => (SMap.get? s.seq.slots n).isNone)

/-- A routine starts in an internal slot, when one is free (Table 5.6). (DESIGN CHOICE, log 28) -/
def State.startRoutine (s : State) (r : Routine) (csn steps : Nat) : State :=
  match s.freeInternal? with
  | none => s
  | some n => s.setSlot n { state := .executing, origin := 7, csn := csn, routine := some r, stepsLeft := steps }

/-- A seal of a namespace is bound as a routine in an internal slot, with a CSN of its own; what its record says of its binding is
fixed, and what it covers, the puts with a CSN below its own, is gathered when it is signed (R360, R361, R364). A closing seal
closes the chain. Genesis and closing seals enter the ledger (R368). (DEDUCED, log 20) -/
def State.bindSeal (s : State) (ns flags : Nat) (stepNs : Int) : State :=
  let c := s.chain ns
  let s1 := s.takeCsn
  let timeInvalid := if s.val Od.TIME_VALID = 0 then 16 else 0
  let x : Seal :=
    { flags := flags + timeInvalid, ns := ns, seqNo := c.nextSeq, stamp := s1.stampOf s1.seq.csnLast
      source := s.clock.source, keyGen := s.odGet ns Od.NS_DATA_KEY_GEN 0, stepNs := stepNs }
  let s2 := ((s1.setChain ns { c with nextSeq := c.nextSeq + 1, seals := c.seals ++ [x]
                                      closed := c.closed || bitOf 5 flags }).perf 91 1).startRoutine (.seal ns) s1.seq.csnLast 0
  if bitOf 0 flags || bitOf 5 flags then { s2 with seals := { s2.seals with ledger := s2.seals.ledger ++ [x] } } else s2

/-- The sealed namespaces that are defined and whose chains are open, in order. -/
def State.openChains (s : State) : List Nat :=
  (s.seals.chains.filter (fun p => !p.2.closed && s.odGet p.1 Od.NS_STATE 0 == 1)).map (·.1)

/-- A seal is bound in every open chain. -/
def State.bindSeals (s : State) (flags : Nat) (stepNs : Int) : State :=
  s.openChains.foldl (fun t ns => t.bindSeal ns flags stepNs) s

end Sys2Proof.Machine
end

