-- ==== Sys2Proof/Machine/Sessions.lean ====
section
/-! DEFINITION. What a session context gives back and sends: credit, the fill of the Pocket, responses in datagrams
(R134 to R138), CLOSE and the way to FREE (R113, R144). -/

namespace Sys2Proof.Machine

/-- Bytes in use in the Pocket's value area: reservations and value bytes, in 4 KiB units (Table 5.4). (DEDUCED, log 12) -/
def State.valueAreaUsed (s : State) : Nat :=
  (s.seq.slots.map (fun e => e.2.reserved)).sum
    + ((s.kv.records.filter (fun r => r.loc == .pocket)).map (fun r => roundUp r.dataLen 4096)).sum

/-- POCKET_USED: value area, journal ring and key directory (Table 5.4; log 12). (DEDUCED, log 12) -/
def State.pocketUsed (s : State) : Nat :=
  s.valueAreaUsed + 64 * s.pocket.journal.length
    + 32 * (s.kv.records.filter (fun r => r.loc == .pocket)).length

/-- POCKET_FILL: POCKET_USED as a percentage of POCKET_SIZE. (DEDUCED, log 12) -/
def State.pocketFill (s : State) : Nat := s.pocketUsed * 100 / 92274688

/-- The slots of a session. -/
def State.sessionSlots (s : State) (sid : BitVec 32) : List (Nat × Slot) :=
  s.seq.slots.filter (fun e => e.2.session == sid && sid != 0)

/-- The slots that are bound, as a reset of the engine leaves them: a step that ran restarts on an op engine (R230, R538). -/
def State.boundSlots (s : State) : SMap Slot :=
  (s.seq.slots.filter (fun e => e.2.state != .filled && e.2.state != .free)).map (fun e =>
    (e.1, if e.2.state = .executing ∧ e.2.routine = none then { e.2 with ope := none, retry := some .engine }
          else { e.2 with ope := none }))

/-- Op engines that hold no step and no reload. -/
def freshEngines (m : SMap OpEngine) : SMap OpEngine := m.map (fun e => (e.1, { e.2 with slot := none, reloading := false }))

/-- The engine is reset after a fatal error as its input is lost: bound commands keep their slots, and finish in the Hem (R220, R538,
R571). -/
def State.resetForHem (s : State) : State :=
  { s with seq := { s.seq with slots := s.boundSlots, engines := freshEngines s.seq.engines, stopped := false } }

/-- The FILLED slots that satisfy a test are freed without a response. -/
def State.freeFilled (s : State) (p : Slot → Bool) : State :=
  { s with seq := { s.seq with slots := s.seq.slots.filter (fun e => !(e.2.state == .filled && p e.2)) } }

/-- The content of staging is discarded (R598, R602). -/
def State.discardStaging (s : State) (phase : FwPhase) : State :=
  { s with fw := { s.fw with owner := none, phase := phase, image := [], headerOk := false, parts := [], release := 0
                             minFrom := 0, imageLen := 0 } }

/-- A download that runs is abandoned (R602). -/
def State.abandonDownload (s : State) : State := if s.fw.phase = .receiving then s.discardStaging .empty else s

/-- The handles of a session are released as it ends (R61); the commands bound before find them open (R92). -/
def State.releaseHandles (s : State) (sid : BitVec 32) : State :=
  { s with kv := { s.kv with
      writers := s.kv.writers.map (fun w =>
        if w.session == sid && w.released.isNone then { w with released := some s.seq.csnLast } else w)
      cursors := s.kv.cursors.filter (fun k => k.session != sid) } }

/-- A context goes to FREE: its handles and cursors are released, its selectors return to their defaults, a download
that it owns is abandoned (R113, R41, R460, R600). (DESIGN CHOICE, log 29) -/
def State.freeContext (s : State) (c : Nat) : State :=
  let x := s.session c
  let s1 := (s.setSession c { gen := x.gen }).freeFilled (fun z => z.session == sessionId c x.gen)
  let s2 := s1.releaseHandles (sessionId c x.gen)
  let s3 := s2.resetSelectors (16 + c)
  if s3.fw.owner = some c then
    { s3.abandonDownload with fw := { s3.abandonDownload.fw with owner := none } }
  else s3

/-- A CLOSE leaves for a session's client, on the queue of its latest datagram's priority; it may take the last packet number
(R139, R144). -/
def State.sendClose (s : State) (c reason : Nat) : State :=
  s.sessionDatagram c (s.session c).ackPrio (.close (sessionId c (s.session c).gen) reason) false

/-- A session ends with a CLOSE of its own: the context goes to FREE. -/
def State.closeSession (s : State) (c reason : Nat) : State := (s.sendClose c reason).freeContext c

/-- The last bound command of a CLOSING session is complete: CLOSE, reason NORMAL, and FREE (Table 3.8, R144). -/
def State.finishClosing (s : State) (c : Nat) : State :=
  let x := s.session c
  if x.state = .closing ∧ (s.sessionSlots (sessionId c x.gen)).isEmpty then s.closeSession c 0 else s

/-- The datagrams of a message: offset and bytes, at most `p` bytes each (R105). -/
def fragments (p : Nat) : Nat → Nat → Bytes → List (Nat × Bytes)
  | 0, _, _ => []
  | fuel + 1, off, b => if b.isEmpty then [] else (off, b.take p) :: fragments p fuel (off + p) (b.drop p)

/-- The datagrams of a body in a session's payload. -/
def bodyFragments (p : Nat) (body : Bytes) : List (Nat × Bytes) := fragments (max 1 p) (body.length + 1) 0 body

/-- Datagrams numbered from a packet number on. -/
def numbered (pn : Nat) : List (Nat × Bytes) → List (Nat × Nat × Bytes)
  | [] => []
  | f :: fs => (pn, f.1, f.2) :: numbered (pn + 1) fs

/-- The datagrams of a response leave on the queue of its request's priority (R30, R105); INSTANCE is 0 in version 2 (R147). -/
def State.sendFragments (s : State) (ctx prio tag inst total : Nat) (timed : Bool) (fs : List (Nat × Bytes)) : State :=
  fs.foldl (fun t f =>
    t.sessionSend ctx prio (.response (sessionId ctx (t.session ctx).gen) tag (if (t.session ctx).version = 2 then 0 else inst) f.1
      total f.2) (timed && f.1 == 0)) s

/-- The datagrams of a response: when `gap` announced data bytes are not sent, the 16-byte trailer stands at its own
offset (R160). -/
def replyFragments (p gap : Nat) (body : Bytes) : List (Nat × Bytes) :=
  if gap = 0 then bodyFragments p body
  else bodyFragments p (body.take (body.length - 16)) ++ [(body.length - 16 + gap, body.drop (body.length - 16))]

/-- A response leaves. -/
def State.sendResponse (s : State) (ctx prio : Nat) (tag inst : Nat) (body : Bytes) (timed : Bool) (gap : Nat := 0) : State :=
  s.sendFragments ctx prio tag inst (body.length + gap) timed (replyFragments (s.session ctx).maxPayload gap body)

/-- The first free number of `count` from `base`, searched cyclically from `start`. -/
def firstFree (base count start : Nat) (isFree : Nat → Bool) : Option Nat :=
  ((List.range count).map (fun i => base + (start + i) % count)).find? isFree

end Sys2Proof.Machine
end

