-- ==== Sys2Proof/Machine/Flags.lean ====
section
/-! DEFINITION. Flags computed from the state: the health conditions and HEALTH_STATE (R304 to R308), the discrete
outputs (R514), a link that goes down (R426). -/

namespace Sys2Proof.Machine

/-- Bits set among the lowest `n`. -/
def popcount (n v : Nat) : Nat := ((List.range n).filter (fun i => v.testBit i)).length

/-- The lowest bit set among the lowest `n`. -/
def lowestBit (n v : Nat) : Nat := ((List.range n).find? (fun i => v.testBit i)).getD 0

/-- A link goes down: the frame in transmission is cut short, the transmit queues are emptied into TX_QUEUE_DROP, pause
and PFC timers are cleared (R426). -/
def State.linkLost (s : State) (p : Nat) : State :=
  let po := s.port p
  if po.linkUp then
    let n := (po.txq.map (fun e => e.2.length)).sum
    let s1 := s.setPort p { po with linkUp := false, speed := 0, txq := [], inFlight := none, control := [], held := [] }
    let s2 := if n = 0 then s1 else s1.portCount p 46 n
    (s2.portCount p 49).raise Ev.MAC_LINK_DOWN [p]
  else s

/-- A port is held link-down (R299, R307, R414). -/
def State.holdDown (s : State) (p : Nat) : State :=
  let s1 := s.linkLost p
  s1.setPort p { s1.port p with heldDown := true }

/-- The regions of the LPDDR in the order of Table 1.4, in bytes: supervisor partition, bucket directory, session contexts and replay
caches, matcher shadow and list table, engine working area, bucket page cache (R20). -/
def lpddrRegions : List Nat := [4294967296, 268435456, 2147483648, 67108864, 1811939328, 42949672960]

/-- The size of a region: the page cache gives 6 GiB for each channel mapped out, the others keep theirs (R21). -/
def State.lpddrSize (s : State) (k : Nat) : Nat :=
  lpddrRegions.getD k 0 - (if k = 5 then 6442450944 * popcount 8 (s.val Od.LPDDR_MAPPED_OUT) else 0)

/-- A plane by its number. -/
def State.plane (s : State) (k : Nat) : Plane := SMap.getD s.flash.planes k {}

/-- A plane set. -/
def State.setPlane (s : State) (k : Nat) (p : Plane) : State := { s with flash := { s.flash with planes := SMap.put s.flash.planes k p } }

/-- The spare count of a plane: its good physical blocks less 2,048 (R236, R286, R287). (DESIGN CHOICE, log 34) -/
def State.planeSpare (s : State) (k : Nat) : Int := 72 - ((Config.badBlocks k).length + (s.plane k).retired.length : Nat)

/-- A plane with a retired block has at most `n` spare blocks. -/
def State.anyPlaneAtMost (s : State) (n : Int) : Bool :=
  s.flash.planes.any (fun e => !e.2.retired.isEmpty && s.planeSpare e.1 ≤ n)

/-- The position of the spare die of each channel: the highest populated one (Table 7.1). -/
def sparePosition (g : Grade) : Nat := gradeRows g

/-- The die that the spare of a channel stands in for, from the moment its Gusset begins (R290). -/
def State.sparedDie? (s : State) (c : Nat) : Option Nat :=
  match s.odGet 0 Od.SPARE_DIE (c + 1) with
  | 1 => some (s.val Od.GUSSET_DIE)
  | 2 => s.flash.replaced.find? (fun d => d / 10 == c)
  | _ => none

/-- The row of a die: its position, or for a spare in use the row of the die whose place it takes (R238). -/
def State.rowOf (s : State) (die : Nat) : Nat :=
  if die % 10 = sparePosition s.hw.grade then ((s.sparedDie? (die / 10)).map (· % 10)).getD (die % 10) else die % 10

/-- A die in service: it stands in its row, and neither has failed, nor has a spare taken its place (R237, R290). -/
def State.dieServes (s : State) (d : Nat) : Bool :=
  !s.flash.failed.contains d && !s.flash.replaced.contains d && s.sparedDie? (d / 10) != some d
    && (decide (d % 10 < gradeRows s.hw.grade) || (d % 10 == sparePosition s.hw.grade && (s.sparedDie? (d / 10)).isSome))

/-- The planes of the dies in service. -/
def State.planesServing (s : State) : List Nat := (List.range 640).filter (fun k => s.dieServes (k / 4))

/-- SPARE_DIE of a channel is one of two values. -/
def State.anySpareDie (s : State) (p : Nat → Bool) : Bool :=
  (List.range 16).any (fun c => p (s.odGet 0 Od.SPARE_DIE (c + 1)))

/-- Cells in service (Table 14.4, 0x2115). -/
def State.cellsInService (s : State) : Nat :=
  ([1, 2, 3, 4, 5, 6].filter (fun k => bitsOf 31 30 (s.odGet 0 Od.SCAP_CELL k) == 1)).length

/-- Data space of the value stripes in use, in bytes: those of Table 6.2, less the excluded, at 14 data dies in each
narrowed row (R241, R287, R296). -/
def State.dataSpace (s : State) : Nat :=
  let n := gradeRows s.hw.grade
  (byGrade s.hw.grade 1904 1888 1806 - s.val Od.EXCLUDED_INDICES) * stripeData s.hw.grade
    * (15 * n - popcount n (s.val Od.ROWS_NARROWED)) / (15 * n)

/-- No main core is usable (R401). -/
def State.noCore (s : State) : Bool := s.val Od.CIPHER_CORES == 0

/-- The conditions of Table 7.5 as the state shows them: bit and whether it holds. -/
def State.condsNow (s : State) : List (Nat × Bool) :=
  let wear := s.val Od.WEAR_USED
  let lp := popcount 8 (s.val Od.LPDDR_MAPPED_OUT)
  [(0, s.val Od.GUSSET_STATE == 1 || (s.val Od.ROWS_NARROWED != 0 && s.val Od.NARROW_PROGRESS < 100)
      || !s.health.lpddrCopying.isEmpty),
   (1, s.anySpareDie (· != 0) || s.val Od.OPE_SPARE < 4 || s.val Od.CIPHER_SPARE < 2 || s.val Od.SHA_SPARE < 1
      || s.val Od.MATCH_SPARE < 1 || s.val Od.SCAP_SPARE < 1 || s.val Od.SRAM_SPARE_BANKS < 2 || 0 < s.val Od.PHASES_FAILED
      || s.anyPlaneAtMost 63),
   (2, s.anySpareDie (fun v => v == 2 || v == 3)),
   (3, s.anyPlaneAtMost 16),
   (4, s.val Od.SRAM_SPARE_BANKS == 0 || s.val Od.OPE_SPARE == 0 || s.val Od.CIPHER_SPARE == 0 || s.val Od.SHA_SPARE == 0
      || s.val Od.MATCH_SPARE == 0 || s.val Od.SCAP_SPARE == 0 || 0 < s.val Od.PHASES_FAILED),
   (5, 90 ≤ wear), (6, 1 ≤ lp), (7, !s.health.phyFailed.isEmpty),
   (8, s.val Od.ROWS_NARROWED != 0 || s.val Od.CHANNELS_LOST != 0),
   (9, s.anyPlaneAtMost 0 || 0 < s.val Od.EXCLUDED_INDICES),
   (10, 100 ≤ wear), (11, 2 ≤ lp),
   (12, s.val Od.OP_ENGINES < 32 || s.val Od.CIPHER_CORES < 8 || 1 < s.cipher.shaRetired.length || !s.health.tileLost.isEmpty
      || (s.val Od.SRAM_SPARE_BANKS == 0 && 2 < s.health.banksFailed.length)),
   (13, s.cellsInService < 5 || s.power.phasesOff.any (fun a => s.power.phasesOff.any (fun b => a != b && a / 256 == b / 256))),
   (14, s.kv.records.any (fun r => r.loc == .lost)),
   (15, s.seam.orphanLong),
   (16, s.dataSpace < userCapacity s.hw.grade + s.val Od.COLLECT_START * stripeData s.hw.grade || 110 ≤ wear),
   (17, s.val Od.HOLDUP_ENERGY < 12000 || 2 ≤ popcount 16 (s.val Od.CHANNELS_LOST) || 125 ≤ wear),
   (18, 3 ≤ (s.health.fatalTimes.filter (fun t => s.seconds < t + 3600)).length || (s.noCore && !s.cipher.liningOk))]

/-- A condition recorded as active. -/
def State.setCond (s : State) (i : Nat) : State :=
  { s with health := { s.health with conds := s.health.conds ||| BitVec.ofNat 19 (2 ^ i) } }

/-- The conditions active now: those that never end stay (Table 7.5). -/
def State.activeConds (s : State) : Nat :=
  let now := s.condsNow
  (List.range 19).foldl (fun n i =>
    let h := now.any (fun e => e.1 == i && e.2)
    let stays := i != 0 && i != 17 && s.health.conds.getLsbD i
    if h || stays then n + 2 ^ i else n) 0

/-- The state of a condition (Table 7.5). -/
def condState (i : Nat) : Nat := [2, 2, 3, 3, 3, 3, 3, 3, 4, 4, 4, 4, 4, 4, 4, 4, 5, 6, 7].getD i 1

/-- The highest state of the active conditions (R304). -/
def healthOf (conds : Nat) : Nat :=
  (List.range 19).foldl (fun h i => if conds.testBit i then max h (condState i) else h) 1

/-- HEALTH_STATE becomes another: HEALTH_CHANGE, an EMCY, the records; FAILED holds P1 to P6 down (R307, R308). -/
def State.changeHealth (s : State) (new conds : Nat) : State :=
  let old := s.val Od.HEALTH_STATE
  if old = new then s
  else
    let s1 := (s.setVal Od.HEALTH_STATE new).raiseTo Od.HEALTH_WORST new
    let s2 := (s1.raise Ev.HEALTH_CHANGE [new, old, conds]).emcyAll (0xFF10 + new)
      (BitVec.ofNat 8 (lowestBit 19 conds) :: toLE 4 conds)
    let s3 := (s2.emcyClear s 0).emcyClear s 1
    if new = 7 then [0, 1, 2, 3, 4, 5].foldl State.holdDown s3 else s3

/-- The conditions are evaluated (R304). In orphan mode HEALTH_STATE is held, except for R501 (R500). -/
def State.evaluateHealth (s : State) : State :=
  let c := s.activeConds
  let s1 := { s with health := { s.health with conds := BitVec.ofNat 19 c } }.setVal Od.HEALTH_REASON c
  let s2 := s1.setVal Od.HEALTH_REASON_EVER (Nat.lor (s1.val Od.HEALTH_REASON_EVER) c)
  if s2.seam.orphan then
    (if s2.seam.orphanLong ∧ s2.val Od.HEALTH_STATE < 4 then s2.changeHealth 4 c else s2)
  else s2.changeHealth (healthOf c) c

/-- Intake is open: open or paused, after its first opening at this start (R514, R235). -/
def State.intakeUp (s : State) : Bool :=
  s.power.firstOpen && (s.val Od.INTAKE_STATE == 0 || s.val Od.INTAKE_STATE == 1)

/-- OK is asserted (R514). -/
def State.okAsserted (s : State) : Bool :=
  s.live && s.power.firstOpen && ((s.intakeUp && s.val Od.HEALTH_STATE < 7) || s.seam.orphan)

/-- SERVICE_REQ is asserted: exactly while HEALTH_STATE is 4 or higher (R308, R501). -/
def State.serviceReqAsserted (s : State) : Bool := s.power.phase != .unpowered && 4 ≤ s.val Od.HEALTH_STATE

end Sys2Proof.Machine
end

