-- ==== Sys2Proof/Machine/Kv.lean ====
section
/-! DEFINITION. Items and their versions (R55, R56, R211), what counts against quotas and limits (R54, R59, R242), the
order of checks (R164), and how a command retires (R96, R201, R213). -/

namespace Sys2Proof.Machine

/-- A hold has not been released. -/
def Hold.active (h : Hold) : Bool := h.released.isNone

/-- The holds that are active (R85). -/
def State.activeHolds (s : State) : List Hold := s.kv.holds.filter Hold.active

/-- A version is pinned by at least one active hold (R82). -/
def State.isHeld (s : State) (csn : Nat) : Bool := s.activeHolds.any (fun h => h.pinned.contains csn)

/-- A CSN `c` lies within a span that began under one CSN and ended under another, if it has ended (R92). -/
def within (began : Nat) (ended : Option Nat) (c : Nat) : Bool :=
  decide (began < c) && (match ended with | none => true | some e => decide (c ≤ e))

/-- A command with CSN `c` finds a version held: by a hold placed below `c` and not released below it (R82, R92). -/
def State.heldAt (s : State) (c csn : Nat) : Bool := s.kv.holds.any (fun h => within h.csn h.released c && h.pinned.contains csn)

/-- Of two versions the one with the higher CSN. -/
def laterOf (a : Option Version) (b : Version) : Option Version :=
  match a with
  | none => some b
  | some v => if v.stamp.csn < b.stamp.csn then some b else some v

/-- The version of a key with the highest CSN below `c` (R211). -/
def State.versionAt (s : State) (ns : Nat) (key : Bytes) (c : Nat) : Option Version :=
  (s.kv.versions.filter (fun v => v.ns == ns && v.stamp.csn < c && v.key == key)).foldl laterOf none

/-- A version has passed its expiry time at expiry clock `clock` (R81). -/
def Version.overdue (clock : Nat) (v : Version) : Bool := match v.expiry with | none => false | some e => decide (e ≤ clock)

/-- A version holds a value that is neither deleted nor expired at expiry clock `clock` (R54, R81). -/
def State.visible (s : State) (clock : Nat) (v : Version) : Bool :=
  v.payload != .tomb && (!v.overdue clock || s.isHeld v.stamp.csn)

/-- The same as a command with CSN `c` finds it (R92, R165). -/
def State.visibleAt (s : State) (c clock : Nat) (v : Version) : Bool :=
  v.payload != .tomb && (!v.overdue clock || s.heldAt c v.stamp.csn)

/-- The value of a key that a command with CSN `c`, bound at expiry clock `clock`, finds (R92, R165).
(DESIGN CHOICE, log 27) -/
def State.valueAt (s : State) (ns : Nat) (key : Bytes) (c clock : Nat) : Option Version :=
  match s.versionAt ns key c with
  | some v => if s.visibleAt c clock v then some v else none
  | none => none

/-- The newest version of each key. -/
def State.newest (s : State) : List Version :=
  s.kv.versions.filter (fun v => !(s.kv.versions.any (fun w => w.ns == v.ns && v.stamp.csn < w.stamp.csn && w.key == v.key)))

/-- The live values of the module (R54). -/
def State.liveValues (s : State) : List Version := s.newest.filter (s.visible s.clock.expiry)

/-- The length of a value: a plain value's, an object's, 8 for a counter (Table 4.6). -/
def payloadLength : Payload → Nat
  | .plain d => d.length
  | .extent _ len _ _ => len
  | .counter _ _ => 8
  | .tomb => 0

/-- The bytes of a value that count against the quota, its key apart (R59). -/
def payloadBytes : Payload → Nat
  | .plain d => d.length
  | .extent cells _ _ _ => cells.length
  | .counter _ _ => 8
  | .tomb => 0

/-- The KIND of a value (Table 4.6). -/
def payloadKind : Payload → Nat
  | .plain _ => 1
  | .extent _ _ _ _ => 2
  | .counter _ _ => 3
  | .tomb => 0

/-- The records a value refers to, by CSN (R242, R243). -/
def versionRecords (v : Version) : List Nat :=
  match v.payload with
  | .plain _ => [v.stamp.csn]
  | .counter _ _ => [v.stamp.csn]
  | .extent _ _ _ frags => frags.map (·.csn)
  | .tomb => []

/-- Bytes counted against a namespace's quota (R59). -/
def State.usedBytes (s : State) (ns : Nat) : Nat :=
  ((s.liveValues.filter (fun v => v.ns == ns)).map (fun v => v.key.length + payloadBytes v.payload)).sum

/-- Live keys of a namespace. -/
def State.usedKeys (s : State) (ns : Nat) : Nat := (s.liveValues.filter (fun v => v.ns == ns)).length

/-- A version is pinned by an active hold whose scan has counted it (Table 5.6). -/
def State.countedHeld (s : State) (csn : Nat) : Bool := s.activeHolds.any (fun h => (h.pinned.take h.counted).contains csn)

/-- Bytes of a namespace's held values, which grow as the scans of the holds count them (Table 2.1, 0x250F, Table 5.6). -/
def State.heldBytes (s : State) (ns : Nat) : Nat :=
  ((s.liveValues.filter (fun v => v.ns == ns && s.countedHeld v.stamp.csn)).map
    (fun v => v.key.length + payloadBytes v.payload)).sum

/-- LIVE_BYTES: the placed sizes of the records that live values refer to (R242). -/
def State.liveBytes (s : State) : Nat :=
  let live := s.liveValues.flatMap versionRecords
  ((s.kv.records.filter (fun r => live.contains r.csn)).map (·.placed)).sum

/-- The placed size of a record (R244). -/
def placedSize (threshold keyLen dataLen : Nat) : Nat :=
  let n := 96 + keyLen + dataLen + 16 * max 1 (ceilDiv (keyLen + dataLen) 65536)
  if threshold ≤ dataLen then roundUp n 4096 else roundUp n 256

/-- A slot holds a bound command that has not completed. What it finds is the state at its CSN (R92), so that it counts as a
read: the reads of Table 4.7, XOPEN, the conditions of CPUT and CDELETE, and the values that a HOLD names (R82, R165). -/
def pendingRead (x : Slot) : Bool := (x.state == .bound || x.state == .executing) && x.routine == none

/-- The CSNs of the bound commands that have not completed. -/
def State.readCsns (s : State) : List Nat := (s.seq.slots.filter (fun p => pendingRead p.2)).map (·.2.csn)

/-- Flash translation has yet to deal with an expired version: the drain with its record in the Pocket, collection with its index
entry (R250, R254). -/
def State.awaited (s : State) (v : Version) : Bool :=
  s.kv.records.any (fun r => r.loc == .pocket && (versionRecords v).contains r.csn)
    || s.flash.index.any (fun e => e.ns == v.ns && e.key == v.key)

/-- A version is no longer needed: a later one supersedes it and no bound read lies between the two (R211, R215), or
it has expired, is the only one of its key, no bound read precedes it, and neither the Pocket nor the index has it.
(DESIGN CHOICE, log 27) -/
def State.dropsVersion (s : State) (reads : List Nat) (v : Version) : Bool :=
  let others := s.kv.versions.filter (fun w => w.ns == v.ns && w.key == v.key && w.stamp.csn != v.stamp.csn)
  let later := others.filter (fun w => v.stamp.csn < w.stamp.csn)
  if later.isEmpty then
    v.payload != .tomb && !s.visible s.clock.expiry v && others.isEmpty && !reads.any (fun c => v.stamp.csn < c)
      && !s.awaited v
  else !reads.any (fun c => v.stamp.csn < c && !later.any (fun w => w.stamp.csn < c))

/-- What was released under a CSN is needed by a bound command with a lower one (R92). -/
def stillNeeded (reads : List Nat) (released : Option Nat) : Bool :=
  match released with | none => true | some e => reads.any (fun c => c ≤ e)

/-- Versions no longer needed are discarded, the records that nothing refers to, and the holds and handles released that no
bound command finds any more (R215, R242). (DESIGN CHOICE, log 27) -/
def State.prune (s : State) : State :=
  let reads := s.readCsns
  let kept := s.kv.versions.filter (fun v => !s.dropsVersion reads v)
  let refs := kept.flatMap versionRecords
  { s with kv := { s.kv with
      versions := kept, records := s.kv.records.filter (fun r => refs.contains r.csn)
      holds := s.kv.holds.filter (fun h => stillNeeded reads h.released)
      writers := s.kv.writers.filter (fun w => stillNeeded reads w.released) } }

/-- A key's newest version stands in the Pocket: its record is there, or the journal record of its tombstone or of the command
that last changed the object is (R205). -/
def State.inPocket (s : State) (ns : Nat) (key : Bytes) : Bool :=
  match s.versionAt ns key (s.seq.csnLast + 1) with
  | none => false
  | some v =>
    ((v.payload == .tomb || payloadKind v.payload == 2) && s.pocket.journal.any (fun r => r.csn == v.stamp.csn))
      || s.kv.records.any (fun r => r.loc == .pocket && (versionRecords v).contains r.csn)

/-- The parameters of a namespace as they stand (Table 2.1). -/
def State.nsParams (s : State) (ns : Nat) : NsParams :=
  { state := s.odGet ns Od.NS_STATE 0, kinds := s.odGet ns Od.NS_KIND_POLICY 0
    writeOnce := s.odGet ns Od.NS_WRITE_ONCE 0 == 1, isSealed := s.odGet ns Od.NS_SEAL_POLICY 0 == 1
    counterMode := s.odGet ns Od.NS_COUNTER_MODE 0
    quotaBytes := s.odGet ns Od.NS_QUOTA_BYTES 0, quotaKeys := s.odGet ns Od.NS_QUOTA_KEYS 0
    essential := s.odGet ns Od.NS_ESSENTIAL 0 == 1, incident := s.odGet ns Od.NS_INCIDENT 0 == 1
    threshold := s.val Od.FOLD_THRESHOLD }

/-- An access entry matches a command's port, VLAN and session (R49, Table 2.2). -/
def entryMatches (e : Nat) (port vlan : Nat) (secured : Bool) (group : Nat) : Bool :=
  let g := bitsOf 63 56 e
  let v := bitsOf 47 36 e
  g != 0xFF && port < 6 && bitOf (50 + port) e && (v == 0xFFF || v == vlan) && (if g = 0 then !secured else secured && g == group)

/-- An access list grants a class to a session on a port and VLAN (R50). -/
def State.aclGrants (s : State) (index ns cls port vlan : Nat) (secured : Bool) (group : Nat) : Bool :=
  [1, 2, 3, 4, 5, 6, 7, 8].any (fun k =>
    let e := s.odGet ns index k
    entryMatches e port vlan secured group && bitOf cls e)

/-- The access lists as they stand: the entries of NS_ACCESS that are set, by `odKey` (R50). -/
def State.accessLists (s : State) : SMap Nat := s.od.vals.filter (fun e => e.1 / 256 % 65536 == Od.NS_ACCESS)

/-- The access list of a namespace, as it stood when a slot's UNHOLD was bound, grants its session HOLD (R50, R181). -/
def State.holdGranted (s : State) (x : Slot) (ns : Nat) : Bool :=
  let y := s.session x.context
  [1, 2, 3, 4, 5, 6, 7, 8].any (fun k =>
    let e := SMap.getD x.access (odKey ns Od.NS_ACCESS k) (odDefault s.hw.grade 0 ns Od.NS_ACCESS k)
    entryMatches e x.port x.vlan y.secured y.group && bitOf 9 e)

/-- The access list of a namespace permits a slot's session a class (R50). -/
def State.permits (s : State) (x : Slot) (ns cls : Nat) : Bool :=
  let y := s.session x.context
  s.aclGrants Od.NS_ACCESS ns cls x.port x.vlan y.secured y.group

/-- The rules of single opcodes that give MALFORMED (R64, R167, R169, R173, R178, R179, R182, R183). -/
def opMalformed (c : Cmd) : Bool :=
  match c.opcode with
  | 0x06 => c.param 0 8 == 0
  | 0x07 => decide (1 < c.param 0 1) || (c.param 0 1 == 0 && c.dataLen != 0) || c.param 4 4 == 0 || decide (16384 < c.param 4 4)
  | 0x10 => decide (1 < c.param 0 1)
  | 0x11 => c.dataLen == 0
  | 0x12 => c.dataLen == 0
  | 0x21 => decide (c.paramInt 24 < c.paramInt 16)
  | 0x30 => decide (2 < c.param 0 1) || decide (c.param 16 8 < c.param 8 8) || (c.param 0 1 == 0 && c.key.length == 0)
      || (c.param 0 1 == 2 && c.key.length != 0)
  | 0x39 => c.param 0 1 == 0 || decide (3 < c.param 0 1)
  | 0x40 => c.param 8 4 == 0 || decide (4096 < c.param 8 4)
  | _ => false

/-- The length of the object a command addresses; 0 for an absent one. -/
def State.objectLength (s : State) (x : Slot) (c : Cmd) : Nat :=
  match s.valueAt c.ns c.key x.csn x.bindClock with
  | some v => payloadLength v.payload
  | none => 0

/-- VALUE_TOO_LARGE (R57, R64, R175). -/
def State.tooLarge (s : State) (x : Slot) (c : Cmd) : Bool :=
  match c.opcode with
  | 0x01 => decide (2 ^ 24 < c.dataLen)
  | 0x02 => decide (2 ^ 24 < c.dataLen)
  | 0x11 => decide (2 ^ 24 < c.dataLen) || decide (2 ^ 36 < c.param 8 8 + c.dataLen)
  | 0x12 => decide (2 ^ 24 < c.dataLen) || decide (2 ^ 36 < s.objectLength x c + c.dataLen)
  | 0x13 => decide (2 ^ 24 < c.param 8 8)
  | 0x14 => decide (2 ^ 36 < c.param 8 8 + c.param 16 8)
  | 0x16 => decide (2 ^ 36 < c.param 8 8)
  | _ => false

/-- BAD_NAMESPACE (R39, R155). -/
def badNamespace (x : Slot) (c : Cmd) : Bool :=
  if !opNamesNs c.opcode then false
  else if c.opcode = 0x60 ∨ c.opcode = 0x61 then c.ns != 0 || x.udp == 7311
  else if x.udp = 7311 then c.ns == 0 || decide (c.ns < 16) || decide (4095 < c.ns) || x.params.state != 1
  else c.ns != 0

/-- Steps 3 to 5 of the order of checks, as far as they are common (R164). -/
def State.gate (s : State) (x : Slot) (c : Cmd) : Option Nat :=
  if malformed ((s.session x.context).version == 2) x.bindClock c || opMalformed c then some St.MALFORMED
  else if c.opcode = 0x07 ∧ 255 < c.dataLen then some St.KEY_TOO_LONG
  else if s.tooLarge x c then some St.VALUE_TOO_LARGE
  else if badNamespace x c then some St.BAD_NAMESPACE
  else if x.denied && opNamesNs c.opcode then some St.NOT_PERMITTED
  else if opNamesNs c.opcode && c.ns == 0 && c.opcode != 0x60 && c.opcode != 0x61 && c.opcode != 0x07 then some St.BAD_KIND
  else none

/-- A counter of hours: an event source whose first raise after an hour of operating time counts (Table 16.2). -/
def State.hourly (s : State) (k : Nat) : Bool :=
  match SMap.get? s.events.reported k with
  | none => true
  | some t => decide (t + 3600 ≤ s.seconds)

/-- An hourly source is raised, when its hour has passed (Table 16.2). -/
def State.raiseHourly (s : State) (k src : Nat) (params : List Nat) : State :=
  if s.hourly k then
    { s with events := { s.events with reported := SMap.put s.events.reported k s.seconds } }.raise src params
  else s

/-- Step 11 of the order of checks for a command that would add keys and bytes: QUOTA, then NO_SPACE (R54, R59, R242,
R261, R306). Before the directory is loaded the totals are the recorded ones, with what puts have counted too much (R206). -/
def State.roomFor (s : State) (x : Slot) (c : Cmd) (newKey : Bool) (bytes : Int) : Option (Nat × Nat) :=
  let p := x.params
  let surplus := s.kv.surplus.filter (fun o => o.ns == c.ns)
  if newKey ∧ p.quotaKeys ≠ 0 ∧ p.quotaKeys < s.usedKeys c.ns + surplus.length + 1 then some (St.QUOTA, 1)
  else if 0 < bytes ∧ p.quotaBytes ≠ 0 ∧ (p.quotaBytes : Int) < s.usedBytes c.ns + (surplus.map (·.bytes)).sum + bytes then
    some (St.QUOTA, 0)
  else if s.val Od.HEALTH_STATE = 6 then some (St.NO_SPACE, 0)
  else if newKey ∧ keyLimit s.hw.grade ≤ s.liveValues.length + s.kv.surplus.length then some (St.NO_SPACE, 0)
  else if newKey ∧ 3840 ≤ s.liveValues.length ∧
      3840 ≤ (s.liveValues.filter (fun v => keyDigest v.ns v.key / 2 ^ 104 == keyDigest c.ns c.key / 2 ^ 104)).length then
    some (St.NO_SPACE, 0)
  else if x.overCap then some (St.NO_SPACE, 2)
  else none

/-- A failure under step 11: its events and its reply. -/
def State.refuseRoom (s : State) (c : Cmd) (f : Nat × Nat) : State × Reply :=
  if f.1 = St.QUOTA then (s.raiseHourly (1 + c.ns) Ev.NS_QUOTA_REACHED [c.ns, f.2], .fail f.1)
  else
    let s1 := s.perf 92 1
    (if f.2 = 2 then s1.raiseHourly 0 Ev.FTL_NO_SPACE [s.liveBytes / 2 ^ 32, s.liveBytes % 2 ^ 32] else s1, .fail f.1)

/-- A new version becomes part of the state, with its record in the Pocket. -/
def State.addVersion (s : State) (v : Version) (recs : List Record) : State :=
  { s with kv := { s.kv with versions := s.kv.versions ++ [v], records := s.kv.records ++ recs } }

/-- A tag `a` lies below `b`, modulo 2^32 (R131). -/
def tagBelow (a b : Nat) : Bool := let d := (b + 2 ^ 32 - a) % 2 ^ 32; decide (0 < d) && decide (d < 2 ^ 31)

/-- The session that sent a command is the present one of its context. -/
def State.sameSession (s : State) (x : Slot) : Bool := sessionId x.context (s.session x.context).gen == x.session

/-- The session that sent a command has not ended; the supervisor's commands have no session. -/
def State.sessionLives (s : State) (x : Slot) : Bool :=
  x.session == 0 || (s.sameSession x && (s.session x.context).state != .free)

/-- The fence that an ordered command meets, when it is bound and when it runs: the session's, at a lower tag, or one that a
FENCE_CLEAR of a higher tag has lifted since (R96, R189, R204). -/
def State.fencesSlot (s : State) (x : Slot) : Option (Nat × Nat) :=
  if x.ordered && s.sameSession x then
    let y := s.session x.context
    match y.fence, y.clearedAt with
    | some f, some t => if tagBelow f.1 x.tag.toNat || tagBelow x.tag.toNat t then some f else none
    | some f, none => if tagBelow f.1 x.tag.toNat then some f else none
    | none, some t => if tagBelow x.tag.toNat t then some y.lastFence else none
    | none, none => none
  else none

/-- The reply of a command that completes FENCED (R158). -/
def fencedReply (f : Nat × Nat) : Reply := .fail St.FENCED (toBE 4 f.1 ++ toBE 2 f.2 ++ [0, 0])

/-- A command fails in the sense of R97. -/
def failsFence (op : Nat) (st : Nat) : Bool := st != 0 && !(st == St.NOT_FOUND && opReadOnly op)

/-- The session is fenced at the tag of a failed ordered command (R96). FENCED_COUNT counts the commands completed FENCED since
the session's last fence was lifted, those of R189 with them. (DESIGN CHOICE, log 28) -/
def State.fenceFor (s : State) (x : Slot) (op st : Nat) : State :=
  let y := s.session x.context
  if !s.sameSession x then s
  else if x.ordered ∧ failsFence op st ∧ y.fence = none ∧ st ≠ St.FENCED then
    ((s.setSession x.context { y with fence := some (x.tag.toNat, st) }).bump Od.CNT_FENCES).raise Ev.SESSION_FENCED
      [(sessionId x.context y.gen).toNat, x.tag.toNat, st]
  else if st = St.FENCED then s.setSession x.context { y with fencedCount := y.fencedCount + 1 }
  else s

/-- The digest of the key that a command names; zero for a namespace-wide record (R213). -/
def recordDigest (c : Cmd) : Nat :=
  match (opInfo? c.opcode).map (·.key) with
  | some 1 => keyDigest c.ns c.key
  | some 3 => keyDigest c.ns c.key
  | some 2 => if c.opcode = 0x30 ∧ c.param 0 1 = 0 then keyDigest c.ns c.key else 0
  | _ => 0

/-- A journal record with what it says of its command (Table 5.5). -/
def jrecOf (x : Slot) (c : Cmd) (j : JRec) (status : Nat) : JRec :=
  { j with
    flags := j.flags + (if x.ordered then 1 else 0), ns := if opNamesNs c.opcode then c.ns else 0
    session := x.session, csn := x.csn, dt := x.tsBind, te := x.te, status := status, tag := x.tag, digest := recordDigest c }

/-- The journal record of a command: of its effect, or of its status when it is ordered and failed, or FENCED (R213). -/
def retireRecord (x : Slot) (c : Cmd) (r : Reply) : Option JRec :=
  let base := match r.effect with
    | some j => some j
    | none => if (x.ordered && failsFence c.opcode r.final) || r.final == St.FENCED then some { type := 0x09 } else none
  base.map (fun j => jrecOf x c j r.final)

/-- The response of a session's command is held, and leaves while the session is OPEN or CLOSING (R137, R138). In a session that
is not established, it waits for the client's duplicate under the new keys. After the session's end nothing is held. -/
def State.respond (s : State) (x : Slot) (status : Nat) (keep : Bool) (gap : Nat) (body : Bytes) : State :=
  let y := s.session x.context
  let fs := replyFragments y.maxPayload gap body
  let r : Replay := { tag := x.tag.toNat, status := status, body := body, keep := keep, inst := x.inst, prio := x.prio
                      port := x.port, gap := gap }
  if sessionId x.context y.gen != x.session || y.state == .free then s
  else if y.state == .isOpen || y.state == .closing then
    (s.setSession x.context { y with replays := { r with waiting := numbered (y.txPn + 1) fs } :: y.replays }).sendResponse
      x.context x.prio x.tag.toNat x.inst body x.timed gap
  else s.setSession x.context { y with replays := { r with waiting := fs.map (fun f => (0, f)) } :: y.replays }

/-- A command completes, its journal record written: its fence, its response and replay, and its slot and op engine are free
(R96, R201). A slot is RETIRING only within this step. (DESIGN CHOICE, log 28) -/
def State.complete (s1 : State) (n : Nat) (x : Slot) (c : Cmd) (r : Reply) (keep : Bool) : State :=
  let s2 := s1.fenceFor x c.opcode r.final
  let body := responseBody c.opcode ⟨x.te, x.tsBind, x.csn⟩ r
  let s3 := if x.session = 0 then
      (match x.supTag with
        | some t => { s2 with seam := { s2.seam with tags := ((t, r.final) :: s2.seam.tags).take 4096 } }
        | none => s2)
    else s2.respond x r.final keep r.gap body
  let s4 := match x.ope with
    | some e => s3.leaveEngine e c.opcode
    | none => s3
  let s5 := s4.freeSlot n
  let s6 := (s5.perf (if r.final = 0 then 1 else if r.final = St.FENCED then 3 else 2) 1).prune
  if x.session = 0 then s6 else s6.finishClosing x.context

/-- A command retires: its journal record, then what its completion does (R96, R201, R213). -/
def State.retire (s : State) (n : Nat) (x : Slot) (c : Cmd) (r : Reply) : State :=
  let s1 := match retireRecord x c r with | some j => s.journal j | none => s
  s1.complete n x c r (r.effect.isSome || (x.ordered && failsFence c.opcode r.final) || r.final == St.FENCED)

/-- A command whose journal record was written when its effect was published completes (Table 5.6). -/
def State.retireDone (s : State) (n : Nat) (x : Slot) (c : Cmd) (r : Reply) : State := s.complete n x c r true

/-- The step of a command that an op engine runs: FENCED, the common checks, then the command's own effect.
(DEDUCED, log 7) -/
def State.runKv (s : State) (n : Nat) (accepts : Cmd → Bool) (f : Slot → Cmd → State → State × Reply) : State :=
  let x := s.slot n
  let c := parseCmd (assemble x.frags)
  if x.state = .executing ∧ x.retry = none ∧ accepts c = true then
    match s.fencesSlot x with
    | some g => s.retire n x c (fencedReply g)
    | none =>
      match s.gate x c with
      | some st => s.retire n x c (.fail st)
      | none => let o := f x c s; o.1.retire n x c o.2
  else s

/-- The meta block of a value (Table 4.6), as a command with CSN `c` finds it (R92). -/
def State.metaBlock (s : State) (c : Nat) (v : Version) : Bytes :=
  let writer := s.kv.writers.any (fun w =>
    w.ns == v.ns && w.key == v.key && w.object == v.createCsn && within w.csn w.released c)
  let closed := match v.payload with | .extent _ _ cl _ => cl.any (· < c) | _ => false
  let mode := match v.payload with | .counter _ .wrap => 1 | .counter _ .saturate => 2 | .counter _ .refuse => 3 | _ => 0
  toBE 1 (payloadKind v.payload)
    ++ toBE 1 ((if s.heldAt c v.stamp.csn then 1 else 0) + (if writer then 2 else 0) + (if v.ingress.isSome then 4 else 0)
        + (if closed then 8 else 0))
    ++ toBE 2 v.stamp.te ++ toBE 2 ((v.ingress.map (·.1)).getD 0) ++ toBE 1 mode ++ [0] ++ toBE 8 v.stamp.dt
    ++ toBE 8 v.stamp.csn ++ toBE 8 v.createCsn ++ toBE 8 (v.expiry.getD (2 ^ 64 - 1))
    ++ toBE 8 ((v.ingress.map (·.2)).getD 0) ++ toBE 8 (payloadLength v.payload)

/-- The stamp of a slot's command. -/
def slotStamp (x : Slot) : Stamp := ⟨x.te, x.tsBind, x.csn⟩

/-- The ingress time that a command sets: its first datagram's when TIMED (R56). -/
def slotIngress (x : Slot) : Option (Nat × Nat) := if x.timed then some (x.teFirst, x.tsFirst) else none

/-- RESTRICTED refuses changes in a namespace that is not essential (R88). (DESIGN CHOICE, log 28) -/
def State.restricted (s : State) (x : Slot) : Bool := s.val Od.HEALTH_STATE == 5 && !x.params.essential

/-- The record of a value is lost beyond parity (R91). -/
def State.lost (s : State) (v : Version) : Bool :=
  s.kv.records.any (fun r => r.loc == .lost && (versionRecords v).contains r.csn)

end Sys2Proof.Machine
end

