-- ==== Sys2Proof/Machine/FlashMedia.lean ====
section
/-! DEFINITION. The media: geometry of stripes, rows and dies (R236 to R241, R296), physical blocks and their wear (R237, R275), the
bytes of a record and of a wordline (R238, R239, R243, R388), and the stripes that bins hold open (R248 to R252). -/

namespace Sys2Proof.Machine

/-- The last index that is not a system band (Table 6.2). -/
def indexLimit (g : Grade) : Nat := byGrade g 2044 2044 2042

/-- A stripe index may be opened: FREE, not of a system band, not excluded. (DESIGN CHOICE, log 35) -/
def State.canOpen (s : State) (i : Nat) : Bool :=
  i < indexLimit s.hw.grade && (s.stripe i).state == .free && !(s.stripe i).excluded

/-- FREE_STRIPES (Table 6.12). -/
def State.freeStripes (s : State) : Nat :=
  indexLimit s.hw.grade - (s.flash.stripes.filter (fun e => e.2.state != .free || e.2.excluded)).length

/-- Data bytes of one wordline of a die: 256 KiB in QLC mode, 64 KiB in one-bit mode (R236). -/
def lineWidth (qlc : Bool) : Nat := if qlc then 262144 else 65536

/-- Data bytes of one row line: 15 data wordlines, 14 in a narrowed row (R239, R296). -/
def rowLineBytes (qlc : Bool) (narrow row : Nat) : Nat := (if narrow.testBit row then 14 else 15) * lineWidth qlc

/-- Data bytes of the first `n` row lines of one wordline number. -/
def rowStart (x : Stripe) (n : Nat) : Nat := ((List.range n).map (fun r => rowLineBytes x.qlc x.narrow r)).sum

/-- Data bytes of the row lines of one wordline number. -/
def wordlineBytes (g : Grade) (x : Stripe) : Nat := rowStart x (gradeRows g)

/-- Data bytes of a stripe (Table 6.1, R296). -/
def stripeSpace (g : Grade) (x : Stripe) : Nat := 1024 * wordlineBytes g x

/-- The row whose line holds the byte at an offset within one wordline number. -/
def rowAt (x : Stripe) : Nat → Nat → Nat → Nat
  | 0, r, _ => r
  | k + 1, r, off => let b := rowLineBytes x.qlc x.narrow r; if off < b then r else rowAt x k (r + 1) (off - b)

/-- Data bytes of the next row line of a stripe. -/
def nextLineBytes (g : Grade) (x : Stripe) : Nat :=
  rowLineBytes x.qlc x.narrow (rowAt x (gradeRows g - 1) 0 (x.programmed % max 1 (wordlineBytes g x)))

/-- The channels that carry a row of a stripe, in order: all sixteen, or the fifteen that remain of a narrowed row (R238, R296). -/
def State.rowChannels (s : State) (x : Stripe) (row : Nat) : List Nat :=
  if x.narrow.testBit row then (List.range 16).filter (fun c => SMap.get? s.flash.narrowedBy row != some c) else List.range 16

/-- The data die of a row that a channel is, in channel order, the parity die skipped (R238, R239, R296); none for the parity die. -/
def State.dataDie (s : State) (i : Nat) (x : Stripe) (row ch : Nat) : Option Nat :=
  let cs := s.rowChannels x row
  let k := cs.findIdx (· == ch)
  let p := (i + row) % max 1 cs.length
  if k < cs.length ∧ k ≠ p then some (if k < p then k else k - 1) else none

/-- The offset of a die's data in wordline 0 of a stripe (R239), and none for a parity die. -/
def State.dieOffset? (s : State) (i : Nat) (x : Stripe) (die : Nat) : Option Nat :=
  let row := s.rowOf die
  (s.dataDie i x row (die / 10)).map (fun d => rowStart x row + d * lineWidth x.qlc)

/-- A span of a stripe's data touches a die: a wordline of data that lies there (R239). -/
def State.touchesDie (s : State) (i : Nat) (x : Stripe) (die : Nat) (a b : Nat) : Bool :=
  match s.dieOffset? i x die with
  | none => false
  | some o =>
    let w := lineWidth x.qlc
    let l := wordlineBytes s.hw.grade x
    let first := if a < o + w then 0 else (a - (o + w)) / max 1 l + 1
    decide (first * l + o < b)

/-- A span touches one wordline of a die (R239). -/
def State.touchesLine (s : State) (i : Nat) (x : Stripe) (die line : Nat) (a b : Nat) : Bool :=
  match s.dieOffset? i x die with
  | none => false
  | some o =>
    let u := line * wordlineBytes s.hw.grade x + o
    decide (u < b) && decide (a < u + lineWidth x.qlc)

/-- The records of a stripe whose span satisfies a test, by CSN. -/
def State.touched (s : State) (i : Nat) (p : Nat → Nat → Bool) : List Nat :=
  ((s.stripe i).records.filter (fun r => p (r.stop - r.size) r.stop)).map (·.csn)

/-- Pieces of `n` elements, the last one possibly shorter; the first argument bounds their number. -/
def chunksOf {α : Type} (n : Nat) : Nat → List α → List (List α)
  | 0, _ => []
  | k + 1, l => if l.isEmpty then [] else l.take n :: chunksOf n k (l.drop n)

/-- The same elements in pieces of `n`. -/
def pieces {α : Type} (n : Nat) (l : List α) : List (List α) := chunksOf n l.length l

/-- RK: the one-step derivation of SP 800-56C with SHA-512 over the PUF secret and the fuse secret, counter 1, FixedInfo "ZKROOT"; its
first 32 bytes (R402). (PRESUMED, log 22) -/
def rootKey : BitVec 256 :=
  BitVec.ofNat 256 ((Config.sha512 (toBE 4 1 ++ Config.pufSecret ++ Config.fuseSecret
    ++ [0x5A, 0x4B, 0x52, 0x4F, 0x4F, 0x54])).toNat / 2 ^ 256)

/-- KEK_NS, KEK_SYS and MDK as the key store holds them (Table 10.6, R404). -/
def wrappedKeys : List (BitVec 320) :=
  [Config.aesKw rootKey Config.kekNs, Config.aesKw rootKey Config.kekSys, Config.aesKw Config.kekSys Config.mdk]

/-- Slot `n` of the 4,096 NDK slots of the key store: the data key of namespace `n` wrapped under KEK_NS, zero where there is none
(R404, R408). -/
def State.ndkSlot (s : State) (n : Nat) : Bytes :=
  toBE 40 (match SMap.get? s.cipher.keys n with
    | some k => (Config.aesKw Config.kekNs k).toNat
    | none => 0)

/-- The keys of a session as its context in LPDDR holds them: wrapped under CK (Table 10.5, R402). -/
def State.contextKeys (s : State) (c : Nat) : Bytes :=
  toBE 40 (Config.aesKw s.cipher.contextKey (s.session c).keyCd).toNat ++ toBE 40 (Config.aesKw s.cipher.contextKey (s.session c).keyDc).toNat

/-- Bytes 0 to 91 of a record header (Table 6.3). -/
def recordHead (r : Record) : Bytes :=
  toBE 1 r.rtype ++ toBE 1 ((if r.ingress.isSome then 1 else 0) + (if r.createCsn = r.csn then 2 else 0)) ++ toBE 2 r.ns
    ++ toBE 1 (if r.rtype = 2 then 0 else r.key.length) ++ [0, 0, 0] ++ toBE 16 (keyDigest r.ns r.key) ++ toBE 8 r.csn
    ++ toBE 8 r.dt ++ toBE 2 r.te ++ toBE 2 ((r.ingress.map (·.1)).getD 0) ++ toBE 4 r.dataLen ++ toBE 8 r.createCsn
    ++ toBE 8 (r.expiry.getD (2 ^ 64 - 1)) ++ toBE 8 ((r.ingress.map (·.2)).getD 0) ++ toBE 8 r.objOffset ++ toBE 12 r.nonce

/-- The 96-byte record header (Table 6.3). -/
def recordHeader (r : Record) : Bytes := recordHead r ++ toBE 4 (crc32 (recordHead r))

/-- The plaintext of a record: its key, which a fragment has none of, and its data (R244, Table 6.3). -/
def recordPlain (r : Record) : Bytes := (if r.rtype = 2 then [] else r.key) ++ r.data

/-- The chunks of a record's plaintext: one empty chunk for a plaintext of length 0 (R388). -/
def recordChunks (r : Record) : List Bytes := match pieces 65536 (recordPlain r) with | [] => [[]] | cs => cs

/-- The additional authenticated data of chunk `k` (R388). -/
def chunkAad (r : Record) (k : Nat) : Bytes := recordHeader r ++ (if k = 0 then [] else toBE 4 k)

/-- Chunk `k` of a record on flash: its ciphertext, then its tag (R388). -/
def State.chunkOnFlash (s : State) (r : Record) (k : Nat) : Bytes :=
  let c := Config.aesGcm (SMap.getD s.cipher.keys r.ns 0) (BitVec.ofNat 96 (r.nonce + k)) (chunkAad r k) ((recordChunks r).getD k [])
  c.1 ++ toBE 16 c.2.toNat

/-- A record on flash: the header, then each chunk (R388). -/
def State.recordBytes (s : State) (r : Record) : Bytes :=
  recordHeader r ++ (List.range (recordChunks r).length).flatMap (s.chunkOnFlash r)

/-- The byte at an offset of a stripe's data space: of the record that lies there, or padding. -/
def State.stripeByte (s : State) (i off : Nat) : Byte :=
  match (s.stripe i).records.find? (fun p => decide (p.stop - p.size ≤ off) && decide (off < p.stop)) with
  | none => 0
  | some p =>
    match s.kv.records.find? (fun r => r.csn == p.csn) with
    | none => 0
    | some r => (s.recordBytes r).getD (off - (p.stop - p.size)) 0

/-- Byte `b` of data die `d` in wordline `line` of row `row` (R239). -/
def State.dataByte (s : State) (i row line d b : Nat) : Byte :=
  let x := s.stripe i
  s.stripeByte i (line * wordlineBytes s.hw.grade x + rowStart x row + d * lineWidth x.qlc + b)

/-- Byte `b` of a parity wordline: the XOR of the data wordlines of its row at the same wordline number (R238). -/
def State.parityByte (s : State) (i row line b : Nat) : Byte :=
  (List.range (if (s.stripe i).narrow.testBit row then 14 else 15)).foldl (fun p d => p ^^^ s.dataByte i row line d b) 0

/-- A good block of a plane that is bound to no index (R237). -/
def State.blockFree (s : State) (k b : Nat) : Bool :=
  !(Config.badBlocks k).contains b && !(s.plane k).retired.contains b && !((s.plane k).map.any (fun e => e.2 == b))

/-- The free block of a plane with the fewest units, the lowest number among equals (R275). -/
def State.freeBlock? (s : State) (k : Nat) : Option Nat :=
  let u (b : Nat) : Nat := SMap.getD (s.plane k).units b 0
  ((List.range 2120).filter (s.blockFree k)).foldl (fun a b =>
    match a with
    | none => some b
    | some c => if u b < u c then some b else a) none

/-- A plane binds its least-worn free block to an index (R237, R275). -/
def State.bindBlock (i : Nat) (s : State) (k : Nat) : State :=
  match s.freeBlock? k with
  | none => s
  | some b => s.setPlane k { s.plane k with map := SMap.put (s.plane k).map i b }

/-- A plane unbinds the block of an index (R237). -/
def State.unbindBlock (i : Nat) (s : State) (k : Nat) : State :=
  s.setPlane k { s.plane k with map := SMap.erase (s.plane k).map i }

/-- A plane whose block of an index has been erased: the block is unbound, and has worn by one erase (R269, R275). -/
def wornPlane (i units : Nat) (p : Plane) : Plane :=
  match SMap.get? p.map i with
  | none => p
  | some b => { p with map := SMap.erase p.map i, units := SMap.modify p.units b 0 (· + units) }

/-- Wear units of all blocks (R275). -/
def State.wearUnits (s : State) : Nat := (s.flash.planes.map (fun e => (e.2.units.map (·.2)).sum)).sum

/-- Good blocks of the module: of the populated dies that no spare has replaced (R236, R286). -/
def State.goodBlocks (s : State) : Nat :=
  (((List.range 640).filter (fun k => decide (k / 4 % 10 ≤ sparePosition s.hw.grade) && !s.flash.replaced.contains (k / 4))).map
    (fun k => (2048 + s.planeSpare k).toNat)).sum

/-- The block erases of a stripe, by channel (Table 16.6). -/
def State.countErases (s : State) (i : Nat) : State :=
  (List.range 16).foldl (fun t c =>
    t.perf (106 + 4 * c) (s.flash.planes.filter (fun e => e.1 / 40 == c && (SMap.get? e.2.map i).isSome)).length) s

/-- The blocks of a stripe are erased and unbound: 20 units for each QLC block, 1 for each one-bit block; WEAR_USED and
WEAR_MAX_BLOCK follow (R269, R275, Table 6.12). -/
def State.eraseBlocks (s : State) (i : Nat) (qlc : Bool) : State :=
  let s0 := s.countErases i
  let s1 : State := { s0 with flash := { s.flash with
    planes := s.flash.planes.map (fun e => (e.1, wornPlane i (if qlc then 20 else 1) e.2)) } }
  (s1.raiseTo Od.WEAR_USED (s1.wearUnits * 100 / (60000 * max 1 s1.goodBlocks))).raiseTo Od.WEAR_MAX_BLOCK
    ((s1.flash.planes.map (fun e => (e.2.units.map (·.2)).foldl max 0)).foldl max 0)

/-- The bins that program in QLC mode (R251). -/
def binQlc (b : Nat) : Bool := b < 34

/-- Stripes of a bin that are not FREE. -/
def State.stripesOf (s : State) (b : Nat) : Nat := (s.flash.stripes.filter (fun e => e.2.bin == b && e.2.state != .free)).length

/-- The counts of Table 6.2: value stripes, SMALL-FOLD, INDEX. -/
def poolLimit (g : Grade) (b : Nat) : Nat := if b < 34 then byGrade g 1904 1888 1806 else if b = 34 then 44 else byGrade g 96 112 192

/-- Stripes not FREE of the pool that a bin draws on, those out of use with them (R241, R287). -/
def State.poolUsed (s : State) (b : Nat) : Nat :=
  if b < 34 then
    (s.flash.stripes.filter (fun e => e.2.bin < 34 && e.2.state != .free)).length + s.val Od.EXCLUDED_INDICES
  else s.stripesOf b

/-- A bin takes a FREE stripe index, within the count of its pool; every plane in service binds a block to it (R237, R241, R275,
Table 6.5). -/
def State.openStripe (s : State) (b : Nat) : State :=
  if poolLimit s.hw.grade b ≤ s.poolUsed b then (if b = 34 then s.raise Ev.FTL_SMALL_FOLD_FULL else s)
  else
    match firstFree 0 2048 (Config.stripePick s.draws).val s.canOpen with
    | none => s
    | some i =>
      let x : Stripe := { state := .isOpen, qlc := binQlc b, bin := b, narrow := s.val Od.ROWS_NARROWED, rebuilt := true
                          order := s.flash.opened, born := s.clock.dt }
      let s1 := ((s.draw.setStripe i x).setBin b { s.bin b with isOpen := true, stripe := some i })
      let s2 := s1.planesServing.foldl (State.bindBlock i) s1
      ({ s2 with flash := { s2.flash with opened := s2.flash.opened + 1 } }).journalInternal 0x13 0 s2.seq.csnLast i b

/-- The open stripe of a bin, if it has one. -/
def State.openStripeOf? (s : State) (b : Nat) : Option Nat :=
  match (s.bin b).stripe with
  | some i => if (s.stripe i).state = .isOpen then some i else none
  | none => none

/-- A bin with an open stripe. -/
def State.withStripe (s : State) (b : Nat) : State := if (s.openStripeOf? b).isSome then s else s.openStripe b

/-- A bin gives up a stripe, when it holds that one. -/
def State.leaveStripe (s : State) (i : Nat) : State :=
  let b := (s.stripe i).bin
  if (s.bin b).stripe = some i then s.setBin b { s.bin b with stripe := none } else s

end Sys2Proof.Machine
end

