-- ==== Sys2Proof/Machine/FlashIndex.lean ====
section
/-! DEFINITION. The index: entries and LOCATIONs (R262), the pages of the INDEX band (R245, R261, R264 to R266), the bucket directory
and its page cache (R260, R263), stripe summaries (R265), the way of a stripe to FULL (R249, R252), checkpoints (R266, R274). -/

namespace Sys2Proof.Machine

/-- The bucket of a key digest: its bits 127:104 (R259). -/
def digestBucket (d : Nat) : Nat := d / 2 ^ 104

/-- A LOCATION as a word (Table 6.7), with its HELD bit. -/
def Location.word (l : Location) (held : Bool) : Nat :=
  l.kind * 2 ^ 62 + (if held then 2 ^ 61 else 0) + (if l.oneBit then 2 ^ 60 else 0) + l.stripe * 2 ^ 49 + l.offset * 2 ^ 21 + l.units

/-- KEY_DIGEST of an index entry (R262). -/
def IndexEntry.digest (e : IndexEntry) : Nat := keyDigest e.ns e.key

/-- KEY_DIGEST, LOCATION and CSN of an index entry (R262). -/
def State.entryFields (s : State) (e : IndexEntry) : Nat × Nat × Nat := (e.digest, e.loc.word (s.isHeld e.csn), e.csn)

/-- The 32 bytes of an index entry (R262). -/
def entryBytes (t : Nat × Nat × Nat) : Bytes := toBE 16 t.1 ++ toBE 8 t.2.1 ++ toBE 8 t.2.2

/-- The 32 bytes of an extent map entry (R264). -/
def mapEntryBytes (m : MapEntry) : Bytes := toBE 8 m.offset ++ toBE 4 m.length ++ [0, 0, 0, 0] ++ toBE 8 m.loc ++ toBE 8 m.csn

/-- A bucket directory entry as a word of 128 bits (Table 6.6). -/
def DirEntry.word (e : DirEntry) : Nat :=
  (if e.valid then 2 ^ 127 else 0) + e.pstripe * 2 ^ 116 + e.page * 2 ^ 96 + e.pages * 2 ^ 92 + e.entries * 2 ^ 80 + e.bucketCsn

/-- The index entry of a key (R263: the keys are compared after decryption). -/
def State.entryOf? (s : State) (ns : Nat) (key : Bytes) : Option IndexEntry := s.flash.index.find? (fun e => e.ns == ns && e.key == key)

/-- The index entries changed. -/
def State.setIndex (s : State) (es : List IndexEntry) : State := { s with flash := { s.flash with index := es } }

/-- The index entry of a key removed (R269, R281). -/
def State.unindex (s : State) (ns : Nat) (key : Bytes) : State :=
  s.setIndex (s.flash.index.filter (fun e => !(e.ns == ns && e.key == key)))

/-- The index entry of a key set. -/
def State.indexPut (s : State) (e : IndexEntry) : State := let t := s.unindex e.ns e.key; t.setIndex (t.flash.index ++ [e])

/-- The LOCATION of a record placed in a stripe. -/
def State.placedLoc (s : State) (i : Nat) (p : PlacedRec) : Location :=
  ⟨p.kind, !(s.stripe i).qlc, i, (p.stop - p.size) / 256, p.size / 256⟩

/-- The newest version of its key refers to a record. -/
def State.currentRecord (s : State) (csn : Nat) : Option Version := s.newest.find? (fun v => (versionRecords v).contains csn)

/-- The last place of a record in a stripe. -/
def State.placeIn (s : State) (i csn : Nat) : Option PlacedRec := (s.stripe i).records.reverse.find? (fun p => p.csn == csn)

/-- LOCATION of a record that lies on flash, as a word; 0 for one that does not. -/
def State.recordWord (s : State) (r : Record) : Nat :=
  match r.loc with
  | .flash i => ((s.placeIn i r.csn).map (fun p => (s.placedLoc i p).word (s.isHeld r.csn))).getD 0
  | _ => 0

/-- A flash translation journal record about a record (Table 6.8). -/
def State.journalMove (s : State) (type : Nat) (r : Record) (new old : Nat) : State :=
  s.journal { type := type, ns := r.ns, csn := r.csn, dt := s.clock.dt, te := s.clock.te, digest := keyDigest r.ns r.key
              argA := new, argB := old }

/-- The entries of one bucket's run as they stand. -/
def State.bucketRun (s : State) (b : Nat) : List (Nat × Nat × Nat) :=
  (s.flash.index.filter (fun e => digestBucket e.digest == b)).map s.entryFields

/-- The bucket directory entry of a bucket. -/
def State.dirEntry (s : State) (b : Nat) : DirEntry := SMap.getD s.flash.dir b {}

/-- The pages of the INDEX band from a place. -/
def State.pagesAt (s : State) (i page n : Nat) : List IndexPage := ((s.stripe i).pages.drop page).take n

/-- The entries of a bucket's run on flash. -/
def State.writtenRun (s : State) (b : Nat) : List (Nat × Nat × Nat) :=
  let e := s.dirEntry b
  if e.valid then (s.pagesAt e.pstripe e.page e.pages).flatMap (fun p => match p with | .run _ _ _ es => es | _ => []) else []

/-- The buckets whose run on flash is not the run as it stands. -/
def State.dirtyBuckets (s : State) : List Nat :=
  (distinct ((s.flash.index.map (fun e => digestBucket e.digest)) ++ s.flash.dir.map (·.1))).filter (fun b => s.bucketRun b != s.writtenRun b)

/-- The CSN that BUCKET_CSN of a rewritten run names (Table 6.6): the highest of the journal records about its keys. -/
def State.bucketCsn (s : State) (b : Nat) : Nat :=
  ((s.pocket.durable ++ s.pocket.journal).filter (fun j => j.digest != 0 && digestBucket j.digest == b)).foldl (fun m j => max m j.csn)
    (s.dirEntry b).bucketCsn

/-- An INDEX stripe has room for `n` more pages. -/
def State.pageRoom (s : State) (i n : Nat) : Bool := decide (((s.stripe i).pages.length + n) * 16384 ≤ stripeSpace s.hw.grade (s.stripe i))

/-- The open INDEX stripe has room for `n` pages; one without is full when its placed pages are programmed, and the band opens
another (R249). -/
def State.indexRoom (s : State) (n : Nat) : State :=
  match s.openStripeOf? 35 with
  | none => s.openStripe 35
  | some i =>
    if s.pageRoom i n then s
    else
      let x := s.stripe i
      let s1 := s.leaveStripe i
      (if x.programmed < x.placed then s1.setStripe i { x with closing := true }
       else s1.setStripe i { x with state := .full, fullAt := s.seconds }).openStripe 35

/-- Pages placed next to each other in the INDEX band: where, when it has a stripe for them. -/
def State.placePages (s : State) (ps : List IndexPage) : State × Option (Nat × Nat) :=
  let s1 := s.indexRoom ps.length
  match s1.openStripeOf? 35 with
  | none => (s1, none)
  | some i =>
    let x := s1.stripe i
    (s1.setStripe i { x with pages := x.pages ++ ps, placed := (x.pages.length + ps.length) * 16384 }, some (i, x.pages.length))

/-- The directory entry of a bucket set. -/
def State.setDir (s : State) (b : Nat) (e : DirEntry) : State := { s with flash := { s.flash with dir := SMap.put s.flash.dir b e } }

/-- A bucket run is rewritten whole, to a new place (R261); an empty one leaves no run. -/
def State.writeRun (s : State) (b : Nat) : State :=
  let es := s.bucketRun b
  let c := s.bucketCsn b
  if es.isEmpty then s.setDir b { bucketCsn := c }
  else
    let ps := (pieces 480 es).zipIdx.map (fun e => IndexPage.run b e.2 c e.1)
    match s.placePages ps with
    | (t, some (i, k)) => (t.setDir b ⟨true, i, k, ps.length, es.length, c⟩).perf 74 1
    | (t, none) => t

/-- The extents of an object: runs of mapped bytes of one fragment, each with the LOCATION of the fragment (R264). -/
def State.mapEntries (s : State) : List ExtCell → List MapEntry
  | [] => []
  | c :: cs =>
    let w := ((s.kv.records.find? (fun r => r.csn == c.frag)).map s.recordWord).getD 0
    match s.mapEntries cs with
    | [] => [⟨c.addr, 1, w, c.frag⟩]
    | m :: ms => if m.offset = c.addr + 1 ∧ m.csn = c.frag then ⟨c.addr, m.length + 1, w, c.frag⟩ :: ms else ⟨c.addr, 1, w, c.frag⟩ :: m :: ms

/-- The extent map of an object as it stands on flash. -/
def State.writtenMap (s : State) (object : Nat) : Option (List MapEntry) :=
  (SMap.get? s.flash.maps object).map (fun p =>
    (s.pagesAt p.1 p.2.1 p.2.2).flatMap (fun q => match q with | .extentMap _ _ es => es | _ => []))

/-- The extent map of an object is written to a new place, and its index entry addresses it (R262, R264). -/
def State.writeMap (s : State) (v : Version) (es : List MapEntry) : State :=
  let parts : List (List MapEntry) := match pieces 480 es with | [] => [[]] | l => l
  let ps := parts.zipIdx.map (fun e => IndexPage.extentMap v.createCsn e.2 e.1)
  match s.placePages ps with
  | (t, some (i, k)) =>
    ({ t with flash := { t.flash with maps := SMap.put t.flash.maps v.createCsn (i, k, ps.length) } }).indexPut
      ⟨v.ns, v.key, ⟨2, true, i, k * 64, ps.length * 64⟩, v.stamp.csn⟩
  | (t, none) => t

/-- The map of an object is written when what it says has changed. -/
def State.checkMap (s : State) (v : Version) : State :=
  match v.payload with
  | .extent cells _ _ _ =>
    let es := s.mapEntries cells
    if s.writtenMap v.createCsn = some es ∧ (s.entryOf? v.ns v.key).any (fun e => e.csn == v.stamp.csn) then s else s.writeMap v es
  | _ => s

/-- The summary entries of a stripe's durable records, in placement order (R265). (DESIGN CHOICE, log 35) -/
def State.summaryEntries (s : State) (i : Nat) : List (Nat × Nat × Nat) :=
  let x := s.stripe i
  (x.records.filter (fun p => p.stop ≤ x.programmed)).map (fun p =>
    (keyDigest p.ns p.key, (s.placedLoc i p).word (s.isHeld p.csn), p.csn))

/-- Summary pages of a stripe are placed, as many as are asked for (R265). -/
def State.placeSummary (s : State) (i : Nat) (es : List (List (Nat × Nat × Nat))) : State :=
  es.foldl (fun t e =>
    let x := t.stripe i
    match t.placePages [.summary i x.order x.summary e] with
    | (u, some _) => u.setStripe i { u.stripe i with summary := x.summary + 1 }
    | (u, none) => u) s

/-- Each full page of a stripe's summary is written while the stripe is OPEN, and the last page when it becomes FULL (R265). -/
def State.writeSummary (s : State) (i : Nat) (last : Bool) : State :=
  let ps := (pieces 480 (s.summaryEntries i)).drop (s.stripe i).summary
  s.placeSummary i (if last then ps else ps.filter (fun p => p.length == 480))

/-- An open stripe becomes FULL; records placed in row lines not programmed go back to the drain, and the last page of its summary is
written (R265, Table 6.5). -/
def State.fullStripe (s : State) (i : Nat) : State :=
  let x := s.stripe i
  let undone := (x.records.filter (fun r => x.programmed < r.stop)).map (·.csn)
  let s1 := (s.leaveStripe i).setStripe i
    { x with state := .full, placed := x.programmed, closing := false, fullAt := s.seconds, inFlight := false
             records := x.records.filter (fun r => r.stop ≤ x.programmed)
             pages := x.pages.take (x.programmed / 16384) }
  let s2 : State := { s1 with kv := { s1.kv with
      records := s1.kv.records.map (fun r =>
        if (r.loc == .pocket || r.moving) && r.copy.isNone && undone.contains r.csn then { r with bin := none } else r) } }
  if x.bin < 35 then s2.writeSummary i true else s2

/-- An open stripe is to become FULL: at once, or when its row line in flight is programmed (R249). -/
def State.endStripe (s : State) (i : Nat) : State :=
  let x := s.stripe i
  if x.inFlight then (s.leaveStripe i).setStripe i { x with closing := true } else s.fullStripe i

/-- The directory pages that have changed since they were written: pages of 1,024 entries (R266). -/
def State.dirtyDirPages (s : State) : List Nat :=
  (distinct ((s.flash.dir.map (·.1)).map (· / 1024))).filter (fun n =>
    s.flash.dir.filter (fun e => e.1 / 1024 == n) != s.flash.dirWritten.filter (fun e => e.1 / 1024 == n))

/-- A directory page is written (R266). -/
def State.writeDirPage (s : State) (n : Nat) : State :=
  let es := s.flash.dir.filter (fun e => e.1 / 1024 == n)
  match s.placePages [.directory n es] with
  | (t, some p) => { t with flash := { t.flash with
      dirPages := SMap.put t.flash.dirPages n p
      dirWritten := es.foldl (fun (m : SMap DirEntry) e => SMap.put m e.1 e.2) t.flash.dirWritten } }
  | (t, none) => t

/-- A tombstone's journal record (Table 5.5): of a key, or of a range. -/
def JRec.isTomb (j : JRec) : Bool := j.type == 0x02 || j.type == 0x04

/-- An older copy of what a tombstone removed stands in a stripe that has not been ERASED (R95, R274). (DEDUCED, log 35) -/
def State.tombNeeded (s : State) (j : JRec) : Bool :=
  s.flash.stripes.any (fun e => e.2.state != .free && e.2.records.any (fun p => p.csn < j.csn && keyDigest p.ns p.key == j.digest))

/-- The place of the directory image that a CHECKPOINT record names: that of its first page. (DESIGN CHOICE, log 35) -/
def State.imagePlace (s : State) : Nat :=
  match s.flash.dirPages with
  | [] => 0
  | e :: _ => (Location.mk 0 true e.2.1 (e.2.2 * 64) 64).word false

/-- The pages of every summary that are still to be written (R265, R266): the full ones, and the last one of a FULL stripe. -/
def State.writeSummaries (s : State) : State :=
  s.flash.stripes.foldl (fun t e =>
    if e.2.bin < 35 && e.2.state != .free && e.2.state != .erasing then t.writeSummary e.1 (e.2.state != .isOpen) else t) s

/-- A checkpoint: every dirty extent map, bucket run, summary page and directory page is written, a CHECKPOINT record is journalled, and the journal
older than the previous checkpoint is released but for the tombstones that are carried; with it the matcher image and the entries
kept by the module are saved (R266, R274, R340, R456). -/
def State.checkpointNow (s : State) : State :=
  let s1 := s.liveValues.foldl State.checkMap s
  let s2 := (s1.dirtyBuckets.foldl State.writeRun s1).writeSummaries
  let s3 := s2.dirtyDirPages.foldl State.writeDirPage s2
  let n := s3.pocket.checkpoint + 1
  let kept := (s3.pocket.durable.reverse.takeWhile (fun j => j.type != 0x16)).reverse
  let past := s3.pocket.durable.take (s3.pocket.durable.length - kept.length)
  let s4 : State := { s3 with
    pocket := { s3.pocket with
      checkpoint := n, durable := kept, tombs := (s3.pocket.tombs ++ past.filter JRec.isTomb).filter s3.tombNeeded }
    od := { s3.od with saved := s3.od.vals }
    matcher := { s3.matcher with image := s3.matcher.entries, imageGen := s3.val Od.MATCH_GENERATION } }
  (s4.journalInternal 0x16 0 s4.seq.csnLast s4.imagePlace n).perf 75 1

/-- DIR_CHECKPOINT (R266). -/
def execDirCheckpoint (s : State) : Out :=
  if s.live = true ∧ s.kv.loaded = true then .next s.checkpointNow else .next s

/-- A page of the INDEX band is live: the directory, a map, a stripe that is not FREE, or the journal still needs it (R268). -/
def State.pageLive (s : State) (i k : Nat) (p : IndexPage) : Bool :=
  match p with
  | .run b _ _ _ => let e := s.dirEntry b; e.valid && e.pstripe == i && decide (e.page ≤ k) && decide (k < e.page + e.pages)
  | .extentMap o _ _ => (SMap.get? s.flash.maps o).any (fun m => m.1 == i && decide (m.2.1 ≤ k) && decide (k < m.2.1 + m.2.2)
      && s.flash.index.any (fun e => e.loc.kind == 2 && e.loc.stripe == i && e.loc.offset == m.2.1 * 64))
  | .summary j n _ _ => (s.stripe j).state != .free && (s.stripe j).order == n
  | .directory n _ => SMap.get? s.flash.dirPages n == some (i, k)
  | .journal rs => rs.any (fun j => s.pocket.durable.contains j || s.pocket.tombs.contains j)
  | .padding => false

/-- The live pages of an INDEX stripe with their numbers. -/
def State.livePages (s : State) (i : Nat) : List (IndexPage × Nat) := (s.stripe i).pages.zipIdx.filter (fun e => s.pageLive i e.2 e.1)

/-- A live page of an INDEX stripe is written again: a run or a map whole, once (R261, R268, R269). -/
def State.rewritePage (i : Nat) (s : State) (e : IndexPage × Nat) : State :=
  if !s.pageLive i e.2 e.1 then s
  else
    match e.1 with
    | .run b _ _ _ => s.writeRun b
    | .extentMap o _ _ =>
      (match s.newest.find? (fun v => v.createCsn == o) with
        | some v => (match v.payload with | .extent cells _ _ _ => s.writeMap v (s.mapEntries cells) | _ => s)
        | none => s)
    | .directory n _ => s.writeDirPage n
    | p => (s.placePages [p]).1

/-- A stripe among others in the order in which they opened. -/
def insertOpened (e : Nat × Stripe) : List (Nat × Stripe) → List (Nat × Stripe)
  | [] => [e]
  | f :: l => if e.2.order ≤ f.2.order then e :: f :: l else f :: insertOpened e l

/-- The directory as the INDEX band's programmed pages give it: the last whole run of each bucket (R266, Table 7.2). -/
def State.loadDir (s : State) : SMap DirEntry :=
  let stripes := (s.flash.stripes.filter (fun e => e.2.bin == 35 && e.2.state != .free)).foldr insertOpened []
  stripes.foldl (fun (m : SMap DirEntry) e =>
    (e.2.pages.take (e.2.programmed / 16384)).zipIdx.foldl (fun (m : SMap DirEntry) p =>
      match p.1 with
      | .run b place c es =>
        let d := SMap.getD m b {}
        if place = 0 then SMap.put m b ⟨true, e.1, p.2, 1, es.length, c⟩
        else if d.pstripe = e.1 ∧ d.page + place = p.2 then SMap.put m b { d with pages := place + 1, entries := d.entries + es.length }
        else m
      | _ => m) m) []

/-- The directory entry of one bucket is rebuilt from the headers of its run; reads of it are served again (Table 7.2).
(DESIGN CHOICE, log 34) -/
def State.rebuildDirectory (s : State) : State :=
  match s.kv.rebuilding with
  | [] => s
  | b :: bs => { s.setDir b (SMap.getD s.loadDir b {}) with kv := { s.kv with rebuilding := bs } }

/-- A row line that power loss has cut short is dead, and what had its place there goes back to the drain (R271). -/
def deadLines (x : Stripe) : Stripe :=
  { x with inFlight := false, placed := x.programmed, records := x.records.filter (fun p => p.stop ≤ x.programmed)
           pages := x.pages.take (x.programmed / 16384) }

/-- The pages of a stripe's summary that stand in the INDEX band. -/
def summaryPages (stripes : SMap Stripe) (i order : Nat) : Nat :=
  ((stripes.flatMap (fun e => e.2.pages)).filter (fun p => match p with | .summary j n _ _ => j == i && n == order | _ => false)).length

/-- The media and the records as a start finds them: lines in flight are dead, copies not yet MOVED are made again, and the summaries and
the directory are what the INDEX band's programmed pages say (R266, R271). A record that its start has lost has no index entry. -/
def State.mediaAtStart (s : State) : State :=
  let cut := s.flash.stripes.map (fun e => (e.1, deadLines e.2))
  let s1 : State := { s with
    flash := { s.flash with
      stripes := cut.map (fun e => (e.1, if e.2.bin < 35 then { e.2 with summary := summaryPages cut e.1 e.2.order } else e.2))
      maps := s.flash.maps.filter (fun m => decide (m.2.2.1 + m.2.2.2 ≤ (SMap.getD cut m.2.1 {}).pages.length))
      dirPages := [], dirWritten := [], cache := [], carried := 0, msqStopped := [] }
    kv := { s.kv with records := s.kv.records.map (fun r => { r with bin := none, copy := none }) } }
  { s1 with flash := { s1.flash with
      dir := s1.loadDir
      index := s1.flash.index.filter (fun e => e.loc.kind == 2 || s1.kv.records.any (fun r => r.csn == e.csn && r.loc == .flash e.loc.stripe)) } }

/-- A copy of a key that the summaries list: the one with the highest CSN (R274). -/
def laterPlaced (a : Option (Nat × PlacedRec)) (b : Nat × PlacedRec) : Option (Nat × PlacedRec) :=
  match a with
  | none => some b
  | some c => if c.2.csn ≤ b.2.csn then some b else a

/-- A bucket run that cannot be read is rebuilt from the stripe summaries: for each key the copy with the highest CSN, unless a carried
tombstone is later or R81 makes it expired (R274). (DESIGN CHOICE, log 35) -/
def State.rebuildRun (s : State) (b : Nat) : State :=
  let copies := s.flash.stripes.flatMap (fun e =>
    if e.2.state != .free && e.2.bin < 35 then
      (e.2.records.filter (fun p => p.kind != 2 && p.stop ≤ e.2.programmed && digestBucket (keyDigest p.ns p.key) == b)).map (fun p => (e.1, p))
    else [])
  let keys := distinct (copies.map (fun c => (c.2.ns, c.2.key)))
  let found := keys.filterMap (fun k =>
    (copies.filter (fun c => c.2.ns == k.1 && c.2.key == k.2)).foldl laterPlaced none)
  let stands := found.filter (fun c =>
    !((s.pocket.tombs ++ s.pocket.durable ++ s.pocket.journal).any (fun j => j.isTomb && j.digest == keyDigest c.2.ns c.2.key && c.2.csn < j.csn))
      && !((s.kv.records.find? (fun r => r.csn == c.2.csn)).any (fun r =>
        !s.isHeld r.csn && (match r.expiry with | none => false | some e => decide (e ≤ s.clock.expiry)))))
  let rest := s.flash.index.filter (fun e => digestBucket e.digest != b || e.loc.kind == 2)
  (s.setIndex (rest ++ stands.map (fun c => ⟨c.2.ns, c.2.key, s.placedLoc c.1 c.2, c.2.csn⟩))).writeRun b

/-- Pages of 16 KiB that the bucket page cache holds (R21, R263). -/
def State.cachePages (s : State) : Nat := s.lpddrSize 5 / 16384

/-- The most recently used buckets whose runs fit in a number of pages. -/
def State.fitCache (s : State) : Nat → List Nat → List Nat
  | _, [] => []
  | n, b :: bs => let p := max 1 (s.dirEntry b).pages; if p ≤ n then b :: s.fitCache (n - p) bs else []

/-- The bucket of a key is looked up: its run is in the page cache, or read into it; the least recently used leaves first. The key
of a candidate is decrypted and compared (R263, Table 10.2). -/
def State.lookUp (s : State) (ns : Nat) (key : Bytes) : State :=
  let b := digestBucket (keyDigest ns key)
  let s1 : State := { s with flash := { s.flash with cache := s.fitCache s.cachePages (b :: s.flash.cache.filter (· != b)) } }
  let s2 := if s.flash.cache.contains b then s1.perf 72 1 else (s1.useKey 0).perf 73 1
  if (s.entryOf? ns key).isSome then s2.useKey ns else s2

end Sys2Proof.Machine
end

