-- ==== Sys2Proof/Machine/Flash.lean ====
section
/-! DEFINITION. Meanings of flash translation: the drain and its bins (R245 to R253), collection and folding (R254, R258, R268 to R271,
R297), blocks (R272, R273, R287), patrol and read levels (R278 to R280), sizing (R276, R282). -/

namespace Sys2Proof.Machine

/-- A time bin closes: its open stripe becomes FULL (R249). -/
def State.closeBin (s : State) (b : Nat) : State :=
  let s1 := match s.openStripeOf? b with | some i => s.endStripe i | none => s
  let s2 := s1.setBin b {}
  { s2 with kv := { s2.kv with
      records := s2.kv.records.map (fun r =>
        if (r.loc == .pocket || r.moving) && r.copy.isNone && r.bin == some b then { r with bin := none } else r) } }

/-- The open time bins with their quanta. -/
def State.timeBins (s : State) : List (Nat × Nat) :=
  (s.flash.bins.filter (fun e => e.1 < 32 && e.2.isOpen)).map (fun e => (e.1, e.2.quantum))

/-- Of two pairs the one with the smaller second number. -/
def smallerSnd (a : Option (Nat × Nat)) (b : Nat × Nat) : Option (Nat × Nat) :=
  match a with | none => some b | some x => if b.2 < x.2 then some b else some x

/-- Of two pairs the one with the larger second number. -/
def largerSnd (a : Option (Nat × Nat)) (b : Nat × Nat) : Option (Nat × Nat) :=
  match a with | none => some b | some x => if x.2 < b.2 then some b else some x

/-- The time bin of an expiry time, opened or moved to its quantum where R248 says so; a bin that opens has an open stripe. -/
def State.timeBinFor (s : State) (e : Nat) : State × Nat :=
  let q := e / (s.val Od.BIN_WIDTH * 1000000000)
  let open_ := s.timeBins
  match open_.find? (fun b => b.2 == q) with
  | some b => (s, b.1)
  | none =>
    match open_.find? (fun b => b.2 + 1 == q) with
    | some b => (((s.setBin b.1 { s.bin b.1 with quantum := q }).journalInternal 0x18 0 s.seq.csnLast b.1 q).perf 84 1, b.1)
    | none =>
      match (List.range 32).find? (fun b => !(s.bin b).isOpen) with
      | some b => ((s.setBin b { isOpen := true, quantum := q, stripe := none }).openStripe b, b)
      | none =>
        match (open_.filter (fun b => q < b.2)).foldl smallerSnd none with
        | some b => (s, b.1)
        | none => (s, ((open_.foldl largerSnd none).map (·.1)).getD 0)

/-- The value of a record is held: a pinned version refers to it. -/
def State.recordHeld (s : State) (csn : Nat) : Bool :=
  s.kv.versions.any (fun v => s.isHeld v.stamp.csn && (versionRecords v).contains csn)

/-- The final bin of a record (Table 6.4, R248, R253). -/
def State.finalBin (s : State) (r : Record) : State × Nat :=
  if s.recordHeld r.csn then (s, 33)
  else match r.expiry with
    | none => (s, 32)
    | some e => s.timeBinFor e

/-- The drain route of a record (Table 6.4); a copy that collection or a fold makes goes to its final bin (R258, R268), one that patrol
makes out of a SMALL-FOLD stripe stays there (R280). -/
def State.routeOf (s : State) (r : Record) : State × Nat :=
  match r.loc with
  | .flash i => if (s.stripe i).bin = 34 ∧ (s.stripe i).state ≠ .reclaim then (s, 34) else s.finalBin r
  | _ => if s.recordHeld r.csn then (s, 33) else if r.small || r.rtype == 3 then (s, 34) else s.finalBin r

/-- A signed seal that covers a put is durable, or its namespace is not sealed (R365). -/
def State.sealCovered (s : State) (ns csn : Nat) : Bool :=
  match SMap.get? s.seals.chains ns with
  | none => true
  | some c => c.seals.any (fun x => x.signature.isSome && x.links.any (fun l => l.1 == csn))

/-- A record of the Pocket has expired, and its value is not held: it is not placed (R250). -/
def State.tooLate (s : State) (r : Record) : Bool :=
  r.loc == .pocket && !s.recordHeld r.csn && (match r.expiry with | none => false | some e => decide (e ≤ s.clock.expiry))

/-- An expired record may be discarded: the seal that covers it is durable, no older version of its key remains, and no bound read
needs it (R165, R250, R365). -/
def State.mayDiscard (s : State) (r : Record) : Bool :=
  s.sealCovered r.ns r.csn && !(s.kv.versions.any (fun v => v.ns == r.ns && v.key == r.key && !(versionRecords v).contains r.csn))
    && !(s.readCsns.any (fun c => r.csn < c))

/-- A record removed from the Pocket, and its key's entry from the index: the key reads as absent (R250). -/
def State.discardRecord (s : State) (r : Record) : State :=
  let s1 : State := { s with kv := { s.kv with
    records := s.kv.records.filter (fun q => q.csn != r.csn)
    versions := s.kv.versions.filter (fun v => !(versionRecords v).contains r.csn) } }
  ((s1.unindex r.ns r.key).journalMove 0x12 r 0 0).perf 10 (ceilDiv r.placed 1024)

/-- A record waits for a bin: in the Pocket, or to be copied out of its stripe. -/
def Record.waits (r : Record) : Bool := (r.loc == .pocket || r.moving) && r.copy.isNone

/-- The records that wait receive their bins in CSN order; expired ones are discarded from the Pocket, or wait there (R245, R250). -/
def State.assignBins (s : State) : State :=
  s.kv.records.foldl (fun t r =>
    if !r.waits then t
    else if t.tooLate r then (if t.mayDiscard r then t.discardRecord r else t)
    else if r.bin.isSome then t
    else
      let (t1, b) := t.routeOf r
      { t1 with kv := { t1.kv with records := t1.kv.records.map (fun q => if q.csn = r.csn then { q with bin := some b } else q) } }) s

/-- A record already has its place in a stripe: durable, or in a row line to come. A copy has one only among those to come. -/
def placedAlready (x : Stripe) (r : Record) : Bool :=
  x.records.any (fun p => p.csn == r.csn && (r.loc == .pocket || (p.copy && decide (x.programmed < p.stop))))

/-- The records of a bin that are not yet placed in a stripe. -/
def State.waiting (s : State) (b : Nat) : List Record :=
  let i := s.openStripeOf? b
  s.kv.records.filter (fun r => r.waits && r.bin == some b
    && !(match i with | some k => placedAlready (s.stripe k) r | none => false)
    && !(r.loc == .pocket && s.flash.stripes.any (fun e => e.2.bin < 35 && e.2.records.any (fun p => p.csn == r.csn && p.stop ≤ e.2.programmed))))

/-- Where a record starts behind the last one: one of FOLD_THRESHOLD or more on a 4 KiB boundary (R244). -/
def startOf (x : Stripe) (r : Record) : Nat := if r.small || r.rtype == 3 then x.placed else roundUp x.placed 4096

/-- A record placed at the end of a stripe. -/
def placeRecord (x : Stripe) (r : Record) : Stripe :=
  let stop := startOf x r + r.placed
  { x with placed := stop, latest := max x.latest (r.expiry.getD 0)
           records := x.records ++ [⟨r.csn, r.ns, r.key, r.rtype, r.placed, stop, r.loc != .pocket⟩] }

/-- Records placed in a stripe until a row line is full, or none is left. -/
def placeUntil (space line : Nat) : List Record → Stripe → Stripe
  | [], x => x
  | r :: rs, x =>
    if x.programmed + line ≤ x.placed ∨ space < startOf x r + r.placed then x
    else placeUntil space line rs (placeRecord x r)

/-- The next record that waits does not fit in its stripe any more. -/
def blocked (space : Nat) (w : List Record) (x y : Stripe) : Bool :=
  match w.drop (y.records.length - x.records.length) with
  | [] => false
  | r :: _ => decide (space < startOf y r + r.placed)

/-- The records placed in the Pocket's turn are encrypted under the key of their namespace, each with nonces of its own; a copy keeps
its header, ciphertext and tags (R243, R385, R388, R389). -/
def State.encryptNew (s : State) (ps : List PlacedRec) : State :=
  (ps.filter (fun p => !p.copy)).foldl (fun t p =>
    match t.kv.records.find? (fun r => r.csn == p.csn) with
    | none => t
    | some r =>
      let n := t.nextNonce 1
      let t1 := (t.useKey r.ns).takeNonces 1 (recordChunks r).length
      { t1 with kv := { t1.kv with records := t1.kv.records.map (fun q => if q.csn = r.csn then { q with nonce := n } else q) } }) s

/-- The row lines of a stripe wait for the blocks of a spare die that a Gusset is filling (R290 step 1). -/
def State.gussetHolds (s : State) (x : Stripe) : Bool := s.val Od.GUSSET_STATE == 1 && !x.rebuilt

/-- The records of a bin are placed, and its next row line is programmed when it is full, or padded where `pad` says so. A stripe in
which the next record does not fit becomes FULL, and its bin opens another (R239, R244, R246, R247, R249). -/
def State.programLine (s : State) (b : Nat) (pad : Bool) : State :=
  let s1 := s.withStripe b
  match s1.openStripeOf? b with
  | none => s1
  | some i =>
    let x := s1.stripe i
    let g := s1.hw.grade
    let line := nextLineBytes g x
    let w := s1.waiting b
    if x.inFlight || s1.gussetHolds x then s1
    else
      let y := placeUntil (stripeSpace g x) line w x
      let new := y.records.drop x.records.length
      if x.programmed + line ≤ y.placed then (s1.setStripe i { y with inFlight := true }).encryptNew new
      else if pad ∧ x.programmed < y.placed then
        (s1.setStripe i { y with placed := x.programmed + line, inFlight := true }).encryptNew new
      else if blocked (stripeSpace g x) w x y then (s1.fullStripe i).openStripe b
      else s1

/-- The records, by CSN, with a place in a row line of a bin that is not full yet. -/
def State.partialPlaces (s : State) (b : Nat) : List Nat :=
  match s.openStripeOf? b with
  | none => []
  | some i =>
    let x := s.stripe i
    if x.inFlight then [] else (x.records.filter (fun p => x.programmed < p.stop)).map (·.csn)

/-- The records that wait for a row line of a bin, those with a place in the line that is not full among them, go to SMALL-FOLD instead
(R246). -/
def State.divert (s : State) (b : Nat) : State :=
  let part := s.partialPlaces b
  let w := (s.waiting b).map (·.csn)
  let s1 : State := { s with kv := { s.kv with
    records := s.kv.records.map (fun r => if w.contains r.csn || (r.waits && part.contains r.csn) then { r with bin := some 34 } else r) } }
  match s1.openStripeOf? b with
  | none => s1
  | some i =>
    let x := s1.stripe i
    if x.inFlight then s1
    else s1.setStripe i { x with placed := x.programmed, records := x.records.filter (fun p => p.stop ≤ x.programmed) }

/-- The CSN of the oldest record that waits for a row line of a bin, with the placed bytes that wait there. -/
def State.partialLine? (s : State) (b : Nat) : Option (Nat × Nat) :=
  let part := s.partialPlaces b
  let w := s.kv.records.filter (fun r => r.waits && r.bin == some b && (part.contains r.csn || (s.waiting b).any (fun q => q.csn == r.csn)))
  match w with
  | [] => none
  | r :: rs => some (rs.foldl (fun m q => min m q.csn) r.csn, ((w.filter (fun q => q.loc == .pocket)).map (fun q => roundUp q.dataLen 4096)).sum)

/-- Of the QLC bins with a partial row line the one whose oldest record is the oldest. -/
def State.oldestPartial (s : State) (bins : List Nat) : Option (Nat × Nat) :=
  (bins.filterMap (fun b => (s.partialLine? b).map (fun p => (b, p.1)))).foldl smallerSnd none

/-- The partial QLC row lines are diverted oldest first, until what is left in the Pocket is at or below POCKET_THROTTLE (R246). -/
def State.divertOldest (s : State) : Nat → Nat → State
  | 0, _ => s
  | n + 1, gone =>
    if (s.pocketUsed - gone) * 100 / 92274688 ≤ s.val Od.POCKET_THROTTLE then s
    else
      match s.oldestPartial (List.range 34) with
      | none => s
      | some (b, _) => (s.divert b).divertOldest n (gone + ((s.partialLine? b).map (·.2)).getD 0)

/-- A FLUSH needs one of the records that wait for SMALL-FOLD or the INDEX band (R247). -/
def State.flushNeeds (s : State) (b : Nat) : Bool :=
  s.seq.flushing.any (fun c =>
    if b = 35 then s.pocket.journal.any (fun j => j.csn < c)
    else s.kv.records.any (fun r => r.loc == .pocket && r.bin == some b && r.csn < c))

/-- The INDEX stripe whose row line is programmed next: one that is only to be finished, oldest first, else the open one. -/
def State.indexLine? (s : State) : Option Nat :=
  match (s.flash.stripes.filter (fun e => e.2.bin == 35 && e.2.state == .isOpen && e.2.closing && e.2.programmed < e.2.placed)).foldr
      insertOpened [] with
  | e :: _ => some e.1
  | [] => s.openStripeOf? 35

/-- The INDEX band's next row line: pages that have their place, then journal segments of 256 records; a line that is not full is
programmed only when it is padded (R245, R247, R266). (DESIGN CHOICE, log 35) -/
def State.programIndex (s : State) (pad : Bool) : State :=
  let s1 := s.withStripe 35
  match s1.indexLine? with
  | none => s1
  | some i =>
    let x := s1.stripe i
    let n := nextLineBytes s1.hw.grade x / 16384
    let have_ := x.pages.length - x.programmed / 16384
    let js := s1.pocket.journal
    let room := n - have_
    let k := if pad then min js.length (256 * room) else if js.length < 256 * room then 0 else 256 * room
    let ps := x.pages ++ (pieces 256 (js.take k)).map IndexPage.journal
    let full := x.programmed / 16384 + n
    if x.inFlight || s1.gussetHolds x then s1
    else if n ≤ have_ ∨ room * 256 ≤ js.length ∨ (pad ∧ 0 < have_ + k) then
      let s2 := s1.setStripe i { x with pages := ps ++ List.replicate (full - ps.length) .padding, inFlight := true
                                        placed := max x.placed (full * 16384) }
      { s2 with flash := { s2.flash with carried := k } }
    else s1

/-- ROW_LINE_PROGRAM (R245 to R248, R251, R253). -/
def execRowLineProgram (bin : Fin 37) (s : State) : Out :=
  let b := bin.val
  if !s.live then .next s
  else if b = 35 then .next (s.programIndex (s.flushNeeds 35))
  else if b = 36 then .next s
  else
    let s1 := s.assignBins
    let s2 := if (s1.partialLine? b).isSome then s1.programLine b (b == 34 && s1.flushNeeds b) else s1
    let started := match s2.openStripeOf? b with | some i => (s2.stripe i).inFlight | none => false
    .next (if !started && binQlc b && s.val Od.POCKET_THROTTLE < s.pocketFill then s2.divertOldest 34 0 else s2)

/-- Pocket entries whose record and whose PLACED record are durable are freed (R27, R240). -/
def State.freeEntries (s : State) : State :=
  let place (csn : Nat) : Option Nat :=
    (s.flash.stripes.find? (fun e => e.2.bin < 35 && e.2.records.any (fun p => p.csn == csn && !p.copy && p.stop ≤ e.2.programmed))).map (·.1)
  let recs := s.kv.records.map (fun r =>
    if r.loc == .pocket && s.pocket.durable.any (fun j => j.type == 0x10 && j.csn == r.csn) then
      match place r.csn with
      | some i => { r with loc := .flash i, bin := none }
      | none => r
    else r)
  let freed := ((s.kv.records.filter (fun r => r.loc == .pocket && recs.any (fun q => q.csn == r.csn && q.loc != .pocket))).map (·.placed)).sum
  ({ s with kv := { s.kv with records := recs } }).perf 9 (ceilDiv freed 1024)

/-- A record's copy takes its place: MOVED is journalled, and the index entry follows when it holds the same CSN (R269, R270). -/
def State.moveRecord (s : State) (r : Record) (j : Nat) : State :=
  match s.placeIn j r.csn with
  | none => s
  | some p =>
    let l := s.placedLoc j p
    let s1 := s.journalMove 0x11 r (l.word (s.isHeld r.csn)) (s.recordWord r)
    let s2 : State := { s1 with kv := { s1.kv with
      records := s1.kv.records.map (fun q =>
        if q.csn = r.csn then { q with loc := .flash j, bin := none, moving := false, copy := none } else q) } }
    match s2.entryOf? r.ns r.key with
    | some e => if e.csn = r.csn ∧ e.loc.kind ≠ 2 then s2.indexPut { e with loc := l } else s2
    | none => s2

/-- A record of the drain has become durable: PLACED is journalled, and the index addresses it while it is what its key holds (R240,
R262, R267). -/
def State.recordPlaced (i : Nat) (s : State) (p : PlacedRec) : State :=
  let l := s.placedLoc i p
  let s1 := s.journal { type := 0x10, ns := p.ns, csn := p.csn, dt := s.clock.dt, te := s.clock.te, digest := keyDigest p.ns p.key
                        argA := l.word (s.isHeld p.csn) }
  if p.kind ≠ 2 ∧ s1.newest.any (fun v => v.ns == p.ns && v.key == p.key && v.stamp.csn == p.csn) then
    s1.indexPut ⟨p.ns, p.key, l, p.csn⟩
  else s1

/-- A copy has become durable. One that collection makes waits for the others of its victim (R269 step 1); one that patrol or a read makes
takes its place at once (R280). -/
def State.copyPlaced (i : Nat) (s : State) (p : PlacedRec) : State :=
  match s.kv.records.find? (fun r => r.csn == p.csn && r.moving) with
  | none => s
  | some r =>
    match r.loc with
    | .flash j =>
      if (s.stripe j).state = .reclaim then
        { s with kv := { s.kv with records := s.kv.records.map (fun q => if q.csn = r.csn then { q with copy := some i, bin := none } else q) } }
      else (s.moveRecord r i).bumpSat Od.CNT_RELOCATED r.placed 64
    | _ => s

/-- Bytes of records within a span of a stripe's data space. -/
def recordBytesIn (x : Stripe) (a b : Nat) : Nat := (x.records.map (fun p => min b p.stop - max a (p.stop - p.size))).sum

/-- The wordline programs of a row line, one in each channel of its row (Table 16.6). -/
def State.countPrograms (s : State) (x : Stripe) : State :=
  (s.rowChannels x (rowAt x (gradeRows s.hw.grade - 1) 0 (x.programmed % max 1 (wordlineBytes s.hw.grade x)))).foldl
    (fun t c => t.perf (105 + 4 * c) 1) s

/-- The stripe's row line in flight is programmed with its parity (R240): its records become durable; an INDEX line makes the journal
records that it carries durable. (DESIGN CHOICE, log 19) -/
def State.lineDone (s : State) (i : Nat) : State :=
  let x := s.stripe i
  let done_ := x.programmed + nextLineBytes s.hw.grade x
  let s1 := (s.setStripe i { x with programmed := done_, inFlight := false, placed := max x.placed done_ }).countPrograms x
  if x.bin = 35 then
    let p := s1.pocket
    let k := s1.flash.carried
    let s2 : State := { s1 with
      pocket := { p with durable := p.durable ++ p.journal.take k, journal := p.journal.drop k }
      flash := { s1.flash with carried := 0 } }
    ((((s2.useKey 0).takeNonces 2 ((done_ - x.programmed) / 16384)).bumpSat Od.INDEX_BYTES (done_ - x.programmed) 64).perf 82 1).freeEntries
  else
    let new := x.records.filter (fun r => x.programmed < r.stop && r.stop ≤ done_)
    let s2 := (new.filter (fun p => !p.copy)).foldl (State.recordPlaced i) s1
    let s3 := (new.filter (fun p => p.copy)).foldl (State.copyPlaced i) s2
    ((((s3.bumpSat Od.MEDIA_BYTES (recordBytesIn x x.programmed done_) 64).perf (if x.qlc then 81 else 82) 1).freeEntries).writeSummary i false)

/-- A stripe that its last row line has filled, or that was only to be finished, becomes FULL; a bin whose stripe has filled opens
another (R249). -/
def State.closeIfFilled (s : State) (i : Nat) : State :=
  let x := s.stripe i
  if x.state = .isOpen ∧ x.inFlight = false ∧
      (stripeSpace s.hw.grade x ≤ x.programmed ∨ (x.closing ∧ (x.bin ≠ 35 ∨ x.placed ≤ x.programmed))) then
    let s1 := s.fullStripe i
    if (s.bin x.bin).stripe = some i then s1.openStripe x.bin else s1
  else s

/-- One block of a plane is retired (R272, R273): BLOCK_RETIRED is journalled. Of a stripe that is not being erased, the plane binds its
least-worn free block to the index instead; a plane without a spare block takes the index out of use once its records have been moved
(R287). -/
def State.retireBlock (s : State) (plane block : Nat) (stripe : Nat) (rebind : Bool) : State :=
  let b := (SMap.get? (s.plane plane).map stripe).getD block
  let spare := s.planeSpare plane
  let s1 := (s.setPlane plane { s.plane plane with retired := (s.plane plane).retired ++ [b]
                                                   map := SMap.erase (s.plane plane).map stripe }).journalInternal 0x17 0 s.seq.csnLast
    (plane * 65536 + b) stripe
  if spare ≤ 0 then s1.setStripe stripe { s1.stripe stripe with condemned := true }
  else if rebind then State.bindBlock stripe s1 plane else s1

/-- The live records of a stripe: the index, or an extent map, refers to them (R242). -/
def State.liveIn (s : State) (i : Nat) : List Record :=
  let live := s.liveValues.flatMap versionRecords
  s.kv.records.filter (fun r => r.loc == .flash i && live.contains r.csn)

/-- Placed bytes of the live records of a stripe. -/
def State.liveBytesIn (s : State) (i : Nat) : Nat := ((s.liveIn i).map (·.placed)).sum

/-- Records are to be copied out of their stripe: they wait for a bin as the drain's do (R268, R269, R280). -/
def State.startMoving (s : State) (csns : List Nat) : State :=
  { s with kv := { s.kv with
      records := s.kv.records.map (fun r => if csns.contains r.csn && !r.moving then { r with moving := true, bin := none, copy := none } else r) } }

/-- Every record of a sealed namespace in a stripe is covered by a durable seal (R254, R365). -/
def State.stripeCovered (s : State) (i : Nat) : Bool :=
  s.kv.records.all (fun r => r.loc != .flash i || s.sealCovered r.ns r.csn)

/-- DRAIN_IDLE_EXPIRY: partial QLC lines are diverted to SMALL-FOLD; one-bit lines are padded and programmed (R246,
R247). -/
def execDrainIdleExpiry (s : State) : Out :=
  if s.live then
    let s1 := s.assignBins
    let s2 := (List.range 34).foldl State.divert s1
    let s3 := if (s2.partialLine? 34).isSome then s2.programLine 34 true else s2
    .next (s3.programIndex true)
  else .next s

/-- BIN_IDLE_EXPIRY: a time bin closes (R249). -/
def execBinIdleExpiry (bin : Fin 32) (s : State) : Out :=
  if (s.bin bin.val).isOpen then .next (s.closeBin bin.val) else .next s

/-- BIN_QUANTUM_END: the end of the bin's quantum is at or below EXPIRY_CLOCK (R249). -/
def execBinQuantumEnd (bin : Fin 32) (s : State) : Out :=
  let b := s.bin bin.val
  if b.isOpen = true ∧ (b.quantum + 1) * (s.val Od.BIN_WIDTH * 1000000000) ≤ s.clock.expiry then .next (s.closeBin bin.val)
  else .next s

/-- A stripe becomes a victim, and the copying of its live records begins (R269, Table 6.5). -/
def State.reclaim (s : State) (i : Nat) (r : Routine) : State :=
  ((s.startMoving ((s.liveIn i).map (·.csn))).setStripe i { s.stripe i with state := .reclaim, copied := false }).startRoutine r s.seq.csnLast 1

/-- FULL stripes, by a test. -/
def State.fullStripes (s : State) (p : Nat → Stripe → Bool) : List (Nat × Stripe) :=
  s.flash.stripes.filter (fun e => e.2.state == .full && p e.1 e.2)

/-- The stripe with the least key. -/
def leastBy (f : Nat × Stripe → Nat × Nat) (l : List (Nat × Stripe)) : Option Nat :=
  (l.foldl (fun (a : Option (Nat × Stripe)) e =>
    match a with
    | none => some e
    | some m => if (f e).1 < (f m).1 ∨ ((f e).1 = (f m).1 ∧ (f e).2 < (f m).2) then some e else some m) none).map (·.1)

/-- A stripe formed before the present narrowing (R297). -/
def State.beforeNarrowing (s : State) (x : Stripe) : Bool :=
  x.state == .full && (List.range 9).any (fun r => (s.val Od.ROWS_NARROWED).testBit r && !x.narrow.testBit r)

/-- The order in which R297 takes the bins. -/
def narrowRank (b : Nat) : Nat := if b = 35 then 0 else if b = 33 then 1 else if b = 32 then 2 else if b = 34 then 3 else 4

/-- The oldest FULL SMALL-FOLD stripe (R258). -/
def State.oldestFold? (s : State) : Option Nat := leastBy (fun e => (e.2.order, 0)) (s.fullStripes (fun _ x => x.bin == 34))

/-- Folding is due: SMALL_FOLD_USED has reached FOLD_START, or the oldest SMALL-FOLD stripe has been FULL for FOLD_AGE (R258).
(DESIGN CHOICE, log 35) -/
def State.foldDue (s : State) : Bool :=
  decide (s.val Od.FOLD_START ≤ s.stripesOf 34 * 100 / 44)
    || (match s.oldestFold? with | some i => decide ((s.stripe i).fullAt + s.val Od.FOLD_AGE ≤ s.seconds) | none => false)

/-- The next victim and whether it is folded: an index to be taken out of use, the stripes of a narrowing, then the priorities of R268
(R254, R268, R287, R297). (DESIGN CHOICE, log 35) -/
def State.victim? (s : State) : Option (Nat × Bool) :=
  let gone := leastBy (fun e => (e.1, 0)) (s.fullStripes (fun _ x => x.condemned))
  let expired := leastBy (fun e => (e.2.latest, 0))
    (s.fullStripes (fun i x => x.bin < 32 && x.latest ≤ s.clock.expiry && s.stripeCovered i))
  let narrowed := leastBy (fun e => (narrowRank e.2.bin, 2 ^ 64 - e.2.latest)) (s.fullStripes (fun _ x => s.beforeNarrowing x))
  let short := s.freeStripes < max (s.val Od.COLLECT_START) (s.val Od.BIN_SIZING)
  let fewest := leastBy (fun e => (s.liveBytesIn e.1, e.2.latest)) (s.fullStripes (fun _ x => x.bin < 34))
  let index := leastBy (fun e => ((s.livePages e.1).length, 0)) (s.fullStripes (fun _ x => x.bin == 35))
  match gone, narrowed, expired with
  | some i, _, _ => some (i, false)
  | none, some i, _ => some (i, false)
  | none, none, some i => some (i, false)
  | none, none, none =>
    if s.foldDue ∧ s.oldestFold?.isSome then s.oldestFold?.map (·, true)
    else if short ∧ fewest.isSome then fewest.map (·, false)
    else if poolLimit s.hw.grade 35 < s.stripesOf 35 + 4 then index.map (·, false)
    else none

/-- COLLECTION_START: a victim is chosen, and its live records begin to be copied (R254, R268, R269, R297). -/
def execCollectionStart (s : State) : Out :=
  if s.backgroundRuns = true ∧ s.flash.collecting = none then
    match s.victim? with
    | none => .next s
    | some (i, folds) =>
      let s1 := s.reclaim i (if folds then .fold i else .collection i)
      let s2 : State := { s1 with flash := { s1.flash with
        collecting := some i, folding := if folds then some i else s1.flash.folding } }
      .next (if s.freeStripes < 8 then s2.raise Ev.FTL_COLLECT_URGENT [s.freeStripes] else s2)
  else .next s

/-- FOLD_START: folding is due, and the oldest FULL SMALL-FOLD stripe is folded (R258). -/
def execFoldStart (s : State) : Out :=
  if s.backgroundRuns = true ∧ s.flash.folding = none ∧ s.foldDue = true then
    match s.oldestFold? with
    | none => .next s
    | some i =>
      let s1 := s.reclaim i (.fold i)
      .next { s1 with flash := { s1.flash with folding := some i } }
  else .next s

/-- Each live record of a victim has a durable copy, and each live page of an INDEX victim has been written again (R269 step 1). -/
def State.copiesDurable (s : State) (i : Nat) : Bool := (s.liveIn i).all (fun r => r.copy.isSome)

/-- A record of a victim that was not copied and whose key's index entry still is of it: the entry is removed, and UNINDEXED journalled
(R269 step 3). -/
def State.dropEntry (s : State) (r : Record) : State :=
  match s.entryOf? r.ns r.key with
  | none => s
  | some e =>
    if e.csn = r.csn ∨ (e.loc.kind = 2 ∧ (s.currentRecord r.csn).any (fun v => v.ns == r.ns && v.key == r.key)) then
      (s.unindex r.ns r.key).journalMove 0x12 r 0 (s.recordWord r)
    else s

/-- No record of a sealed namespace that the victim has not copied lacks a durable seal (R365). -/
def State.endedCovered (s : State) (i : Nat) : Bool :=
  s.kv.records.all (fun r => r.loc != .flash i || r.copy.isSome || s.sealCovered r.ns r.csn)

/-- COLLECT_COPY_DURABLE: with every copy durable, and every seal that the records not copied still need (R365), MOVED is journalled for each, UNINDEXED for each record that was not copied and that
its index entry still names, then ERASE_BEGIN (R269, R270). -/
def execCollectCopyDurable (stripe : Fin 2048) (s : State) : Out :=
  let i := stripe.val
  let x := s.stripe i
  if x.state = .reclaim ∧ s.copiesDurable i = true ∧ s.endedCovered i = true then
    let live := s.liveIn i
    let bytes := (live.map (·.placed)).sum
    let s1 := live.foldl (fun t r => match r.copy with | some j => t.moveRecord r j | none => t) s
    let s2 := (s1.livePages i).foldl (State.rewritePage i) s1
    let ended := s2.kv.records.filter (fun r => r.loc == .flash i)
    let s3 := ended.foldl State.dropEntry s2
    let s4 := (s3.journalInternal 0x14 0 s3.seq.csnLast i 0).setStripe i { s3.stripe i with state := .erasing, copied := true }
    .next ((if s.flash.folding = some i then (s4.bumpSat Od.FOLD_BYTES bytes 64).perf 76 (bytes / 1024)
            else (s4.bumpSat Od.COLLECT_BYTES bytes 64).perf 77 (bytes / 1024)).prune)
  else .next s

/-- The share of the stripes formed before a narrowing that are done; NARROW_DONE at the last (R297). -/
def State.narrowStep (s : State) : State :=
  let left := (s.flash.stripes.filter (fun e => s.beforeNarrowing { e.2 with state := if e.2.state = .free then .free else .full })).length
  if s.val Od.ROWS_NARROWED ≠ 0 ∧ s.val Od.NARROW_PROGRESS < 100 then
    if left = 0 then ((s.setVal Od.NARROW_PROGRESS 100).raise Ev.NARROW_DONE).evaluateHealth
    else s.setVal Od.NARROW_PROGRESS ((s.flash.narrowTotal - left) * 100 / max 1 s.flash.narrowTotal)
  else s

/-- Records lost beyond parity (R91, R294): they stay in the index and read as MEDIA_UNREADABLE. -/
def State.loseRecords (s : State) (i row : Nat) (csns : List Nat) : State :=
  let hit := s.kv.records.any (fun r => r.loc == .flash i && csns.contains r.csn)
  let s1 : State := { s with kv := { s.kv with
    records := s.kv.records.map (fun r => if r.loc == .flash i && csns.contains r.csn then { r with loc := .lost } else r) } }
  if hit then (s1.setCond 14).raise Ev.MEDIA_DATA_LOST [i, row] else s1

/-- The age class of data by its age in ns of DT (R279). -/
def ageClass (age : Nat) : Nat :=
  let hours := age / 3600000000000
  if hours < 1 then 0 else if hours < 6 then 1 else if hours < 24 then 2 else if hours < 72 then 3 else if hours < 168 then 4
  else if hours < 336 then 5 else if hours < 720 then 6 else 7

/-- A read that needed a soft decode or a retry moves the die's read-level offsets for the age class of the stripe's data (R279).
(DESIGN CHOICE, log 35) -/
def State.moveTracker (s : State) (die i : Nat) : State :=
  { s with flash := { s.flash with
      trackers := SMap.put s.flash.trackers (die * 8 + ageClass (s.clock.dt - (s.stripe i).born))
        ((List.finRange 16).map (Config.trackerOffset s.draws)) } }.draw

/-- The corrected bits of a codeword that patrol has read are counted with the read-level tracker of its die, for the age class of the
stripe's data (R278). (DESIGN CHOICE, log 35) -/
def State.countCorrected (s : State) (die i bits : Nat) : State :=
  { s with flash := { s.flash with
      corrected := SMap.modify s.flash.corrected (die * 8 + ageClass (s.clock.dt - (s.stripe i).born)) 0 (· + bits) } }

/-- The live records that touch a weak block begin to be copied to the open stripe of their bin (R280). -/
def State.relocate (s : State) (i die : Nat) : State :=
  let x := s.stripe i
  let csns := s.touched i (fun a b => s.touchesDie i x die a b)
  let live := (s.liveIn i).filter (fun r => csns.contains r.csn && !r.moving)
  if live.isEmpty then s
  else (s.startMoving (live.map (·.csn))).raise Ev.PATROL_RELOCATE [die, i]

/-- A codeword of a die is rebuilt from parity (R280, R288). -/
def State.countRebuild (s : State) (die : Nat) : State :=
  ({ s with flash := { s.flash with rebuilt := SMap.modify s.flash.rebuilt die 0 (· + 1) } }.bumpSat Od.CNT_UNCORRECTABLE).perf 80 1

/-- Patrol reaches a stripe; at the end of a pass the trackers' source is the stored state (Table 6.10). -/
def State.patrolMove (s : State) (i : Nat) : State :=
  let s1 : State := { s with flash := { s.flash with patrolAt := i } }.setVal Od.PATROL_PROGRESS (i * 100 / 2048)
  if i < s.flash.patrolAt then
    (({ s1 with flash := { s1.flash with patrolFrom := s.seconds } }).setVal Od.TRACKER_SOURCE 0).raise Ev.PATROL_PASS_DONE
      [(s.seconds - s.flash.patrolFrom) / 86400]
  else s1

/-- BIN_SIZING_RECOMPUTE: stripes that the peak rate would fill in 10 minutes (R276). (DESIGN CHOICE, log 35) -/
def execBinSizingRecompute (peakBytesPerSecond : Nat) (s : State) : Out :=
  if s.live then
    .next ({ s with flash := { s.flash with writeRate := peakBytesPerSecond } }.setVal Od.BIN_SIZING
      (ceilDiv (peakBytesPerSecond * 600) (stripeData s.hw.grade)))
  else .next s

/-- TRACKER_SAVE: the trackers are written to the calibration store; the 24-hour figures begin anew (R279, R288, R344).
(DESIGN CHOICE, log 35) -/
def execTrackerSave (s : State) : Out :=
  if s.live then
    let media := s.val Od.MEDIA_BYTES - s.flash.mediaBase
    let host := s.val Od.HOST_BYTES - s.flash.hostBase
    let s1 := if host = 0 then s else s.setVal Od.WA_24H (min 65535 (media * 1000 / host))
    .next { s1 with
      matcher := { s1.matcher with repairs := [] }
      flash := { s1.flash with
      trackersSaved := s1.flash.trackers, rebuilt := [], mediaBase := s.val Od.MEDIA_BYTES, hostBase := s.val Od.HOST_BYTES } }
  else .next s

end Sys2Proof.Machine
end

