-- ==== Sys2Proof/Machine/Gusset.lean ====
section
/-! DEFINITION. Meanings of media failures: blocks, failing dies, the Gusset, narrowing and lost channels, patrol
(R272, R273, R278 to R280, R287 to R298). -/

namespace Sys2Proof.Machine

/-- The stripes whose blocks a Gusset must still rebuild (R290). -/
def State.toRebuild (s : State) : List (Nat × Stripe) :=
  s.flash.stripes.filter (fun e => (e.2.state == .full || e.2.state == .isOpen) && !e.2.rebuilt)

/-- The stripes that still have a block on the die under Gusset: those to rebuild, and those that are reclaimed and not yet erased
(R290). -/
def State.onDie (s : State) : List (Nat × Stripe) := s.flash.stripes.filter (fun e => e.2.state != .free && !e.2.rebuilt)

/-- The four planes of a die. -/
def diePlanes (die : Nat) : List Nat := [4 * die, 4 * die + 1, 4 * die + 2, 4 * die + 3]

/-- The spare die of a channel. -/
def State.spareOf (s : State) (c : Nat) : Nat := c * 10 + sparePosition s.hw.grade

/-- The Gusset of a die starts on its channel's spare, which binds a block to the index of each OPEN stripe (R290). -/
def State.beginGusset (s : State) (die : Nat) : State :=
  let c := die / 10
  let s1 := (((s.odPut 0 Od.SPARE_DIE (c + 1) 1).setVal Od.GUSSET_STATE 1).setVal Od.GUSSET_DIE die).setVal Od.GUSSET_PROGRESS 0
  let s2 : State := { s1 with flash := { s1.flash with
    stripes := s1.flash.stripes.map (fun e => (e.1, { e.2 with rebuilt := false })) } }
  let s3 := ((s2.flash.stripes.filter (fun e => e.2.state == .isOpen)).map (·.1)).foldl
    (fun (t : State) i => (diePlanes (t.spareOf c)).foldl (State.bindBlock i) t) s2
  s3.raise Ev.GUSSET_START [die, s.spareOf c]

/-- The Gusset is over when the die carries no bound block: it is powered off (R290). -/
def State.gussetDone (s : State) : State :=
  let die := s.val Od.GUSSET_DIE
  let s1 : State := { s with flash := { s.flash with
    replaced := die :: s.flash.replaced, failed := s.flash.failed.filter (· != die), failing := s.flash.failing.filter (· != die) } }
  let s2 := ((s1.odPut 0 Od.SPARE_DIE (die / 10 + 1) 2).setVal Od.GUSSET_STATE 0).setVal Od.GUSSET_PROGRESS 100
  s2.raise Ev.GUSSET_DONE [die]

/-- A Gusset whose die carries no bound block ends, and the next die in the queue takes its turn (R289, R290); `n` bounds
the queue. -/
def State.advanceGusset : Nat → State → State
  | 0, s => s
  | n + 1, s =>
    if s.val Od.GUSSET_STATE = 1 ∧ s.onDie.isEmpty then
      let s1 := s.gussetDone
      match s1.flash.gussetQueue with
      | [] => s1
      | d :: ds =>
        let s2 : State := { s1 with flash := { s1.flash with gussetQueue := ds } }
        State.advanceGusset n ((s2.setVal Od.GUSSET_QUEUED ds.length).beginGusset d)
    else s

/-- An OPEN stripe becomes FULL because its row has been narrowed, and its bin opens a new one (R296). -/
def State.renewStripe (s : State) (i : Nat) : State :=
  let b := (s.stripe i).bin
  let held := decide ((s.bin b).stripe = some i)
  let s1 := s.endStripe i
  if held then s1.openStripe b else s1

/-- A row is narrowed by the loss of a channel's die: its OPEN stripes become FULL, and the stripes formed before it are to be
reclaimed (R295 to R297). -/
def State.narrowRow (s : State) (row channel : Nat) : State :=
  let rows := s.val Od.ROWS_NARROWED
  if rows.testBit row then s
  else
    let open_ := (s.flash.stripes.filter (fun e => e.2.state == .isOpen)).map (·.1)
    let s0 : State := { s with flash := { s.flash with narrowedBy := SMap.put s.flash.narrowedBy row channel } }
    let s1 := (s0.setVal Od.ROWS_NARROWED (rows + 2 ^ row)).setVal Od.NARROW_PROGRESS 0
    let s2 := open_.foldl State.renewStripe s1
    let left := (s2.flash.stripes.filter (fun e => s2.beforeNarrowing e.2)).length
    let s3 : State := { s2 with flash := { s2.flash with narrowTotal := left } }
    (s3.raise Ev.ROW_NARROWED [row])

/-- Dies of a row whose data is gone for a stripe: failed ones, and those of lost channels, but for the one that the stripe has been
narrowed for and the one that a Gusset has rebuilt it without (R294, R296, R297). -/
def State.missingDies (s : State) (row : Nat) (x : Stripe) : Nat :=
  let f := (s.flash.failed.filter (fun d => s.rowOf d == row && !(x.rebuilt && s.sparedDie? (d / 10) == some d)
    && !(x.narrow.testBit row && SMap.get? s.flash.narrowedBy row == some (d / 10)))).length
  let lost := (List.range 16).filter (fun c => (s.val Od.CHANNELS_LOST).testBit c && !(s.flash.failed.any (fun d => d / 10 == c))
    && !(x.narrow.testBit row && SMap.get? s.flash.narrowedBy row == some c))
  f + lost.length

/-- The records that touch a row of which two dies are gone are lost (R91, R294). -/
def State.loseRow (s : State) (row : Nat) : State :=
  s.flash.stripes.foldl (fun t e =>
    if e.2.state != .free && decide (2 ≤ t.missingDies row e.2) then
      t.loseRecords e.1 row (t.touched e.1 (fun a b =>
        t.flash.failed.any (fun d => t.rowOf d == row && t.touchesDie e.1 e.2 d a b)))
    else t) s

/-- A failed or failing die is rebuilt onto its channel's spare, or waits; without a spare a failed die narrows its row
(R288, R289, R295). -/
def State.dieToGusset (s : State) (die : Nat) (failed : Bool) : State :=
  let c := die / 10
  let spare := s.odGet 0 Od.SPARE_DIE (c + 1)
  if s.flash.gussetQueue.contains die ∨ (s.val Od.GUSSET_STATE ≠ 0 ∧ s.val Od.GUSSET_DIE = die) then s
  else if spare = 0 ∧ (s.val Od.CHANNELS_LOST).testBit c = false ∧ s.flash.gussetQueue.any (fun d => d / 10 == c) = false then
    if s.val Od.GUSSET_STATE = 0 ∧ s.seam.orphan = false then (s.beginGusset die).advanceGusset 1
    else
      let s1 : State := { s with flash := { s.flash with gussetQueue := s.flash.gussetQueue ++ [die] } }
      s1.setVal Od.GUSSET_QUEUED s1.flash.gussetQueue.length
  else if failed then s.narrowRow (s.rowOf die) c
  else s

/-- A die is declared failing (R288). -/
def State.dieFailing (s : State) (die why : Nat) : State :=
  if s.flash.failing.contains die ∨ s.flash.failed.contains die ∨ s.flash.replaced.contains die then s
  else
    let s1 : State := { s with flash := { s.flash with failing := die :: s.flash.failing } }
    (s1.raise Ev.DIE_FAILING [die, why]).dieToGusset die false

/-- A plane with 8 or fewer spare blocks makes its die failing (R288). -/
def State.checkPlane (s : State) (plane : Nat) : State :=
  if s.planeSpare plane ≤ 8 then s.dieFailing (plane / 4) 1 else s

/-- ROW_LINE_PROGRAMMED (R240, R249, R272). The line of a block for which its plane has no spare goes back to the drain (R287). -/
def execRowLineProgrammed (stripe : Fin 2048) (failed : Option (Fin 640 × BitVec 16)) (s : State) : Out :=
  let i := stripe.val
  if (s.stripe i).inFlight then
    let s1 := match failed with
      | some (plane, block) =>
        (((s.retireBlock plane.val block.toNat i true).bumpSat Od.CNT_PROGRAM_FAIL).checkPlane plane.val).raise Ev.MEDIA_PROGRAM_FAIL
          [plane.val / 4, plane.val % 4, ((SMap.get? (s.plane plane.val).map i).getD block.toNat)]
      | none => s
    .next ((if (s1.stripe i).condemned then
        let s2 := s1.fullStripe i
        if (s1.bin (s1.stripe i).bin).stripe = some i then s2.openStripe (s1.stripe i).bin else s2
      else (s1.lineDone i).closeIfFilled i).evaluateHealth)
  else .next s

/-- A bound command that has not completed needs a record of a stripe (R165, R269 step 5). -/
def State.stripeNeeded (s : State) (i : Nat) : Bool := s.kv.records.any (fun r => r.loc == .flash i)

/-- An erased index is FREE, or out of use when a plane had no spare block for it (R287). -/
def State.freeIndex (s : State) (i : Nat) : State :=
  let x := s.stripe i
  let s1 := (s.setStripe i { excluded := x.excluded || x.condemned }).journalInternal 0x15 0 s.seq.csnLast i 0
  if x.condemned then (s1.bump Od.EXCLUDED_INDICES 1 0 16).raise Ev.INDEX_EXCLUDED [i] else s1

/-- BLOCK_ERASE_DONE: no bound read needs the victim any longer; its blocks are erased, unbound, and ERASED journalled
(R269, R273, R275, R287). -/
def execBlockEraseDone (stripe : Fin 2048) (failed : Option (Fin 640 × BitVec 16)) (s : State) : Out :=
  let i := stripe.val
  let x := s.stripe i
  if x.state = .erasing ∧ s.stripeNeeded i = false then
    let s1 := match failed with
      | some (plane, block) =>
        (((s.retireBlock plane.val block.toNat i false).bumpSat Od.CNT_ERASE_FAIL).checkPlane plane.val).raise Ev.MEDIA_ERASE_FAIL
          [plane.val / 4, plane.val % 4, ((SMap.get? (s.plane plane.val).map i).getD block.toNat)]
      | none => s
    let s2 := (s1.eraseBlocks i x.qlc).freeIndex i
    let s3 : State := { s2 with
      flash := { s2.flash with
        collecting := if s2.flash.collecting = some i then none else s2.flash.collecting
        folding := if s2.flash.folding = some i then none else s2.flash.folding }
      seq := { s2.seq with
        slots := s2.seq.slots.filter (fun e => !(e.2.routine == some (.collection i) || e.2.routine == some (.fold i))) } }
    .next ((((s3.perf 83 1).narrowStep).advanceGusset (s3.flash.gussetQueue.length + 1)).evaluateHealth)
  else .next s

/-- The pages of an INDEX stripe that one wordline of a die holds, in part or whole. -/
def State.pagesTouched (s : State) (i die line : Nat) : List IndexPage :=
  let x := s.stripe i
  ((x.pages.take (x.programmed / 16384)).zipIdx.filter (fun e => s.touchesLine i x die line (e.2 * 16384) (e.2 * 16384 + 16384))).map (·.1)

/-- An INDEX page that cannot be read even with parity: a bucket run is rebuilt from the stripe summaries, any other page is written
again from LPDDR (R274). (DESIGN CHOICE, log 35) -/
def State.rebuildPage (i : Nat) (s : State) (p : IndexPage) : State :=
  match p with
  | .run b _ _ _ => if (s.dirEntry b).valid && (s.dirEntry b).pstripe == i then s.rebuildRun b else s
  | _ => s

/-- PATROL_READ (R274, R278 to R280, R288). Patrol runs in internal slots, as background work does. -/
def execPatrolRead (die : Fin 160) (stripe : Fin 2048) (wordline : Fin 1024) (r : PatrolResult) (s : State) : Out :=
  let d := die.val
  let i := stripe.val
  if !s.backgroundRuns then .next s
  else
    let s1 := (s.patrolMove i).perf 78 1
    match r with
    | .good bits =>
      let s2 := if bits = 0 then s1 else (s1.countCorrected d i bits).bumpSat Od.CNT_CORRECTED 1 64
      .next (if s.val Od.RELOCATE_BITS < bits then (s2.relocate i d) else s2)
    | .softOrRetry => .next (((s1.moveTracker d i).perf 79 1).relocate i d)
    | .beyondDecoder ok =>
      if ok then
        let s2 := (s1.countRebuild d).raise Ev.MEDIA_UNCORRECTABLE [d, i, wordline.val]
        .next ((if 64 < SMap.getD s2.flash.rebuilt d 0 then s2.dieFailing d 0 else s2).evaluateHealth)
      else
        let x := s.stripe i
        let s2 := s1.loseRecords i (s.rowOf d) (s.touched i (fun a b => s.touchesLine i x d wordline.val a b))
        .next (((if x.bin = 35 then (s1.pagesTouched i d wordline.val).foldl (State.rebuildPage i) s2 else s2)).evaluateHealth)

/-- A channel is lost: every row is narrowed (R295, R296, R298). -/
def State.loseChannel (s : State) (c : Nat) : State :=
  let lost := s.val Od.CHANNELS_LOST
  let s1 := (s.setVal Od.CHANNELS_LOST (lost + 2 ^ c)).odPut 0 Od.SPARE_DIE (c + 1) 3
  let mine (d : Nat) : Bool := d / 10 == c
  let s2 : State := { s1 with flash := { s1.flash with
    failed := s1.flash.failed.filter (fun d => !mine d) ++ (List.range (gradeRows s.hw.grade)).map (fun r => c * 10 + r)
    gussetQueue := s1.flash.gussetQueue.filter (fun d => !mine d) } }
  let s3 := if s2.val Od.GUSSET_STATE ≠ 0 ∧ mine (s2.val Od.GUSSET_DIE) then s2.setVal Od.GUSSET_STATE 0 else s2
  let s4 := (s3.setVal Od.GUSSET_QUEUED s3.flash.gussetQueue.length).raise Ev.CHANNEL_LOST [c]
  let rows := List.range (gradeRows s.hw.grade)
  rows.foldl State.loseRow (rows.foldl (fun t r => t.narrowRow r c) s4)

/-- The spare of a channel fails while it is in use: its Gusset ends, and the row that it stood in is narrowed (R288, R295). -/
def State.spareFails (s : State) (d : Nat) : State :=
  let c := d / 10
  let row := s.rowOf d
  let s1 := (if s.odGet 0 Od.SPARE_DIE (c + 1) = 1 then s.setVal Od.GUSSET_STATE 0 else s).odPut 0 Od.SPARE_DIE (c + 1) 3
  let s2 := s1.narrowRow row c
  if s2.val Od.GUSSET_STATE = 0 then
    match s2.flash.gussetQueue with
    | [] => s2
    | q :: qs =>
      let s3 : State := { s2 with flash := { s2.flash with gussetQueue := qs } }
      ((s3.setVal Od.GUSSET_QUEUED qs.length).beginGusset q).advanceGusset (qs.length + 1)
  else s2

/-- Every in-service die of a channel has failed (R295). -/
def State.channelDead (s : State) (c : Nat) : Bool := !((List.range 10).any (fun p => s.dieServes (c * 10 + p)))

/-- DIE_RESET_TIMEOUT: a die that does not answer after three resets is declared failed (R288 to R290, R294, R295). -/
def execDieResetTimeout (die : Fin 160) (s : State) : Out :=
  let d := die.val
  if s.live = false ∨ s.flash.failed.contains d = true ∨ s.flash.replaced.contains d = true
      ∨ sparePosition s.hw.grade < d % 10 then .next s
  else
    let s1 := s.raise Ev.MEDIA_DIE_TIMEOUT [d]
    if d % 10 = sparePosition s.hw.grade ∧ s.odGet 0 Od.SPARE_DIE (d / 10 + 1) = 0 then
      .next ((s1.odPut 0 Od.SPARE_DIE (d / 10 + 1) 3).evaluateHealth)
    else
      let row := s.rowOf d
      let s2 : State := { s1 with flash := { s1.flash with failed := d :: s1.flash.failed } }
      let s3 := (if d % 10 = sparePosition s.hw.grade then s2.spareFails d else s2.dieToGusset d true).loseRow row
      .next ((if s3.channelDead (d / 10) ∧ (s3.val Od.CHANNELS_LOST).testBit (d / 10) = false then s3.loseChannel (d / 10)
              else s3).evaluateHealth)

/-- A stripe's turn to be rebuilt: OPEN stripes first, then FULL ones in increasing index order (R290). -/
def State.rebuildsNext (s : State) (i : Nat) : Bool :=
  match s.toRebuild.find? (fun e => e.2.state == .isOpen) with
  | some _ => (s.stripe i).state == .isOpen
  | none => (s.toRebuild.head?.map (·.1)) == some i

/-- GUSSET_STRIPE_REBUILT: the stripe is complete on the spare, whose blocks are bound in place of the die's; when the die carries no
bound block the Gusset ends (R289, R290). -/
def execGussetStripeRebuilt (stripe : Fin 2048) (s : State) : Out :=
  let i := stripe.val
  let x := s.stripe i
  if s.val Od.GUSSET_STATE = 1 ∧ (x.state = .full ∨ x.state = .isOpen) ∧ x.rebuilt = false ∧ s.rebuildsNext i = true then
    let die := s.val Od.GUSSET_DIE
    let s0 := if x.state = .full then (diePlanes (s.spareOf (die / 10))).foldl (State.bindBlock i) s else s
    let s1 := ((diePlanes die).foldl (State.unbindBlock i) s0).setStripe i { x with rebuilt := true }
    let bound := (s1.flash.stripes.filter (fun e => e.2.state == .full || e.2.state == .isOpen)).length
    let s2 := s1.setVal Od.GUSSET_PROGRESS ((bound - s1.toRebuild.length) * 100 / max 1 bound)
    .next ((s2.advanceGusset (s2.flash.gussetQueue.length + 1)).evaluateHealth)
  else .next s

/-- CHANNEL_LOST (R295, R296, R298). -/
def execChannelLost (channel : Fin 16) (s : State) : Out :=
  if s.live = false ∨ (s.val Od.CHANNELS_LOST).testBit channel.val = true then .next s
  else .next ((s.loseChannel channel.val).evaluateHealth)

end Sys2Proof.Machine
end

