-- ==== Sys2Proof/Machine/KvValues.lean ====
section
/-! DEFINITION. Meanings of the commands on plain values, on keys and on counters (R57, R58, R68 to R72, R167, R168,
R177, R178). -/

namespace Sys2Proof.Machine

/-- A command of opcode `op`. (DEDUCED, log 7) -/
def isOp (op : Nat) (c : Cmd) : Bool := c.opcode == op

/-- A key counts as new for the limits: it is absent, or its state cannot be seen before the directory is loaded
(R206). -/
def State.countsAsNew (s : State) (c : Cmd) (old : Option Version) : Bool :=
  old.isNone || (!s.kv.loaded && !s.inPocket c.ns c.key)

/-- The change of the quota's bytes when a value of `n` bytes takes the place of another (R59). -/
def byteGrowth (c : Cmd) (old : Option Version) (n : Nat) : Int :=
  match old with
  | none => (c.key.length + n : Nat)
  | some v => (n : Int) - payloadBytes v.payload

/-- The condition of a CPUT or CDELETE (R58): the failure when it does not hold. -/
def condFails (cond : Option Nat) (old : Option Version) : Option Reply :=
  match cond, old with
  | none, _ => none
  | some 0, none => none
  | some _, none => some (.fail St.NOT_FOUND)
  | some k, some v =>
    if k = v.stamp.csn then none else some (.fail St.VERSION_MISMATCH (toBE 8 v.stamp.csn))

/-- The new version that a put writes (R56, R57). -/
def putVersion (x : Slot) (c : Cmd) (old : Option Version) : Version :=
  { ns := c.ns, key := c.key, stamp := slotStamp x, createCsn := (old.map (·.createCsn)).getD x.csn
    ingress := slotIngress x, expiry := x.expiryDt, payload := .plain c.data }

/-- The record of a plain value. -/
def putRecord (x : Slot) (c : Cmd) (old : Option Version) : Record :=
  { csn := x.csn, te := x.te, dt := x.tsBind, ns := c.ns, key := c.key, data := c.data, ingress := slotIngress x
    createCsn := (old.map (·.createCsn)).getD x.csn, placed := placedSize x.params.threshold c.key.length c.dataLen
    expiry := x.expiryDt, small := decide (c.dataLen < x.params.threshold) }

/-- The placed sizes of the records of a version. -/
def State.placedBytes (s : State) (v : Version) : Nat :=
  ((s.kv.records.filter (fun r => (versionRecords v).contains r.csn)).map (·.placed)).sum

/-- The recorded totals count a key twice that a put has counted as new (R206). -/
def State.countTwice (s : State) (c : Cmd) (old : Option Version) : State :=
  match old with
  | some v =>
    if s.countsAsNew c old then
      { s with kv := { s.kv with surplus :=
          ⟨c.ns, c.key.length + payloadBytes v.payload, s.placedBytes v⟩ :: s.kv.surplus } }
    else s
  | none => s

/-- A put takes effect (R25, R57, R359). -/
def State.applyPut (s : State) (x : Slot) (c : Cmd) (old : Option Version) : State × Reply :=
  let s1 := ((s.countTwice c old).addVersion (putVersion x c old) [putRecord x c old]).bumpSat Od.HOST_BYTES c.dataLen 64
  let s2 := if x.params.isSealed then s1.chainPut c.ns c.key c.data (slotStamp x) else s1
  (s2, { rflags := if old.isNone then 8 else 0, length := c.dataLen
         effect := some { type := 0x01, flags := if old.isNone then 2 else 0, digest := keyDigest c.ns c.key
                          argA := x.csn, argB := c.dataLen } })

/-- PUT, and CPUT with its condition (R57, R58, R164). -/
def putEffect (cond : Bool) (x : Slot) (c : Cmd) (s : State) : State × Reply :=
  let old := s.valueAt c.ns c.key x.csn x.bindClock
  let creates := old.isNone && (!cond || c.param 8 8 == 0)
  if old.any (fun v => payloadKind v.payload != 1) || (creates && !bitOf 0 x.params.kinds) then (s, .fail St.BAD_KIND)
  else if s.restricted x then (s, .fail St.RESTRICTED)
  else if old.any (fun v => s.heldAt x.csn v.stamp.csn) then (s, .fail St.HELD)
  else
    match condFails (if cond then some (c.param 8 8) else none) old with
    | some r => (s, r)
    | none =>
      if x.params.writeOnce && old.isSome then (s, .fail St.EXISTS)
      else
        match s.roomFor x c (s.countsAsNew c old) (byteGrowth c (if s.countsAsNew c old then none else old) c.dataLen) with
        | some f => s.refuseRoom c f
        | none => s.applyPut x c old

/-- PUT (R57). -/
def execPut (slot : Fin 512) (s : State) : Out := .next (s.runKv slot.val (isOp 0x01) (putEffect false))

/-- CPUT (R58). -/
def execCput (slot : Fin 512) (s : State) : Out := .next (s.runKv slot.val (isOp 0x02) (putEffect true))

/-- The bytes of a chunk's start within the data: a record's plaintext is the key followed by the data (R244). -/
def chunkStart (keyLen chunk : Nat) : Nat := 65536 * chunk - keyLen

/-- A read's data and trailer; a read that returns no data has no trailer (R159). (DESIGN CHOICE, log 28) -/
def dataReply (rparams data : Bytes) (rflags : Nat) : Reply :=
  { rflags := rflags, rparams := rparams, data := data, length := data.length
    trailer := if data.isEmpty then none else some (0, data.length) }

/-- A read of lost data: DONE announces the length, the trailer ends it after the `stands` leading bytes that stand (R91, R159,
R160). -/
def lostReply (rparams data : Bytes) (rflags stands : Nat) : Reply :=
  { rflags := rflags, rparams := rparams, data := data, trailer := some (St.MEDIA_UNREADABLE, stands) }

/-- The stripe that holds the record of CSN `csn`, when it lies on flash. -/
def State.stripeOf? (s : State) (csn : Nat) : Option Nat :=
  match s.kv.records.find? (fun r => r.csn == csn) with
  | some r => (match r.loc with | .flash i => some i | _ => none)
  | none => none

/-- Records that a read takes from flash are decrypted under their namespace's key (Table 10.2, R405). -/
def State.decryptFor (s : State) (ns : Nat) (csns : List Nat) : State :=
  if csns.any (fun k => (s.stripeOf? k).isSome) then s.useKey ns else s

/-- A GET finds its value (R28, R168): the reply, or the failure. -/
def getReply (x : Slot) (c : Cmd) (s : State) : State × Reply :=
  match s.valueAt c.ns c.key x.csn x.bindClock with
  | none => (s, .fail St.NOT_FOUND)
  | some v =>
    match v.payload with
    | .plain d =>
      let m := if c.wantMeta then s.metaBlock x.csn v else []
      let fl := if c.wantMeta then 16 else 0
      if s.lost v then (s.bumpSat Od.CNT_UNREADABLE, lostReply m d fl 0)
      else (s.decryptFor c.ns [v.stamp.csn], dataReply m d fl)
    | _ => (s, .fail St.BAD_KIND)

/-- A read meets a chunk whose tag fails: its buffer is zeroed and the parity rebuild begins (R391). -/
def State.chunkFails (s : State) (n chunk : Nat) : State :=
  (s.bump Od.CNT_CHUNK_TAG_FAIL).setSlot n { s.slot n with retry := some (.parity chunk) }

/-- The value that a GET would read from flash, when the chunk it is said to fail on is one of its own. -/
def State.getFailsOn (s : State) (n : Nat) (chunk : Option Nat) : Option Nat :=
  let x := s.slot n
  let c := parseCmd (assemble x.frags)
  if x.state = .executing ∧ x.retry = none ∧ c.opcode = 0x03 ∧ s.fencesSlot x = none ∧ s.gate x c = none then
    match chunk, s.valueAt c.ns c.key x.csn x.bindClock with
    | some k, some v =>
      (match v.payload with
        | .plain d => if (s.stripeOf? v.stamp.csn).isSome && (k == 0 || chunkStart c.key.length k < d.length) && !s.lost v then some k else none
        | _ => none)
    | _, _ => none
  else none

/-- GET (R28); `badChunk` names a chunk of a flash read whose tag fails (R391). -/
def execGet (slot : Fin 512) (badChunk : Option Nat) (s : State) : Out :=
  match s.getFailsOn slot.val badChunk with
  | some k => .next (s.chunkFails slot.val k)
  | none => .next (s.runKv slot.val (isOp 0x03) getReply)

/-- GETMETA works on every kind (R168). -/
def getmetaEffect (x : Slot) (c : Cmd) (s : State) : State × Reply :=
  match s.valueAt c.ns c.key x.csn x.bindClock with
  | none => (s, .fail St.NOT_FOUND)
  | some v =>
    if s.lost v then (s.bumpSat Od.CNT_UNREADABLE, .fail St.MEDIA_UNREADABLE)
    else (s, { rflags := 16, rparams := s.metaBlock x.csn v, length := payloadLength v.payload })

/-- GETMETA (R168). -/
def execGetmeta (slot : Fin 512) (s : State) : Out := .next (s.runKv slot.val (isOp 0x04) getmetaEffect)

/-- Extents of an object: its fragments with a byte still mapped. -/
def extentCount : Payload → Nat
  | .extent _ _ _ frags => frags.length
  | _ => 0

/-- A tombstone takes a key's place, and its index entry is removed (R95, R167, R281); the extents of an object are released by later
steps (Table 5.6). -/
def State.applyDelete (s : State) (x : Slot) (c : Cmd) (v : Version) : State × Reply :=
  let s1 := (s.addVersion { v with stamp := slotStamp x, payload := .tomb, expiry := none } []).unindex v.ns v.key
  let s2 := if extentCount v.payload = 0 then s1
    else s1.startRoutine (.release x.csn) x.csn (ceilDiv (extentCount v.payload) 16384)
  (s2, { effect := some { type := 0x02, digest := keyDigest c.ns c.key } })

/-- A writer handle is on an object, and a command with CSN `c` finds it open (R60, R92). -/
def Writer.openOn (w : Writer) (c : Nat) (v : Version) : Bool :=
  w.ns == v.ns && w.key == v.key && w.object == v.createCsn && within w.csn w.released c

/-- The writer handle that a command with CSN `c` finds open on an object (R60, R92). -/
def State.writerOf? (s : State) (c : Nat) (v : Version) : Option Writer := s.kv.writers.find? (fun w => w.openOn c v)

/-- DELETE, and CDELETE with its condition (R58, R60, R86, R167). -/
def deleteEffect (cond : Bool) (x : Slot) (c : Cmd) (s : State) : State × Reply :=
  let old := s.valueAt c.ns c.key x.csn x.bindClock
  if x.params.writeOnce && old.isSome then (s, .fail St.NOT_PERMITTED)
  else if s.restricted x then (s, .fail St.RESTRICTED)
  else if old.any (fun v => s.heldAt x.csn v.stamp.csn) then (s, .fail St.HELD)
  else
    match condFails (if cond then some (c.param 0 8) else none) old with
    | some r => (s, r)
    | none =>
      if old.any (fun v => (s.writerOf? x.csn v).isSome) then (s, .fail St.OBJECT_BUSY)
      else
        match old with
        | none => (s, .fail St.NOT_FOUND)
        | some v => s.applyDelete x c v

/-- DELETE (R167). -/
def execDelete (slot : Fin 512) (s : State) : Out := .next (s.runKv slot.val (isOp 0x05) (deleteEffect false))

/-- CDELETE (R167). -/
def execCdelete (slot : Fin 512) (s : State) : Out := .next (s.runKv slot.val (isOp 0x06) (deleteEffect true))

/-- The overflow mode that a command gives a new counter (R69, Table 4.2). -/
def newMode (x : Slot) (c : Cmd) : CtrMode :=
  let m := if c.ctrMode = 0 then x.params.counterMode + 1 else c.ctrMode
  if m = 1 then .wrap else if m = 2 then .saturate else .refuse

/-- The counter a command addresses: its value and mode; a new one holds 0 (R68). -/
def counterOf (x : Slot) (c : Cmd) (old : Option Version) : Int × CtrMode :=
  match old with
  | some v => (match v.payload with | .counter n m => (n, m) | _ => (0, .wrap))
  | none => (0, newMode x c)

/-- The representable values of a counter (R68). -/
def counterFits (i : Int) : Bool := decide (-(2 ^ 63 : Int) ≤ i) && decide (i < (2 ^ 63 : Int))

/-- CADD's sum by the counter's mode (R70, Table 2.4): the value stored and whether it saturated; none when refused. -/
def addByMode (m : CtrMode) (v d : Int) : Option (Int × Bool) :=
  if counterFits (v + d) then some (v + d, false)
  else match m with
    | .wrap => some (signed 64 (unsigned 64 (v + d)), false)
    | .saturate => some (if 0 ≤ v + d then (2 ^ 63 - 1 : Int) else -(2 ^ 63 : Int), true)
    | .refuse => none

/-- VALUE and PRIOR of a counter's response (R177). -/
def counterParams (value prior : Int) : Bytes := toBE 8 (unsigned 64 value) ++ toBE 8 (unsigned 64 prior)

/-- A counter takes a new value (R72, R177): an existing one keeps its mode, expiry and ingress time (R56, R81). -/
def State.applyCounter (s : State) (x : Slot) (c : Cmd) (old : Option Version) (mode : CtrMode) (prior value shown : Int)
    (saturated : Bool) : State × Reply :=
  let v : Version :=
    match old with
    | some v => { v with stamp := slotStamp x, payload := .counter value mode }
    | none => { ns := c.ns, key := c.key, stamp := slotStamp x, createCsn := x.csn, ingress := slotIngress x
                expiry := x.expiryDt, payload := .counter value mode }
  let rec1 : Record := { csn := x.csn, te := x.te, dt := x.tsBind, ns := c.ns, rtype := 3, key := c.key
                         data := toBE 8 (unsigned 64 value), ingress := v.ingress, createCsn := v.createCsn
                         placed := placedSize x.params.threshold c.key.length 8, expiry := v.expiry, small := true }
  (s.addVersion v [rec1],
    { rflags := (if saturated then 1 else 0) + (if old.isNone then 8 else 0), rparams := counterParams shown prior
      result0 := unsigned 64 shown, result1 := unsigned 64 prior, length := 8
      effect := some { type := 0x05, flags := (if old.isNone then 2 else 0) + (if saturated then 4 else 0)
                       digest := keyDigest c.ns c.key, argA := unsigned 64 prior, argB := unsigned 64 value } })

/-- CADD, CBADD and CSET: `f` gives the value stored from mode and value, none for COUNTER_BOUND (R164, R178). A counter lost
beyond parity has no value to work on or to return as PRIOR (R91). (DESIGN CHOICE, log 28) -/
def counterEffect (f : CtrMode → Int → Option (Int × Bool)) (x : Slot) (c : Cmd) (s : State) : State × Reply :=
  let old := s.valueAt c.ns c.key x.csn x.bindClock
  if old.any (fun v => payloadKind v.payload != 3) || (old.isNone && !bitOf 2 x.params.kinds) then (s, .fail St.BAD_KIND)
  else if s.restricted x then (s, .fail St.RESTRICTED)
  else if old.any (fun v => s.heldAt x.csn v.stamp.csn) then (s, .fail St.HELD)
  else if old.any s.lost then (s.bumpSat Od.CNT_UNREADABLE, .fail St.MEDIA_UNREADABLE)
  else
    match f (counterOf x c old).2 (counterOf x c old).1 with
    | none => (s, .fail St.COUNTER_BOUND (counterParams (counterOf x c old).1 (counterOf x c old).1))
    | some r =>
      match s.roomFor x c old.isNone (byteGrowth c old 8) with
      | some g => s.refuseRoom c g
      | none => s.applyCounter x c old (counterOf x c old).2 (counterOf x c old).1 r.1 r.1 r.2

/-- CADD (R70). -/
def execCadd (slot : Fin 512) (s : State) : Out :=
  .next (s.runKv slot.val (isOp 0x20) (fun x c t => counterEffect (fun m v => addByMode m v (c.paramInt 8)) x c t))

/-- CBADD's sum within LO and HI (R71). -/
def boundedAdd (d lo hi v : Int) : Option (Int × Bool) := if lo ≤ v + d ∧ v + d ≤ hi then some (v + d, false) else none

/-- CBADD (R71). -/
def execCbadd (slot : Fin 512) (s : State) : Out :=
  .next (s.runKv slot.val (isOp 0x21) (fun x c t =>
    counterEffect (fun _ v => boundedAdd (c.paramInt 8) (c.paramInt 16) (c.paramInt 24) v) x c t))

/-- CSET (R72). -/
def execCset (slot : Fin 512) (s : State) : Out :=
  .next (s.runKv slot.val (isOp 0x24) (fun x c t => counterEffect (fun _ _ => some (c.paramInt 8, false)) x c t))

/-- CREAD returns VALUE equal to PRIOR (R68, R72, R177). -/
def creadEffect (x : Slot) (c : Cmd) (s : State) : State × Reply :=
  match s.valueAt c.ns c.key x.csn x.bindClock with
  | none => (s, .fail St.NOT_FOUND)
  | some v =>
    match v.payload with
    | .counter n _ =>
      if s.lost v then (s.bumpSat Od.CNT_UNREADABLE, .fail St.MEDIA_UNREADABLE)
      else (s, { rparams := counterParams n n, result0 := unsigned 64 n, result1 := unsigned 64 n, length := 8 })
    | _ => (s, .fail St.BAD_KIND)

/-- CREAD (R72). -/
def execCread (slot : Fin 512) (s : State) : Out := .next (s.runKv slot.val (isOp 0x22) creadEffect)

/-- CREADRESET returns the value read and stores 0 (R68, R72, R177). -/
def creadresetEffect (x : Slot) (c : Cmd) (s : State) : State × Reply :=
  match s.valueAt c.ns c.key x.csn x.bindClock with
  | none => if s.restricted x then (s, .fail St.RESTRICTED) else (s, .fail St.NOT_FOUND)
  | some v =>
    match v.payload with
    | .counter n m =>
      if s.restricted x then (s, .fail St.RESTRICTED)
      else if s.heldAt x.csn v.stamp.csn then (s, .fail St.HELD)
      else if s.lost v then (s.bumpSat Od.CNT_UNREADABLE, .fail St.MEDIA_UNREADABLE)
      else
        match s.roomFor x c false 0 with
        | some g => s.refuseRoom c g
        | none => s.applyCounter x c (some v) m n 0 0 false
    | _ => (s, .fail St.BAD_KIND)

/-- CREADRESET (R72). -/
def execCreadreset (slot : Fin 512) (s : State) : Out := .next (s.runKv slot.val (isOp 0x23) creadresetEffect)

end Sys2Proof.Machine
end

