-- ==== Sys2Proof/Machine/KvExtents.lean ====
section
/-! DEFINITION. Meanings of the commands on extent objects (R60 to R67, R86, R173 to R176). -/

namespace Sys2Proof.Machine

/-- The cells, length, closed mark and fragments of an extent object. -/
structure Extent where
  cells  : List ExtCell := []
  length : Nat := 0
  closed : Option Nat := none
  frags  : List Frag := []
deriving DecidableEq, Repr

/-- The extent object of a version. -/
def Version.extent? (v : Version) : Option Extent :=
  match v.payload with
  | .extent cells len cl fr => some ⟨cells, len, cl, fr⟩
  | _ => none

/-- An extent object as a payload; fragments with no byte mapped are gone (R242). -/
def Extent.payload (e : Extent) : Payload :=
  .extent e.cells e.length e.closed (e.frags.filter (fun f => e.cells.any (fun c => c.frag == f.csn)))

/-- Bytes laid at an address, as cells of one fragment. -/
def cellsFrom (frag : Nat) : Nat → Bytes → List ExtCell
  | _, [] => []
  | a, b :: bs => ⟨a, b, frag⟩ :: cellsFrom frag (a + 1) bs

/-- Cells outside a range. -/
def cutCells (cells : List ExtCell) (off len : Nat) : List ExtCell :=
  cells.filter (fun c => c.addr < off || off + len ≤ c.addr)

/-- Bytes written over a range: each byte holds the data of the latest command (R65). Cells stay in address order. -/
def writeCells (cells : List ExtCell) (frag off : Nat) (bs : Bytes) : List ExtCell :=
  cells.filter (fun c => c.addr < off) ++ cellsFrom frag off bs ++ cells.filter (fun c => off + bs.length ≤ c.addr)

/-- The byte of an object at an address: zero where nothing is mapped (R66). -/
def cellByte (cells : List ExtCell) (a : Nat) : Byte := ((cells.find? (fun c => c.addr == a)).map (·.byte)).getD 0

/-- `n` bytes of an object from an address. -/
def readCells (cells : List ExtCell) : Nat → Nat → Bytes
  | _, 0 => []
  | a, n + 1 => cellByte cells a :: readCells cells (a + 1) n

/-- The runs of consecutive cells of one fragment: the extents of the map (R264). -/
def extentRuns : List ExtCell → Nat
  | [] => 0
  | [_] => 1
  | a :: b :: l => (if a.addr + 1 = b.addr ∧ a.frag = b.frag then 0 else 1) + extentRuns (b :: l)

/-- The command carries the handle that its session holds for the object (R174). -/
def State.holdsHandle (s : State) (x : Slot) (c : Cmd) (v : Version) : Bool :=
  match s.writerOf? x.csn v with
  | some w => w.session == x.session && w.handle == c.param 0 4
  | none => false

/-- HANDLE and LENGTH of an XOPEN's response. -/
def openParams (handle length : Nat) : Bytes := toBE 4 handle ++ [0, 0, 0, 0] ++ toBE 8 length

/-- XOPEN MODE 0 returns the length and takes no handle (R173). -/
def xopenReadEffect (x : Slot) (c : Cmd) (s : State) : State × Reply :=
  match s.valueAt c.ns c.key x.csn x.bindClock with
  | none => (s, .fail St.NOT_FOUND)
  | some v =>
    match v.extent? with
    | none => (s, .fail St.BAD_KIND)
    | some e => (s, { rparams := openParams 0 e.length, result1 := e.length, length := e.length })

/-- XOPEN with a MODE other than 1: MODE 0, and the modes that are MALFORMED (R173). (DEDUCED, log 7) -/
def execXopenRead (slot : Fin 512) (s : State) : Out :=
  .next (s.runKv slot.val (fun c => c.opcode == 0x10 && c.param 0 1 != 1) xopenReadEffect)

/-- A new writer handle for the calling session on the object created under a CSN (R60): not 0 (R173), otherwise free. The
handle of a session that has ended is released with it (R61). -/
def State.newWriter (s : State) (x : Slot) (c : Cmd) (object : Nat) : State × Nat :=
  let h := (Config.handlePred s.draws).val + 1
  let w : Writer := { session := x.session, ns := c.ns, key := c.key, handle := h, object := object, csn := x.csn
                      released := if s.sessionLives x then none else some x.csn }
  let s1 : State := { s with kv := { s.kv with writers := s.kv.writers ++ [w] } }
  (s1.draw, h)

/-- XOPEN MODE 1 (R60, R86, R173, R176). -/
def xopenWriteEffect (x : Slot) (c : Cmd) (s : State) : State × Reply :=
  match s.valueAt c.ns c.key x.csn x.bindClock with
  | some v =>
    match v.extent? with
    | none => (s, .fail St.BAD_KIND)
    | some e =>
      if s.heldAt x.csn v.stamp.csn then (s, .fail St.HELD)
      else if e.closed.isSome then (s, .fail St.EXISTS)
      else
        match s.writerOf? x.csn v with
        | some w =>
          if w.session = x.session then
            (s, { rparams := openParams w.handle e.length, result0 := w.handle, result1 := e.length, length := e.length })
          else (s, .fail St.OBJECT_BUSY)
        | none =>
          if s.val Od.HEALTH_STATE = 6 then (s, .fail St.NO_SPACE)
          else
            let o := s.newWriter x c v.createCsn
            (o.1, { rparams := openParams o.2 e.length, result0 := o.2, result1 := e.length, length := e.length })
  | none =>
    if !bitOf 1 x.params.kinds then (s, .fail St.BAD_KIND)
    else if s.restricted x then (s, .fail St.RESTRICTED)
    else
      match s.roomFor x c true c.key.length with
      | some g => s.refuseRoom c g
      | none =>
        let v : Version := { ns := c.ns, key := c.key, stamp := slotStamp x, createCsn := x.csn, ingress := slotIngress x
                             expiry := x.expiryDt, payload := Extent.payload {} }
        let o := (s.addVersion v []).newWriter x c x.csn
        (o.1, { rflags := 8, rparams := openParams o.2 0, result0 := o.2
                effect := some { type := 0x03, flags := 2, digest := keyDigest c.ns c.key } })

/-- XOPEN MODE 1 (R60). -/
def execXopenWrite (slot : Fin 512) (s : State) : Out :=
  .next (s.runKv slot.val (fun c => c.opcode == 0x10 && c.param 0 1 == 1) xopenWriteEffect)

/-- The fragment record of an XWRITE or XAPPEND (R243, R245). -/
def fragRecord (x : Slot) (c : Cmd) (v : Version) (off : Nat) : Record :=
  { csn := x.csn, te := x.te, dt := x.tsBind, ns := c.ns, rtype := 2, key := c.key, data := c.data, ingress := slotIngress x
    createCsn := v.createCsn, objOffset := off, placed := placedSize x.params.threshold 0 c.dataLen
    expiry := v.expiry, small := decide (c.dataLen < x.params.threshold) }

/-- Bytes are written into an object (R63, R64, R65). -/
def State.applyWrite (s : State) (x : Slot) (c : Cmd) (v : Version) (e : Extent) (off : Nat) (rparams : Nat → Bytes) :
    State × Reply :=
  let r := fragRecord x c v off
  let len := max e.length (off + c.data.length)
  let e' : Extent := { e with cells := writeCells e.cells x.csn off c.data, length := len
                              frags := e.frags ++ [⟨x.csn, x.te, x.tsBind, c.dataLen, r.placed⟩] }
  ((s.addVersion { v with stamp := slotStamp x, payload := e'.payload } [r]).bumpSat Od.HOST_BYTES c.dataLen 64,
    { rparams := rparams len, result0 := off, result1 := len, length := len
      effect := some { type := 0x03, digest := keyDigest c.ns c.key, argA := off, argB := c.dataLen } })

/-- XWRITE at an offset and XAPPEND at the length (R64, R86, R164, R174, R264). -/
def writeEffect (append : Bool) (x : Slot) (c : Cmd) (s : State) : State × Reply :=
  match s.valueAt c.ns c.key x.csn x.bindClock with
  | none => if s.restricted x then (s, .fail St.RESTRICTED) else (s, .fail St.OBJECT_BUSY)
  | some v =>
    match v.extent? with
    | none => (s, .fail St.BAD_KIND)
    | some e =>
      let off := if append then e.length else c.param 8 8
      let old := (e.cells.filter (fun k => off ≤ k.addr && k.addr < off + c.dataLen)).length
      let cells := writeCells e.cells x.csn off c.data
      if s.restricted x then (s, .fail St.RESTRICTED)
      else if s.heldAt x.csn v.stamp.csn then (s, .fail St.HELD)
      else if x.params.writeOnce && old != 0 then (s, .fail St.EXISTS)
      else if !s.holdsHandle x c v then (s, .fail St.OBJECT_BUSY)
      else
        match s.roomFor x c false ((c.dataLen : Int) - old) with
        | some g => s.refuseRoom c g
        | none =>
          if 1048576 < cells.length ∧ 1048576 < extentRuns cells then (s.perf 92 1, .fail St.NO_SPACE)
          else s.applyWrite x c v e off (fun len => if append then toBE 8 off ++ toBE 8 len else toBE 8 len)

/-- XWRITE (R64). -/
def execXwrite (slot : Fin 512) (s : State) : Out := .next (s.runKv slot.val (isOp 0x11) (writeEffect false))

/-- XAPPEND (R64). -/
def execXappend (slot : Fin 512) (s : State) : Out := .next (s.runKv slot.val (isOp 0x12) (writeEffect true))

/-- The bytes of an XREAD: those of its range that lie below the length (R67). -/
def xreadBytes (e : Extent) (off len : Nat) : Bytes := readCells e.cells off (min len (e.length - off))

/-- The record of a fragment is lost beyond parity (R91). -/
def State.fragLost (s : State) (csn : Nat) : Bool := s.kv.records.any (fun r => r.loc == .lost && r.csn == csn)

/-- XREAD (R62, R67). Where a fragment of the range is lost, the bytes before its first one stand (R159). -/
def xreadEffect (x : Slot) (c : Cmd) (s : State) : State × Reply :=
  match s.valueAt c.ns c.key x.csn x.bindClock with
  | none => (s, .fail St.NOT_FOUND)
  | some v =>
    match v.extent? with
    | none => (s, .fail St.BAD_KIND)
    | some e =>
      let m := if c.wantMeta then s.metaBlock x.csn v else []
      let fl := if c.wantMeta then 16 else 0
      let d := xreadBytes e (c.param 0 8) (c.param 8 8)
      match e.cells.find? (fun k => c.param 0 8 ≤ k.addr && k.addr < c.param 0 8 + d.length && s.fragLost k.frag) with
      | some k => (s.bumpSat Od.CNT_UNREADABLE, lostReply m d fl (k.addr - c.param 0 8))
      | none => (s.decryptFor c.ns (e.frags.map (·.csn)), dataReply m d fl)

/-- The data position of a byte of a flash fragment that an XREAD covers and whose chunk is said to fail. -/
def State.xreadFailsOn (s : State) (n : Nat) (byte : Option Nat) : Option Nat :=
  let x := s.slot n
  let c := parseCmd (assemble x.frags)
  if x.state = .executing ∧ x.retry = none ∧ c.opcode = 0x13 ∧ s.fencesSlot x = none ∧ s.gate x c = none then
    match byte, (s.valueAt c.ns c.key x.csn x.bindClock).bind Version.extent? with
    | some k, some e =>
      let a := c.param 0 8 + k
      if k < (xreadBytes e (c.param 0 8) (c.param 8 8)).length &&
          e.cells.any (fun z => z.addr == a && (s.stripeOf? z.frag).isSome) then some k else none
    | _, _ => none
  else none

/-- XREAD (R67); `badByte` names the first byte of the range that lies in the chunk whose tag fails (R391). -/
def execXread (slot : Fin 512) (badByte : Option Nat) (s : State) : Out :=
  match s.xreadFailsOn slot.val badByte with
  | some k => .next (s.chunkFails slot.val k)
  | none => .next (s.runKv slot.val (isOp 0x13) xreadEffect)

/-- A range of an object is discarded by a range tombstone (R66, R95); its extents are released by later steps. -/
def State.applyDiscard (s : State) (x : Slot) (c : Cmd) (v : Version) (e : Extent) (off len : Nat) : State × Reply :=
  let gone := e.frags.length - (e.frags.filter (fun f => e.cells.any (fun k => k.frag == f.csn))).length
  let s1 := s.addVersion { v with stamp := slotStamp x, payload := e.payload } []
  (if gone = 0 then s1 else s1.startRoutine (.release x.csn) x.csn (ceilDiv gone 16384),
    { length := e.length, effect := some { type := 0x04, digest := keyDigest c.ns c.key, argA := off, argB := len } })

/-- The checks that XPUNCH, TRUNCATE and XCLOSE share; then the command's own effect on the object. A handle on an object that
has expired stays open until its session ends, and the object that a later XOPEN creates under the key is another one; on the
absent key these commands complete with OBJECT_BUSY. (DESIGN CHOICE, log 28) -/
def onObject (x : Slot) (c : Cmd) (s : State) (changes : Bool) (f : Version → Extent → State × Reply) : State × Reply :=
  match s.valueAt c.ns c.key x.csn x.bindClock with
  | none => if changes && s.restricted x then (s, .fail St.RESTRICTED) else (s, .fail St.OBJECT_BUSY)
  | some v =>
    match v.extent? with
    | none => (s, .fail St.BAD_KIND)
    | some e =>
      if changes && x.params.writeOnce then (s, .fail St.NOT_PERMITTED)
      else if changes && s.restricted x then (s, .fail St.RESTRICTED)
      else if changes && s.heldAt x.csn v.stamp.csn then (s, .fail St.HELD)
      else if !s.holdsHandle x c v then (s, .fail St.OBJECT_BUSY)
      else f v e

/-- XPUNCH makes its range read as zeros; a LENGTH of 0 changes nothing (R66, R175). -/
def xpunchEffect (x : Slot) (c : Cmd) (s : State) : State × Reply :=
  onObject x c s true (fun v e =>
    if c.param 16 8 = 0 then (s, { length := e.length })
    else s.applyDiscard x c v { e with cells := cutCells e.cells (c.param 8 8) (c.param 16 8) } (c.param 8 8) (c.param 16 8))

/-- XPUNCH (R66). -/
def execXpunch (slot : Fin 512) (s : State) : Out := .next (s.runKv slot.val (isOp 0x14) xpunchEffect)

/-- TRUNCATE sets the length and discards every byte at or beyond it (R63, R66, R175). -/
def truncateEffect (x : Slot) (c : Cmd) (s : State) : State × Reply :=
  onObject x c s true (fun v e =>
    let l := c.param 8 8
    if l = e.length then (s, { length := e.length })
    else s.applyDiscard x c v { e with cells := e.cells.filter (fun k => k.addr < l), length := l } l (2 ^ 36 - l))

/-- TRUNCATE (R66). -/
def execTruncate (slot : Fin 512) (s : State) : Out := .next (s.runKv slot.val (isOp 0x16) truncateEffect)

/-- A version's payload changed in place, its stamp kept. -/
def State.setPayload (s : State) (v : Version) (p : Payload) : State :=
  { s with kv := { s.kv with versions := s.kv.versions.map (fun w =>
      if w.ns == v.ns && w.key == v.key && w.stamp.csn == v.stamp.csn then { w with payload := p } else w) } }

/-- XCLOSE releases the handle, and in a write-once namespace marks the object closed (R176). (DESIGN CHOICE, log 28) -/
def xcloseEffect (x : Slot) (c : Cmd) (s : State) : State × Reply :=
  onObject x c s false (fun v e =>
    let s1 := { s with kv := { s.kv with writers := s.kv.writers.map (fun w =>
      if w.openOn x.csn v then { w with released := some x.csn } else w) } }
    if x.params.writeOnce then
      (s1.setPayload v (Extent.payload { e with closed := some x.csn }),
        { rparams := toBE 8 e.length, length := e.length
          effect := some { type := 0x03, digest := keyDigest c.ns c.key, argA := e.length } })
    else (s1, { rparams := toBE 8 e.length, length := e.length }))

/-- XCLOSE (R176). -/
def execXclose (slot : Fin 512) (s : State) : Out := .next (s.runKv slot.val (isOp 0x15) xcloseEffect)

end Sys2Proof.Machine
end

