-- ==== Sys2Proof/Machine/KvSystem.lean ====
section
/-! DEFINITION. Meanings of HOLD and UNHOLD, LIST in a user namespace, SEAL_READ, NOTICE_SUBSCRIBE, BARRIER, FLUSH,
FENCE_CLEAR and PING (R82 to R85, R169 to R191). LIST's row stands in OdRows.lean with namespace 0. -/

namespace Sys2Proof.Machine

/-- Unsigned byte-wise order of keys; a prefix comes first (R53). -/
def keyLt : Bytes → Bytes → Bool
  | [], [] => false
  | [], _ :: _ => true
  | _ :: _, [] => false
  | a :: as, b :: bs => if a.toNat < b.toNat then true else if a = b then keyLt as bs else false

/-- A version put in key order. -/
def insertByKey (v : Version) : List Version → List Version
  | [] => [v]
  | w :: l => if keyLt v.key w.key then v :: w :: l else w :: insertByKey v l

/-- The bounds of a LIST: MODE 0 a prefix, MODE 1 from KEY to the end key (R169). -/
def inBounds (mode : Nat) (lower upper key : Bytes) : Bool :=
  if mode = 0 then lower.isPrefixOf key else !keyLt key lower && (upper.isEmpty || keyLt key upper)

/-- The live values of a namespace at a CSN, within bounds and after a key, in key order (R169, R171). -/
def State.listed (s : State) (ns c clock mode : Nat) (lower upper : Bytes) (after : Option Bytes) : List Version :=
  ((s.kv.versions.filter (fun v =>
      v.ns == ns && inBounds mode lower upper v.key
        && (match after with | none => true | some k => keyLt k v.key)
        && s.valueAt ns v.key c clock == some v)).foldl (fun l v => insertByKey v l) [])

/-- A LIST entry (Table 4.9). -/
def listEntry (key : Bytes) (kind csn len : Nat) : Bytes :=
  toBE 1 key.length ++ toBE 1 kind ++ [0, 0, 0, 0, 0, 0] ++ toBE 8 csn ++ toBE 8 len ++ key

/-- CURSOR and COUNT of a LIST response. -/
def listParams (cursor count : Nat) : Bytes := toBE 8 cursor ++ toBE 4 count ++ [0, 0, 0, 0]

/-- A page of keys is answered, and the cursor is kept or released; that of a session that has ended is released with it
(R171, R172). -/
def State.listPage (s : State) (x : Slot) (c : Cmd) (old : Option Cursor) (keys : List (Bytes × Bytes)) : State × Reply :=
  let n := c.param 4 4
  let page := keys.take n
  let data := page.flatMap (·.2)
  let others := s.kv.cursors.filter (fun k => !(some k == old))
  if keys.length ≤ n then
    ({ s with kv := { s.kv with cursors := others } },
      { rparams := listParams 0 page.length, data := data, length := data.length, result1 := page.length })
  else
    let last := ((page.getLast?).map (·.1)).getD []
    match old with
    | some k =>
      ({ s with kv := { s.kv with cursors := others ++ [{ k with last := last }] } },
        { rflags := 4, rparams := listParams k.ident page.length, data := data, result0 := k.ident, result1 := page.length
          length := data.length })
    | none =>
      if 16 ≤ (s.kv.cursors.filter (fun k => k.session == x.session)).length ∨ 65536 ≤ s.kv.cursors.length then
        (s, .fail St.NO_CONTEXT)
      else
        let i := (Config.cursorPred s.draws).val + 1
        let k : Cursor := { ident := i, session := x.session, ns := c.ns, mode := c.param 0 1, lower := c.key, upper := c.data
                            last := last }
        let s1 : State := { s with kv := { s.kv with cursors := if s.sessionLives x then s.kv.cursors ++ [k] else s.kv.cursors } }
        (s1.draw, { rflags := 4, rparams := listParams i page.length, data := data, result0 := i, result1 := page.length
                    length := data.length })

/-- The cursor that a LIST names: its own session's, with the same MODE and bounds (R172). -/
def State.cursorOf? (s : State) (x : Slot) (c : Cmd) : Option Cursor :=
  s.kv.cursors.find? (fun k => k.session == x.session && k.ns == c.ns && k.mode == c.param 0 1 && k.lower == c.key
    && k.upper == c.data && k.ident == c.param 8 8)

/-- LIST over pairs of key and entry that `f` gives after a position (R169 to R172). -/
def State.listWith (s : State) (x : Slot) (c : Cmd) (f : Option Bytes → List (Bytes × Bytes)) : State × Reply :=
  if c.param 8 8 = 0 then s.listPage x c none (f none)
  else
    match s.cursorOf? x c with
    | none => (s, .fail St.NOT_FOUND)
    | some k => s.listPage x c (some k) (f (some k.last))

/-- The keys of a user namespace after a position that a LIST finds, each with its entry (R169, Table 4.9). -/
def State.userEntries (s : State) (x : Slot) (c : Cmd) (after : Option Bytes) : List (Bytes × Bytes) :=
  (s.listed c.ns x.csn x.bindClock (c.param 0 1) c.key c.data after).map (fun v =>
    (v.key, listEntry v.key (payloadKind v.payload) v.stamp.csn (payloadLength v.payload)))

/-- The values that a HOLD names (R82, R179). -/
def State.heldBy (s : State) (x : Slot) (c : Cmd) : List Version :=
  (s.kv.versions.filter (fun v => v.ns == c.ns && s.valueAt c.ns v.key x.csn x.bindClock == some v)).filter (fun v =>
    match c.param 0 1 with
    | 0 => v.key == c.key
    | 1 => c.key.isPrefixOf v.key
    | _ => decide (c.param 8 8 ≤ v.stamp.dt) && decide (v.stamp.dt ≤ c.param 16 8))

/-- A hold is placed under the CSN of the command that placed it (R180). -/
def State.placeHold (s : State) (csn : Nat) (covers pinned : List Nat) (counted : Nat) : State :=
  { s with kv := { s.kv with holds := s.kv.holds ++ [{ csn := csn, covers := covers, pinned := pinned, counted := counted }] } }

/-- The reply of a HOLD that pinned `n` values. -/
def holdReply (n : Nat) : Reply := { rparams := toBE 8 n, result1 := n }

/-- The journal record of a hold that is placed (Table 5.5). -/
def holdRecord (csn n : Nat) : JRec := { type := 0x06, argA := csn, argB := n }

/-- HOLD MODE 0, and a HOLD that is refused (R82, R85, R179). (DESIGN CHOICE, log 28) -/
def holdEffect (x : Slot) (c : Cmd) (s : State) : State × Reply :=
  if 4096 ≤ s.activeHolds.length then (s, .fail St.NO_CONTEXT)
  else
    let vs := s.heldBy x c
    (s.placeHold x.csn [c.ns] (vs.map (·.stamp.csn)) vs.length, { holdReply vs.length with effect := some (holdRecord x.csn vs.length) })

/-- A HOLD of MODE 1 or 2 publishes its hold; its scan steps follow (Table 5.6). -/
def State.holdPublishes (s : State) (n : Nat) : Bool :=
  let x := s.slot n
  let c := parseCmd (assemble x.frags)
  x.state == .executing && x.retry == none && x.routine == none && c.opcode == 0x30 && c.param 0 1 != 0
    && (s.fencesSlot x).isNone && (s.gate x c).isNone && decide (s.activeHolds.length < 4096)

/-- The defined namespaces whose NS_INCIDENT is TRUE (R255). -/
def State.incidentNs (s : State) (ns : Nat) : Bool :=
  s.odGet ns Od.NS_STATE 0 == 1 && s.odGet ns Od.NS_INCIDENT 0 == 1

/-- The values that the INCIDENT hold of a slot pins: of an assertion the window before it, of the second hold the window after
it (R82, R255, R256). -/
def State.incidentPins (s : State) (x : Slot) (h : IncidentHold) : List Version :=
  let lo := if h.toDt.isSome then h.dt else h.dt - h.window * 1000000000
  let hi := h.toDt.getD h.dt
  s.kv.versions.filter (fun v => h.covers.contains v.ns && decide (lo ≤ v.stamp.dt) && decide (v.stamp.dt ≤ hi)
    && s.valueAt v.ns v.key x.csn x.bindClock == some v)

/-- An INCIDENT hold as it is bound: the namespaces that it covers and its window stand from then on (R46). -/
def State.incidentBound (s : State) (h : IncidentHold) : IncidentHold :=
  { h with covers := (List.range 4096).filter s.incidentNs, window := s.val Od.INCIDENT_WINDOW }

/-- An INCIDENT hold is bound in slot 447 (R255). (DESIGN CHOICE, log 33) -/
def State.bindIncident (s : State) (h : IncidentHold) : State :=
  let s1 := s.takeCsn
  (s1.setSlot 447 { state := .bound, origin := 6, csn := s1.seq.csnLast, tsBind := s.clock.dt, te := s.clock.te
                    bindClock := s.clock.expiry, incident := some (s.incidentBound h) }).perf 0 1

/-- INCIDENT_REARM has not passed at a tick of CLK_TIME since the last assertion that placed a hold (R257). -/
def State.rearmingAt (s : State) (tick : Nat) : Bool :=
  match s.power.rearmSince with
  | none => false
  | some t => decide (tick * 8 < t * 8 + s.val Od.INCIDENT_REARM * 1000000000)

/-- The first of the waiting INCIDENT holds that INCIDENT_REARM does not shut out is bound; those shut out are ignored (R257). -/
def State.bindWaiting (s : State) : List IncidentHold → State
  | [] => { s with power := { s.power with incidentLatched := [] } }
  | h :: hs =>
    if h.toDt.isNone && s.rearmingAt h.tick then (s.bump Od.INCIDENT_IGNORED).bindWaiting hs
    else { s with power := { s.power with incidentLatched := hs } }.bindIncident h

/-- The next waiting INCIDENT hold is bound when slot 447 is FREE. (DESIGN CHOICE, log 33) -/
def State.nextIncident (s : State) : State :=
  if (s.slot 447).state = .free ∧ s.power.incidentLatched ≠ [] then s.bindWaiting s.power.incidentLatched else s

/-- Second holds after one that an assertion has placed (R256). -/
def State.secondAfter (s : State) (h : IncidentHold) : List IncidentHold :=
  if s.val Od.INCIDENT_AFTER = 0 then s.power.afterDue
  else s.power.afterDue ++ [{ h with toDt := some (h.dt + s.val Od.INCIDENT_AFTER * 1000000000) }]

/-- The INCIDENT hold of slot 447 is placed, or refused at 4,096 holds (R85, R255 to R257). Before the directory is
loaded its scan goes on in the slot (R206). The second hold of R256 is counted from what the assertion found. -/
def State.placeIncident (s : State) (n : Nat) (h : IncidentHold) : State :=
  let x := s.slot n
  let s0 := match x.ope with | some e => s.leaveEngine e 0x30 | none => s
  if 4096 ≤ s.activeHolds.length then ((s0.freeSlot n).raise Ev.HOLD_REFUSED [s.activeHolds.length]).nextIncident
  else
    let pins := (s.incidentPins x h).map (·.stamp.csn)
    let s1 := ((s0.placeHold x.csn h.covers pins 0).journal
      { type := 0x06, csn := x.csn, dt := x.tsBind, te := x.te, argA := x.csn, argB := pins.length })
    let s2 := ((s1.setVal Od.INCIDENT_LAST_CSN x.csn).bump Od.INCIDENT_COUNT).raise Ev.INCIDENT_HOLD
      [x.csn / 2 ^ 32, x.csn, h.window]
    let s3 := if h.toDt.isSome then s2 else
      { s2 with power := { s2.power with rearmSince := some h.tick, afterDue := s.secondAfter h } }
    s3.setSlot n { x with state := .executing, ope := none, incident := none, routine := some (.holdScan x.csn), tsPublish := s.clock.dt }

/-- HOLD (R179); in slot 447 the hold of an INCIDENT assertion (R255). -/
def execHold (slot : Fin 512) (s : State) : Out :=
  if (s.slot slot.val).state = .executing ∧ (s.slot slot.val).incident.isSome then
    match (s.slot slot.val).incident with
    | some h => .next (s.placeIncident slot.val h)
    | none => .next s
  else if s.holdPublishes slot.val then
    let x := s.slot slot.val
    let c := parseCmd (assemble x.frags)
    let pins := (s.heldBy x c).map (·.stamp.csn)
    .next (((s.placeHold x.csn [c.ns] pins 0).journal (jrecOf x c (holdRecord x.csn pins.length) 0)).setSlot slot.val
      { x with routine := some (.holdScan x.csn), tsPublish := s.clock.dt })
  else if (s.slot slot.val).routine = none then .next (s.runKv slot.val (isOp 0x30) holdEffect)
  else .next s

/-- UNHOLD (R84, R181): a NAMESPACE that the hold does not cover is NOT_FOUND before the access lists of the namespaces that it
does cover are asked. (DESIGN CHOICE, log 28) -/
def unholdEffect (x : Slot) (c : Cmd) (s : State) : State × Reply :=
  match s.activeHolds.find? (fun h => h.csn == c.param 0 8) with
  | none => (s, .fail St.NOT_FOUND)
  | some h =>
    if !h.covers.contains c.ns then (s, .fail St.NOT_FOUND)
    else if h.covers.any (fun ns => !s.holdGranted x ns) then (s, .fail St.NOT_PERMITTED)
    else
      ({ s with kv := { s.kv with holds := s.kv.holds.map (fun k =>
          if k.csn == h.csn then { k with released := some x.csn } else k) } },
        { effect := some { type := 0x07, argA := h.csn, argB := h.pinned.length } })

/-- UNHOLD (R181). -/
def execUnhold (slot : Fin 512) (s : State) : Out := .next (s.runKv slot.val (isOp 0x31) unholdEffect)

/-- SEAL_READ returns signed seals in sequence order (R183, R362). -/
def sealReadEffect (x : Slot) (c : Cmd) (s : State) : State × Reply :=
  let from_ := c.param 0 8
  let page := (((s.chain c.ns).seals.filter (fun y => y.signature.isSome && from_ ≤ y.seqNo)).take (c.param 8 4))
  if !x.params.isSealed || page.isEmpty then (s, .fail St.NOT_FOUND)
  else
    let data := page.flatMap sealBytes
    (s, { rparams := toBE 8 (from_ + page.length) ++ toBE 4 page.length ++ [0, 0, 0, 0], data := data
          result0 := from_ + page.length, result1 := page.length, length := data.length })

/-- SEAL_READ (R183). -/
def execSealRead (slot : Fin 512) (s : State) : Out := .next (s.runKv slot.val (isOp 0x40) sealReadEffect)

/-- The contexts that hold a subscription (R184). -/
def State.subscribers (s : State) : List Nat := (s.wkp.sessions.filter (fun p => p.2.noticeMask != 0)).map (·.1)

/-- NOTICE_SUBSCRIBE replaces the session's subscription, while the session lives (R184). -/
def subscribeEffect (x : Slot) (c : Cmd) (s : State) : State × Reply :=
  let m := BitVec.ofNat 256 (beNat c.params)
  if s.sessionLives x = false then (s, {})
  else if m ≠ 0 ∧ 256 ≤ (s.subscribers.filter (fun k => k != x.context)).length then (s, .fail St.NO_CONTEXT)
  else (s.setSession x.context { s.session x.context with noticeMask := m }, {})

/-- NOTICE_SUBSCRIBE (R184). -/
def execNoticeSubscribe (slot : Fin 512) (s : State) : Out := .next (s.runKv slot.val (isOp 0x41) subscribeEffect)

/-- BARRIER (R186): its slot is handed off once every command of its session with a lower tag has completed, and it is
bound before any of a higher tag; what is left is its DONE. -/
def execBarrier (slot : Fin 512) (s : State) : Out := .next (s.runKv slot.val (isOp 0x50) (fun _ _ t => (t, {})))

/-- A slot holds a FLUSH. -/
def flushOp (x : Slot) : Bool := fieldAt (assemble x.frags) 0 1 == 0x51

/-- Every Pocket entry of a command with a CSN below `c` is durable (R187): no command that may still make one is bound, no
record lies in the Pocket, and no tombstone or journal record waits. -/
def State.flushedBelow (s : State) (c : Nat) : Bool :=
  !(s.seq.slots.any (fun e => e.2.csn < c && pendingRead e.2 && !flushOp e.2))
    && !(s.kv.records.any (fun r => r.loc == .pocket && r.csn < c)) && !(s.pocket.journal.any (fun r => r.csn < c))

/-- FLUSH raises the drain priority of the entries below its CSN, and completes when they are durable (R187, R221). -/
def execFlush (slot : Fin 512) (s : State) : Out :=
  let x := s.slot slot.val
  if x.state = .executing ∧ fieldAt (assemble x.frags) 0 1 = 0x51 ∧ s.flushedBelow x.csn = false ∧ s.fencesSlot x = none
      ∧ s.gate x (parseCmd (assemble x.frags)) = none then
    .next { s with seq := { s.seq with flushing := if s.seq.flushing.contains x.csn then s.seq.flushing
                                                   else s.seq.flushing ++ [x.csn] } }
  else .next (s.runKv slot.val (isOp 0x51) (fun _ _ t => (t.perf 14 1, {})))

/-- FLUSH_DONE: every entry below its CSN is durable (R187). -/
def execFlushDone (slot : Fin 512) (s : State) : Out :=
  let x := s.slot slot.val
  if s.seq.flushing.contains x.csn && s.flushedBelow x.csn then
    let s1 := { s with seq := { s.seq with flushing := s.seq.flushing.filter (fun c => c != x.csn) } }
    .next (s1.runKv slot.val (isOp 0x51) (fun _ _ t => (t.perf 14 1, {})))
  else .next s

/-- FENCE_CLEAR lifts the fence at its FENCED_TAG (R188). -/
def fenceClearEffect (x : Slot) (c : Cmd) (s : State) : State × Reply :=
  let y := s.session x.context
  match (if s.sameSession x then y.fence else none) with
  | none => (s, .fail St.NOT_FOUND)
  | some f =>
    if f.1 ≠ c.param 0 4 then (s, .fail St.NOT_FOUND)
    else
      (s.setSession x.context { y with fence := none, clearedAt := some x.tag.toNat, lastFence := f, fencedCount := 0 },
        { rparams := toBE 4 f.1 ++ toBE 2 f.2 ++ [0, 0] ++ toBE 4 y.fencedCount ++ [0, 0, 0, 0]
          effect := some { type := 0x09, argA := f.1, argB := f.2 } })

/-- FENCE_CLEAR (R188). -/
def execFenceClear (slot : Fin 512) (s : State) : Out := .next (s.runKv slot.val (isOp 0x52) fenceClearEffect)

/-- PING returns ECHO and the power and health states as they were at binding (R191). -/
def pingEffect (x : Slot) (c : Cmd) (s : State) : State × Reply :=
  (s, { rparams := c.params.take 8 ++ toBE 1 x.pinged.1 ++ toBE 1 x.pinged.2 ++ [0, 0, 0, 0, 0, 0], result0 := c.param 0 8 })

/-- PING (R191). -/
def execPing (slot : Fin 512) (s : State) : Out := .next (s.runKv slot.val (isOp 0x53) pingEffect)

end Sys2Proof.Machine
end

