-- ==== Sys2Proof/Machine/MatchOps.lean ====
section
/-! DEFINITION. The fare-token matcher: entries, searches, lists and the moves that keep their layout (R311 to R338). -/

namespace Sys2Proof.Machine

/-- Addresses in service: 16,384 for each logical tile that has a physical one (R311, R345). -/
def State.matchEntries (s : State) : Nat :=
  16384 * ([1, 2, 3, 4, 5, 6, 7, 8].filter (fun k => s.odGet 0 Od.MATCH_TILE_MAP k != 0xFF)).length

/-- The 160-bit search key (R313). -/
def searchKey (digest listId cls : Nat) : BitVec 160 := BitVec.ofNat 160 (digest * 2 ^ 32 + listId * 65536 + cls)

/-- A change of the matcher, whose publish waits for every TOKEN_QUERY with a lower CSN (R325). -/
def matcherEntry (index : Nat) : Bool := index == Od.MATCH_ENABLE || index == Od.LIST_ID

/-- A command reads or changes the matcher, which is one item: TOKEN_QUERY, TOKEN_EDIT, and the OD writes that change it (R325). -/
def onMatcher (c : Cmd) : Bool :=
  c.opcode == 0x38 || c.opcode == 0x39 || (c.opcode == 0x61 && c.key.length == 3 && matcherEntry (fieldAt c.key 0 2))

/-- Bits 399:8 of an entry, its PARITY apart (Table 8.1). -/
def MatchEntry.fields (e : MatchEntry) : BitVec 392 :=
  e.keyValue ++ e.keyMask ++ e.action ++ BitVec.ofBool e.valid ++ BitVec.ofNat 6 e.listNum ++ (0 : BitVec 1)

/-- PARITY: bit i is the even parity of the bits of 399:9 whose number modulo 8 is i (Table 8.1). -/
def MatchEntry.parity (e : MatchEntry) : BitVec 8 :=
  (List.range 8).foldl (fun (p : BitVec 8) i =>
    let ones := ((List.range 49).filter (fun k => e.fields.getLsbD (8 * k + i))).length
    if ones % 2 = 1 then p ||| BitVec.ofNat 8 (2 ^ i) else p) 0

/-- The 400-bit word of an entry, as a tile and the shadow copy hold it (R313, R343). -/
def MatchEntry.word (e : MatchEntry) : BitVec 400 := e.fields ++ e.parity

/-- An entry matches a search key (R314). -/
def entryHit (enable : Nat) (k : BitVec 160) (e : MatchEntry) : Bool :=
  e.valid && bitOf e.listNum enable && ((k ^^^ e.keyValue) &&& e.keyMask) == 0

/-- The lowest matching address (R312, R320). -/
def State.search (s : State) (k : BitVec 160) : Option (Nat × MatchEntry) :=
  s.matcher.entries.find? (fun p => entryHit (s.val Od.MATCH_ENABLE) k p.2)

/-- The list slot that holds a LIST_ID (R317). -/
def State.listOf? (s : State) (id : Nat) : Option Nat :=
  if id = 0 then none else (List.range 64).find? (fun l => s.odGet l Od.LIST_ID 0 == id)

/-- LIST_BASE. -/
def State.listBase (s : State) (l : Nat) : Nat := s.odGet l Od.LIST_BASE 0

/-- LIST_SIZE. -/
def State.listSize (s : State) (l : Nat) : Nat := s.odGet l Od.LIST_SIZE 0

/-- LIST_MODE is Pleat. -/
def State.isPleat (s : State) (l : Nat) : Bool := s.odGet l Od.LIST_MODE 0 == 1

/-- The entries of a list by rising address: their rank is their position (R317). -/
def State.listEntries (s : State) (l : Nat) : List (Nat × MatchEntry) := s.matcher.entries.filter (fun p => p.2.listNum == l)

/-- Places of a list that may be used (R329). -/
def State.listRoom (s : State) (l : Nat) : Nat := if s.isPleat l then s.listSize l * 15 / 16 else s.listSize l

/-- LIST_BUSY. -/
def State.listBusy (s : State) (l : Nat) : Nat := SMap.getD s.matcher.busy l 0

/-- LIST_BUSY set; an idle list is not listed. -/
def State.setBusy (s : State) (l b : Nat) : State :=
  { s with matcher := { s.matcher with busy := if b = 0 then SMap.erase s.matcher.busy l else SMap.put s.matcher.busy l b } }

/-- The base of the segment that holds an address of a Pleat list (R335). -/
def segBase (base a : Nat) : Nat := base + (a - base) / 16 * 16

/-- Entries in a segment. -/
def State.segCount (s : State) (l b : Nat) : Nat := ((s.listEntries l).filter (fun p => b ≤ p.1 && p.1 < b + 16)).length

/-- The base of the segment in which an insertion at rank `p` falls (R335). -/
def State.targetSegment (s : State) (l p : Nat) : Nat :=
  let es := s.listEntries l
  match es[p]? with
  | some e => segBase (s.listBase l) e.1
  | none => match es.getLast? with
    | some e => segBase (s.listBase l) e.1
    | none => s.listBase l

/-- The address that the entry of rank `p` takes on insertion: the place of the entry that now has the rank, or the one
after the last (R332, R335). -/
def State.insertAddress (s : State) (l p : Nat) : Nat :=
  match (s.listEntries l)[p]? with
  | some e => e.1
  | none => match (s.listEntries l).getLast? with
    | some e => e.1 + 1
    | none => s.listBase l

/-- Moves that carry a free place down to a target: each entry below it goes one place higher, the highest first (R332,
R337). The entries, the free place and the moves made. -/
def moveUp : Nat → SMap MatchEntry → Nat → Nat → SMap MatchEntry × Nat × Nat
  | 0, m, gap, _ => (m, gap, 0)
  | n + 1, m, gap, target =>
    if gap ≤ target then (m, gap, 0)
    else match SMap.get? m (gap - 1) with
      | none => (m, gap, 0)
      | some e =>
        let r := moveUp n (SMap.erase (SMap.put m gap e) (gap - 1)) (gap - 1) target
        (r.1, r.2.1, r.2.2 + 1)

/-- Moves that carry a free place up: each entry above it goes one place lower, the lowest first (R333). -/
def moveDown : Nat → SMap MatchEntry → Nat → Nat → SMap MatchEntry × Nat × Nat
  | 0, m, gap, _ => (m, gap, 0)
  | n + 1, m, gap, limit =>
    if limit ≤ gap + 1 then (m, gap, 0)
    else match SMap.get? m (gap + 1) with
      | none => (m, gap, 0)
      | some e =>
        let r := moveDown n (SMap.erase (SMap.put m gap e) (gap + 1)) (gap + 1) limit
        (r.1, r.2.1, r.2.2 + 1)

/-- The entries changed by moves, which performance event 85 counts. -/
def State.moved (s : State) (m : SMap MatchEntry) (n : Nat) : State :=
  { s with matcher := { s.matcher with entries := m } }.perf 85 n

/-- The class bit of a matcher command: QUERY 0, EDIT 1 (R322). -/
def State.matchGrants (s : State) (x : Slot) (c : Cmd) : Bool :=
  let y := s.session x.context
  s.aclGrants Od.MATCH_ACCESS 0 (if c.opcode = 0x38 then 0 else 1) x.port x.vlan y.secured y.group

/-- The LIST_ID of a TOKEN_EDIT. -/
def editList (c : Cmd) : Nat := c.param 2 2

/-- An edit of the same list is bound and has not published. -/
def State.editsPending (s : State) (id : Nat) : Bool :=
  s.seq.slots.any (fun e => (e.2.state == .bound || e.2.state == .executing)
    && (let c := parseCmd (assemble e.2.frags); c.opcode == 0x39 && editList c == id))

/-- A TOKEN_QUERY with a lower CSN has not finished its search (R325). -/
def State.queriesBelow (s : State) (csn : Nat) : Bool :=
  s.seq.slots.any (fun e => (e.2.state == .bound || e.2.state == .executing) && e.2.csn < csn
    && fieldAt (assemble e.2.frags) 0 1 == 0x38)

/-- An insertion at a rank would take effect as the list stands (R306, R329). -/
def State.insertFits (s : State) (l p : Nat) : Bool :=
  let n := (s.listEntries l).length
  decide (p ≤ n) && decide (n < s.listRoom l) && s.val Od.HEALTH_STATE != 6

/-- A TOKEN_EDIT stays FILLED: its Tuck list is busy with another's hole or a close-up, its own hole is not open, or its
target segment is full (R332 to R336). (DESIGN CHOICE, log 26) -/
def State.tokenWaits (s : State) (x : Slot) (c : Cmd) : Bool :=
  if c.opcode != 0x39 || opMalformed c || !s.matchGrants x c then false
  else match s.listOf? (editList c) with
    | none => false
    | some l =>
      let p := c.param 4 4
      let insert := c.param 0 1 == 1
      if s.isPleat l then
        insert && (s.editsPending (editList c) || (s.insertFits l p && 16 ≤ s.segCount l (s.targetSegment l p)))
      else if s.listBusy l != 0 && x.hole == 0 then true
      else insert && (s.editsPending (editList c)
        || (s.insertFits l p && decide (p < (s.listEntries l).length) && x.hole != 2))

/-- A place of a list that is laid out anew: Tuck packed, Pleat with 15 entries in each segment (R340). -/
def layoutAt (base : Nat) (pleat : Bool) (r : Nat) : Nat := if pleat then base + 16 * (r / 15) + r % 15 else base + r

/-- The entries of one list laid out anew from a base, at most `room` of them. -/
def layoutList (base : Nat) (pleat : Bool) (room : Nat) (es : List MatchEntry) : SMap MatchEntry :=
  (es.take room).foldl (fun (m : SMap MatchEntry) e => m ++ [(layoutAt base pleat m.length, e)]) []

/-- Every list laid out anew; holes and routines end (R340, R345). -/
def State.layoutAll (s : State) : State :=
  let ls := (List.range 64).filter (fun l => s.odGet l Od.LIST_ID 0 != 0)
  let all := ls.flatMap (fun l => layoutList (s.listBase l) (s.isPleat l) (s.listRoom l) ((s.listEntries l).map (·.2)))
  let m : SMap MatchEntry := all.foldl (fun (m : SMap MatchEntry) e => SMap.put m e.1 e.2) []
  { s with
    matcher := { s.matcher with entries := m, busy := [], holes := [] }
    seq := { s.seq with slots := (s.seq.slots.filter (fun e => match e.2.routine with
      | some (.closeUp _) => false | some (.repleat _) => false | _ => true)).map (fun e => (e.1, { e.2 with hole := 0 })) } }

/-- A change that takes effect: MATCH_GENERATION and CNT_MATCH_CHANGES (R326). -/
def State.matchChanged (s : State) : State := (s.bump Od.MATCH_GENERATION).bump Od.CNT_MATCH_CHANGES

/-- A list is defined at a slot through the window, or refused (R318, R319). -/
def State.defineList (s : State) (l id : Nat) : Except OdRefusal State :=
  if s.odGet l Od.LIST_ID 0 ≠ 0 then .error .state
  else
    let b := s.listBase l
    let z := s.listSize l
    let overlaps := (List.range 64).any (fun k => k != l && s.odGet k Od.LIST_ID 0 != 0
      && decide (b < s.listBase k + s.listSize k) && decide (s.listBase k < b + z))
    if z = 0 || decide (s.matchEntries < b + z) || overlaps || (s.listOf? id).isSome || decide (0xFFFF ≤ id)
        || (s.isPleat l && (b % 16 != 0 || z % 16 != 0)) then .error .range
    else
      let s1 := s.odPut l Od.LIST_ID 0 id
      .ok (s1.setVal Od.MATCH_ENABLE (putBit l false (s1.val Od.MATCH_ENABLE))).matchChanged

/-- A list is deleted when it is empty (R319). -/
def State.deleteList (s : State) (l : Nat) : Except OdRefusal State :=
  if s.odGet l Od.LIST_ID 0 = 0 then .ok s
  else if !(s.listEntries l).isEmpty then .error .state
  else .ok (s.odPut l Od.LIST_ID 0 0).matchChanged

/-- MATCH_ENABLE is changed in one write (R321). (DESIGN CHOICE, log 26) -/
def State.setEnable (s : State) (v : Nat) : State := (s.setVal Od.MATCH_ENABLE v).matchChanged

end Sys2Proof.Machine
end

