-- ==== Sys2Proof/Machine/OdPath.lean ====
section
/-! DEFINITION. Access paths of the object dictionary: their levels (R454, Table 12.2) and the objects that the windows
address on them (R41, R460, R461, R467). -/

namespace Sys2Proof.Machine

/-- The level of an access path (Table 12.2): 0 Observer to 4 Vendor. A session of the service anchor has no principal
group: it has Vendor level on the placket, and Observer level elsewhere. (DESIGN CHOICE, log 29) -/
def State.pathLevel (s : State) (p : Nat) : Nat :=
  if p = 0 then 4
  else if p < 16 then s.odGet 0 Od.CAN_SDO_LEVEL p
  else
    let x := s.session (p - 16)
    if !x.secured then 0
    else if x.udp = 7313 then (if x.serviceAnchor then 4 else s.odGet 0 Od.GROUP_LEVEL x.group)
    else if x.group = 0 then 0
    else min 2 (s.odGet 0 Od.GROUP_LEVEL x.group)

/-- The network whose 0x1000-range entries a path addresses: an SDO server its own, every other path the selected one
(R467). -/
def State.pathNet (s : State) (p : Nat) : Nat :=
  if p = 1 ∨ p = 2 then s.netEntries (p - 1) else s.netEntries (s.selection p Od.CAN_NET_SELECT - 1)

/-- The object that an access to an index addresses on a path (R460, R461). -/
def State.windowInst (s : State) (p index : Nat) : Nat :=
  if index < 0x2000 then s.pathNet p
  else if 0x2501 ≤ index ∧ index ≤ 0x250F then s.selection p Od.NS_SELECT
  else if 0x2321 ≤ index ∧ index ≤ 0x2323 then s.selection p Od.ANCHOR_SELECT
  else if index = Od.BIN_INFO then s.selection p Od.BIN_SELECT
  else if index = Od.PLANE_SPARE ∨ index = Od.PLANE_RETIRED then s.selection p Od.PLANE_SELECT
  else if 0x2711 ≤ index ∧ index ≤ 0x2716 then s.selection p Od.MATCH_LIST_SELECT
  else if index = Od.SEAL_NEXT_SEQ ∨ index = Od.SEAL_CHAIN_COUNT ∨ index = Od.SEAL_LINKS then s.selection p Od.SEAL_NS_SELECT
  else if index = Od.LEDGER_RECORD then s.selection p Od.LEDGER_SELECT
  else if 0x2B02 ≤ index ∧ index ≤ 0x2B06 then s.selection p Od.EVENT_SELECT
  else if index = Od.DOMAIN_INFO then s.selection p Od.DOMAIN_SELECT
  else if index = Od.ATTEST_NONCE ∨ index = Od.ATTEST_REPORT ∨ selectors.contains index then p
  else 0

/-- The row of an entry, or the refusal of an access to one that does not exist (R451, R459). PS has no PORT_PTP, and one
transmit queue (Table 11.10). -/
def odFind (index sub : Nat) : Except OdRefusal OdRow :=
  if index = 0x227A ∨ !odHasIndex index then .error .noEntry
  else if index = 0x227B ∧ 1 < sub then .error .noSub
  else match odRow? index sub with
    | some r => .ok r
    | none => .error .noSub

/-- The size of a value of a type, where it has one. -/
def odWidth : OdTy → Option Nat
  | .bool => some 1
  | .int n => some n
  | .uint n => some n
  | .octets n => some n
  | _ => none

/-- A type whose values are numbers (Table 12.1). -/
def odNumeric : OdTy → Bool
  | .bool => true
  | .int _ => true
  | .uint _ => true
  | _ => false

end Sys2Proof.Machine
end

