-- ==== Sys2Proof/Machine/Sequencer.lean ====
section
/-! DEFINITION. Meanings of the sequencer's steps: binding, hand-off, waits and their expiries (R132, R133, R186, R202
to R210). -/

namespace Sys2Proof.Machine

/-- A tag counted from the session's first, by its distance from the highest received (R131). -/
def extTag (high tag : Nat) : Nat :=
  let d := (tag + 2 ^ 32 - high % 2 ^ 32) % 2 ^ 32
  if d < 2 ^ 31 then high + d else high - (2 ^ 32 - d)

/-- The lowest tag of the replay window (R99). -/
def windowBase (high : Nat) : Nat := max 1 (high - 4095)

/-- The opcode in a slot. -/
def slotOp (x : Slot) : Nat := fieldAt (assemble x.frags) 0 1

/-- The whole message has been received (R202). -/
def slotComplete (x : Slot) : Bool := (assemble x.frags).length == x.msgLen

/-- A command is ordered: ORDERED in an ordered session, and not FENCE_CLEAR (R90, R188). -/
def slotOrdered (x : Slot) : Bool := x.ordered && slotOp x != 0x52

/-- The other slots of a session, by a test. -/
def State.otherSlots (s : State) (n : Nat) (x : Slot) (p : Slot → Bool) : Bool :=
  s.seq.slots.any (fun e => e.1 != n && e.2.session == x.session && x.session != 0 && p e.2)

/-- A tag of the session has been received in full: bound before, or in a slot with its whole message (R132). -/
def State.tagReceived (s : State) (x : Slot) (y : Session) (t : Nat) : Bool :=
  y.seenTags.contains t ||
    s.seq.slots.any (fun e => e.2.session == x.session && extTag y.highTag e.2.tag.toNat == t && slotComplete e.2)

/-- The tags of the replay window below a tag. -/
def tagsBelow (high t : Nat) : List Nat := (List.range (t - windowBase high)).map (· + windowBase high)

/-- The ordering rules allow a command to be bound (R132, R186, R188). (DESIGN CHOICE, log 28) -/
def State.mayBind (s : State) (n : Nat) (x : Slot) : Bool :=
  if x.session = 0 then true
  else
    let y := s.session x.context
    let t := extTag y.highTag x.tag.toNat
    let lower (z : Slot) := decide (extTag y.highTag z.tag.toNat < t)
    let barrierAhead := s.otherSlots n x (fun z => z.state == .filled && slotOp z == 0x50 && lower z)
    let clearAhead := s.otherSlots n x (fun z => (z.state == .bound || z.state == .executing) && slotOp z == 0x52)
    !barrierAhead
      && (if slotOp x = 0x50 then (tagsBelow y.highTag t).all (fun k => y.seenTags.contains k)
          else if slotOrdered x then
            (tagsBelow y.highTag t).all (fun k => s.tagReceived x y k)
              && !(s.otherSlots n x (fun z => z.state == .filled && slotOrdered z && lower z)) && !clearAhead
          else true)

/-- The commands that need their key in the Pocket before the directory is loaded, and those that wait for it whatever
the Pocket holds (R205, R206); a bucket whose entries are being rebuilt is as one not loaded, but for puts (Table 7.2). -/
def State.isWaking (s : State) (x : Slot) (c : Cmd) : Bool :=
  let lost := if c.opcode = 0x07 then !s.kv.rebuilding.isEmpty
    else s.kv.rebuilding.contains (keyDigest c.ns c.key / 2 ^ 104) && opNamesNs c.opcode && c.opcode != 0x01
  if x.udp != 7311 || (s.kv.loaded && !lost) then false
  else if [0x10, 0x11, 0x12, 0x14, 0x15, 0x16, 0x07].contains c.opcode then true
  else if [0x03, 0x04, 0x13, 0x22, 0x02, 0x06, 0x05, 0x20, 0x21, 0x24, 0x23].contains c.opcode
      || (c.opcode == 0x30 && c.param 0 1 == 0) || (c.opcode == 0x01 && s.odGet c.ns Od.NS_WRITE_ONCE 0 == 1) then
    !s.inPocket c.ns c.key
  else false

/-- OD_READ, OD_WRITE and LIST in namespace 0: the commands that the supervisor serves (R17). -/
def isOdOp (c : Cmd) : Bool := c.opcode == 0x60 || c.opcode == 0x61 || (c.opcode == 0x07 && c.ns == 0)

/-- OD commands cannot reach the supervisor: the Seam is lost, or it has never attached (R193, R540). -/
def State.odUnreachable (s : State) (c : Cmd) : Bool := isOdOp c && (s.seam.orphan || !s.seam.attached)

/-- A nonce whose refusal comes before it is bound: less than 1 s after another on the same path, which may itself still
wait (R355). (DEDUCED, log 20) -/
def State.nonceTooSoon (s : State) (x : Slot) (c : Cmd) : Bool :=
  let p := 16 + x.context
  let nonce (k : Cmd) : Bool := k.opcode == 0x61 && k.ns == 0 && k.key == [0x29, 0x20, 0x00] && k.data.length == 32 && k.param 0 8 == 0
  let hot := match SMap.get? s.seals.nonceHot p with | some t => decide (s.clock.ticks < t + 125000000) | none => false
  nonce c && !malformed ((s.session x.context).version == 2) s.clock.expiry c && x.udp != 7311 && 1 ≤ s.pathLevel p
    && (hot
      || s.seq.slots.any (fun e => e.2.session == x.session && (e.2.state == .bound || e.2.state == .executing)
          && nonce (parseCmd (assemble e.2.frags))))

/-- A response of a command that is not bound: CSN, TE and DT 0 (R157), with RETRY_AFTER where R158 gives it.
(DESIGN CHOICE, log 28) -/
def State.refuseUnbound (s : State) (ctx prio op : Nat) (tag : Nat) (status : Nat) (floor : Nat) : State :=
  let rp := if status = St.NO_CREDIT ∨ status = St.REPLAYED then []
    else toBE 4 (max floor (Config.retryAfter s.draws).toNat) ++ [0, 0, 0, 0]
  (((s.sendResponse ctx prio tag 0 (responseBody op ⟨0, 0, 0⟩ (.fail status rp)) false).draw).perf 4 1)

/-- The expiry time that a command resolves at binding (R80, R203). -/
def State.resolveExpiry (s : State) (c : Cmd) : Option Nat :=
  let e := match (opInfo? c.opcode).bind (·.expiry) with | some o => c.param o 8 | none => 0
  match c.expiryMode with
  | 1 => some e
  | 2 => some (s.clock.dt + e * 1000000000)
  | 3 => none
  | _ =>
    let r := s.odGet c.ns Od.NS_RETENTION 0
    if r = 0 then none else some (s.clock.dt + r * 1000000000)

/-- The net growth of LIVE_BYTES that a command would bring (R242). -/
def State.growth (s : State) (c : Cmd) (clock : Nat) : Int :=
  let th := s.val Od.FOLD_THRESHOLD
  let old := s.valueAt c.ns c.key (s.seq.csnLast + 1) clock
  let ceases := match old with | some v => s.placedBytes v | none => 0
  let covered := match old with
    | some v =>
      (match v.payload with
        | .extent cells len _ frags =>
          let off := if c.opcode = 0x12 then len else c.param 8 8
          let left := cells.filter (fun k => k.addr < off || off + c.dataLen ≤ k.addr)
          ((frags.filter (fun f => !left.any (fun k => k.frag == f.csn))).map (·.placed)).sum
        | _ => 0)
    | none => 0
  if c.opcode = 0x01 ∨ c.opcode = 0x02 then (placedSize th c.key.length c.dataLen : Int) - (if s.countsAsNew c old then 0 else ceases)
  else if c.opcode = 0x11 ∨ c.opcode = 0x12 then (placedSize th 0 c.dataLen : Int) - covered
  else if c.opcode = 0x20 ∨ c.opcode = 0x21 ∨ c.opcode = 0x24 ∨ c.opcode = 0x23 then
    (placedSize th c.key.length 8 : Int) - ceases
  else 0

/-- The commands whose slots a FAILED module or a stopped or closed engine does not bind (R307, R540, R571). -/
def State.bindingOpen (s : State) (x : Slot) : Bool :=
  !s.seq.stopped && s.val Od.INTAKE_STATE == 0 && (s.val Od.HEALTH_STATE != 7 || decide (6 ≤ x.origin))

/-- A FILLED slot receives its CSN and stamp (R203, R77); PING and OD commands take with them what they find at binding
(R191, R455). -/
def State.bindSlot (s : State) (n : Nat) (x : Slot) (c : Cmd) : State :=
  let s1 := s.takeCsn
  let p := s.nsParams c.ns
  let denied := if c.opcode = 0x38 ∨ c.opcode = 0x39 then !s.matchGrants x c
    else match opClass c with
      | some k => opNamesNs c.opcode && c.ns != 0 && !s.permits x c.ns k
      | none => false
  let g := s.growth c s.clock.expiry
  let x1 := { x with
    state := .bound, csn := s1.seq.csnLast, tsBind := s.clock.dt, te := s.clock.te, ordered := slotOrdered x
    access := if c.opcode = 0x31 then s.accessLists else []
    expiryDt := s.resolveExpiry c, bindClock := s.clock.expiry, params := p, denied := denied
    overCap := decide (0 < g) && decide ((userCapacity s.hw.grade : Int) < s.liveBytes + (s.kv.surplus.map (·.placed)).sum + g)
    pinged := ((match s.power.engine with | .run => 0 | .hush => 1 | .doze => 2), s.val Od.HEALTH_STATE)
    level := if isOdOp c then s.pathLevel (if x.session = 0 then 0 else 16 + x.context) else 0 }
  let s2 := s1.setSlot n x1
  let s3 := if x.session = 0 then s2 else
    let y := s2.session x.context
    s2.setSession x.context { y with seenTags := extTag y.highTag x.tag.toNat :: y.seenTags }
  let s4 := if c.opcode = 0x38 then (s3.bump Od.CNT_MATCH_QUERIES 1 0 64).perf 15 1 else s3
  s4.perf 0 1

/-- The fence that an ordered command meets when it is bound (R189, R204). -/
def State.fenceAtBind (s : State) (x : Slot) : Option (Nat × Nat) := s.fencesSlot { x with ordered := slotOrdered x }

/-- A slot owes the journal a record: its reservation includes one (R199), or its bound command may still write one. -/
def owesRecord (x : Slot) : Bool := x.reserved != 0 || pendingRead x

/-- The journal ring has a free record for a slot beside those that the others are owed (R24, R199, R202). -/
def State.journalRoom (s : State) (n : Nat) : Bool :=
  decide (s.pocket.journal.length + (s.seq.slots.filter (fun e => e.1 != n && owesRecord e.2)).length < 65536)

/-- Step 1 of R164 refuses a complete command that may be bound: WAKING or RETRY_LATER (R193, R205, R206, R355). -/
def State.unboundRefusal (s : State) (x : Slot) (c : Cmd) : Option Nat :=
  if s.isWaking x c then some St.WAKING
  else if x.session != 0 && (s.odUnreachable c || s.nonceTooSoon x c) then some St.RETRY_LATER
  else none

/-- The whole message of a FILLED slot has been received, and the ordering rules allow it to be bound (R202). -/
def State.inTurn (s : State) (n : Nat) (x : Slot) : Bool :=
  x.state == .filled && slotComplete x && s.bindingOpen x && s.mayBind n x

/-- A FILLED slot is ready to bind but for what it may wait for in the matcher (R202, R334). -/
def State.meetsOthers (s : State) (n : Nat) : Bool :=
  let x := s.slot n
  s.inTurn n x && (s.unboundRefusal x (parseCmd (assemble x.frags))).isNone && s.journalRoom n

/-- The slots that are ready but for what they wait for in the matcher, in the order in which they became so: those noted that
still are, then those that have become so since (R334). (DESIGN CHOICE, log 28) -/
def State.turnSlots (s : State) : List Nat :=
  let kept := s.seq.turn.filter s.meetsOthers
  kept ++ ((s.seq.slots.map (·.1)).filter (fun n => s.meetsOthers n && !kept.contains n))

/-- An edit of the same Tuck list became ready before and waits still: edits are served in that order (R334). -/
def State.editAhead (s : State) (n : Nat) (c : Cmd) : Bool :=
  c.opcode == 0x39 && (match s.listOf? (editList c) with | some l => !s.isPleat l | none => false)
    && (s.turnSlots.takeWhile (· != n)).any (fun m =>
      let d := parseCmd (assemble (s.slot m).frags)
      editList d == editList c && s.tokenWaits (s.slot m) d)

/-- A FILLED slot meets every binding condition (R202). -/
def State.meetsAll (s : State) (n : Nat) : Bool :=
  let x := s.slot n
  let c := parseCmd (assemble x.frags)
  s.meetsOthers n && !((s.fenceAtBind x).isNone && (s.tokenWaits x c || s.editAhead n c))

/-- The slots that meet all the binding conditions, in the order in which they met them: those noted that still do, then those
that have come to meet them since (R202). (DESIGN CHOICE, log 28) -/
def State.readySlots (s : State) : List Nat :=
  let kept := s.seq.ready.filter s.meetsAll
  kept ++ (s.turnSlots.filter (fun n => s.meetsAll n && !kept.contains n))

/-- The order in which slots met the binding conditions, noted (R202). -/
def State.noteReady (s : State) : State := { s with seq := { s.seq with ready := s.readySlots, turn := s.turnSlots } }

/-- COMMAND_BIND (R202 to R206): of the slots that meet all the conditions, the one that met them first. A slot that does not
meet them, or is not the first, stays as it is. (DEDUCED, log 7) -/
def execCommandBind (slot : Fin 512) (s : State) : Out :=
  let n := slot.val
  let x := s.slot n
  let c := parseCmd (assemble x.frags)
  if s.inTurn n x = true then
    match s.unboundRefusal x c with
    | some st =>
      let s1 := s.refuseUnbound x.context x.prio c.opcode x.tag.toNat st 0
      .next ((if st = St.WAKING then s1.perf 93 1 else s1).freeSlot n)
    | none =>
      if s.readySlots.head? = some n then
        let s1 := s.noteReady.bindSlot n x c
        match s.fenceAtBind x with
        | some f => .next (s1.retire n (s1.slot n) c (fencedReply f))
        | none =>
          if (opInfo? c.opcode).isNone then .next (s1.retire n (s1.slot n) c (.fail St.MALFORMED)) else .next s1
      else .next s
  else .next s

/-- The opcodes that change an item. -/
def opChanges (c : Cmd) : Bool :=
  [0x01, 0x02, 0x05, 0x06, 0x11, 0x12, 0x14, 0x15, 0x16, 0x20, 0x21, 0x23, 0x24, 0x39, 0x61].contains c.opcode
    || (c.opcode == 0x10 && c.param 0 1 == 1)

/-- What a command touches: an item of a namespace, the matcher, the object dictionary (R209, R458). -/
def sameItem (a b : Cmd) : Bool :=
  let kind (c : Cmd) : Nat := if c.opcode = 0x38 ∨ c.opcode = 0x39 then 1 else if c.opcode = 0x60 ∨ c.opcode = 0x61 then 2 else 0
  (kind a == kind b && (kind a != 0 || (opNamesNs a.opcode && a.ns == b.ns && a.key == b.key))) || (onMatcher a && onMatcher b)

/-- The commands that wait for every change of their namespace (R210). -/
def opWide (c : Cmd) : Bool := c.opcode == 0x07 || (c.opcode == 0x30 && c.param 0 1 != 0)

/-- Command `y` with a lower CSN holds back command `x` (R96, R186, R209, R210, R458). -/
def holdsBack (x y : Slot) (cx cy : Cmd) : Bool :=
  (opChanges cy && sameItem cx cy)
    || (opWide cx && opChanges cy && cx.ns == cy.ns)
    || (cy.opcode == 0x30 && opNamesNs cx.opcode && cx.ns == cy.ns)
    || (x.ordered && y.ordered && x.session == y.session)
    || (cx.opcode == 0x50 && x.session == y.session)

/-- The INCIDENT hold of slot 447 orders as a HOLD over every namespace that it covers (R210, R255). (DESIGN CHOICE, log 33) -/
def incidentOrder (x y : Slot) (cx cy : Cmd) : Bool :=
  x.incident.any (fun h => opChanges cy && h.covers.contains cy.ns)
    || y.incident.any (fun h => opNamesNs cx.opcode && h.covers.contains cx.ns)

/-- A bound UNHOLD holds back the commands on every namespace that its hold covers, and another UNHOLD (R92). -/
def State.unholdOrder (s : State) (cx cy : Cmd) : Bool :=
  cy.opcode == 0x31 && opNamesNs cx.opcode
    && (cx.opcode == 0x31 || cx.ns == cy.ns || s.kv.holds.any (fun h => h.csn == cy.param 0 8 && h.covers.contains cx.ns))

/-- A slot in use holds back a bound slot (R208 to R210). A BARRIER waits for the scan of a HOLD as well (R186). -/
def State.holdsSlot (s : State) (n : Nat) (x : Slot) (e : Nat × Slot) : Bool :=
  let c := parseCmd (assemble x.frags)
  e.1 != n && (e.2.state == .bound || e.2.state == .executing) && e.2.csn < x.csn
    && (let cy := parseCmd (assemble e.2.frags)
        (e.2.routine == none && (holdsBack x e.2 c cy || incidentOrder x e.2 c cy || s.unholdOrder c cy))
          || (c.opcode == 0x50 && e.2.session == x.session && x.session != 0))

/-- The interlock of a bound slot is satisfied (R208 to R210). -/
def State.interlockFree (s : State) (n : Nat) (x : Slot) : Bool := !(s.seq.slots.any (s.holdsSlot n x))

/-- WAIT_SLOT: the slot that a bound slot waits for, the lowest where there are more (Table 5.2). (DESIGN CHOICE, log 43) -/
def State.waitSlot? (s : State) (n : Nat) : Option Nat :=
  if (s.slot n).state = .bound then (s.seq.slots.find? (s.holdsSlot n (s.slot n))).map (·.1) else none

/-- The kind of work that a slot's routine is. -/
def routineCode : Option Routine → Nat
  | none => 0
  | some (.collection _) => 1
  | some (.fold _) => 2
  | some (.release _) => 3
  | some (.holdScan _) => 4
  | some (.seal _) => 5
  | some (.sanitise _) => 6
  | some .format => 7
  | some .gusset => 8
  | some (.closeUp _) => 9
  | some (.repleat _) => 10
  | some .patrol => 11
  | some .verify => 12

/-- OPCODE of a slot: the command's, or for internal work a code of 0x80 to 0xFF that the spec does not give (Table 5.2). -/
def slotOpcode (x : Slot) : Nat :=
  if x.incident.isSome then 0x30
  else if x.routine.isSome && x.frags.isEmpty then 0x80 + (Config.internalOpcode (routineCode x.routine)).val
  else fieldAt (assemble x.frags) 0 1

/-- One of the words of a task slot (Table 5.2). -/
def slotWord (x : Slot) (k : Nat) : Nat :=
  let b := assemble x.frags
  let st := match x.state with | .free => 0 | .filled => 1 | .bound => 2 | .executing => 3 | .retiring => 4
  match k with
  | 0 => slotOpcode x * 2 ^ 56 + fieldAt b 1 1 * 2 ^ 48 + st * 2 ^ 45 + (if x.ordered then 2 ^ 44 else 0)
      + (if x.timed then 2 ^ 43 else 0) + x.prio * 2 ^ 40 + x.origin * 2 ^ 36 + fieldAt b 2 2 * 2 ^ 16 + x.status
  | 1 => x.session.toNat * 2 ^ 32 + x.tag.toNat
  | 2 => x.csn
  | 3 => fieldAt b 4 1 * 2 ^ 56 + fieldAt b 5 1 * 2 ^ 48 + x.keyHandle
  | 5 => x.msgLen * 2 ^ 32 + (x.frags.map (fun f => f.2.length)).sum
  | 6 => x.length
  | 7 => x.expiryDt.getD (2 ^ 64 - 1)
  | 8 => x.result0
  | 9 => x.result1
  | 10 => x.tsFirst
  | 11 => x.tsBind
  | 12 => x.tsDispatch
  | 13 => x.tsPublish
  | 14 => x.te * 2 ^ 48 + x.ope.getD 0xFF * 2 ^ 40 + x.mchk * 2 ^ 32 + x.step
  | _ => 0

/-- The words of a task slot, WAIT_SLOT among them; where its reservation lies is the engine's own (R200, Table 5.2). -/
def State.slotWords (s : State) (n k : Nat) : Nat :=
  if k = 15 then (s.waitSlot? n).getD 0xFFFF * 2 ^ 48
  else if k = 4 ∧ (s.slot n).reserved ≠ 0 then (Config.diagWord 0 (16 * n + 4) s.draws).toNat
  else slotWord (s.slot n) k

/-- The priority at hand-off (R207). -/
def slotRank (x : Slot) : Nat := if x.aged then 7 else x.prio

/-- A bound slot that would go before another: higher priority, then lower CSN (R207). -/
def goesBefore (y x : Slot) : Bool := decide (slotRank x < slotRank y) || (slotRank x == slotRank y && decide (y.csn < x.csn))

/-- A slot waits for an op engine: it is bound, or its step restarts after a machine check (R207, R230). -/
def waitsEngine (x : Slot) : Bool := x.state == .bound || (x.state == .executing && x.retry == some .engine)

/-- A slot can be handed to an op engine: its interlock is satisfied; a step that restarts had it satisfied before (R208). -/
def State.dispatchable (s : State) (n : Nat) (x : Slot) : Bool :=
  waitsEngine x && (x.state == .executing || s.interlockFree n x)

/-- The step of a command that names a key looks its bucket up, when the key's newest version does not stand in the Pocket (R263). -/
def State.lookUpFor (s : State) (c : Cmd) : State :=
  if (opInfo? c.opcode).any (fun i => i.key == 1) && !s.inPocket c.ns c.key then s.lookUp c.ns c.key else s

/-- COMMAND_DISPATCH: the first slot whose interlock is satisfied goes to a free op engine (R207, R208); a step that restarts
goes to another than the one that took the machine check (R230). In HUSH and DOZE the op engines do not run: the hand-off waits
for the exit (R226, R545, R546). -/
def execCommandDispatch (slot : Fin 512) (ope : Fin 36) (s : State) : Out :=
  let n := slot.val
  let x := s.slot n
  let e := s.engine ope.val
  let ahead := s.seq.slots.any (fun p => p.1 != n && goesBefore p.2 x && s.dispatchable p.1 p.2)
  if s.dispatchable n x = true ∧ x.mchkOn.contains ope.val = false ∧ ahead = false ∧ e.inService = true ∧ e.retired = false
      ∧ e.reloading = false ∧ e.slot = none ∧ s.seq.stopped = false ∧ s.power.engine = .run then
    .next (((s.setSlot n { x with state := .executing, retry := none, ope := some ope.val, tsDispatch := s.clock.dt }).restartOn ope.val n
      (if x.state = .executing then x.mchkOn.head? else none) (slotOp x)).lookUpFor (parseCmd (assemble x.frags)))
  else .next s

/-- DISPATCH_AGE_EXPIRY: the slot goes as if its PRIO were 7 (R207). -/
def execDispatchAgeExpiry (slot : Fin 512) (s : State) : Out :=
  let x := s.slot slot.val
  if x.state = .bound then .next (s.setSlot slot.val { x with aged := true }) else .next s

/-- A scan step of a hold counts some more of the values that it pins, at least one: how many, the spec does not say (R219). -/
def State.scanHold (s : State) (k : Nat) : State :=
  { s.draw with kv := { s.kv with holds := s.kv.holds.map (fun h =>
      if h.csn == k then { h with counted := min h.pinned.length (h.counted + 1 + (Config.scanBatch s.draws).toNat) } else h) } }

/-- The values that the scan of a hold has still to count. -/
def State.scanLeft (s : State) (k : Nat) : Nat :=
  ((s.kv.holds.find? (fun h => h.csn == k)).map (fun h => h.pinned.length - h.counted)).getD 0

/-- The values that a hold pins. -/
def State.pinnedBy (s : State) (k : Nat) : Nat := ((s.kv.holds.find? (fun h => h.csn == k)).map (fun h => h.pinned.length)).getD 0

/-- The scan of a hold ends: DONE with COUNT to the command that placed it; an INCIDENT hold has none (Table 5.6, R255). -/
def State.endScan (s : State) (n k : Nat) : State :=
  let x := s.slot n
  if x.tag = 0 ∧ x.supTag = none then (s.freeSlot n).nextIncident
  else s.retireDone n x (parseCmd (assemble x.frags)) (holdReply (s.pinnedBy k))

/-- A step of a slot's routine ends on its op engine, if it has one (R581). -/
def State.engineSteps (s : State) (x : Slot) : State := match x.ope with | some e => s.endStep e (slotOp x) | none => s

/-- A complete command waits for a missing tag: an ordered one for a tag below it, a BARRIER for one to be bound, or either
behind a BARRIER that waits (R132, R133, R186). -/
def State.waitsForTag (s : State) (n : Nat) (x : Slot) : Bool :=
  let y := s.session x.context
  let t := extTag y.highTag x.tag.toNat
  let missing (t : Nat) := (tagsBelow y.highTag t).any (fun k => !s.tagReceived x y k)
  let barrier := s.otherSlots n x (fun z =>
    z.state == .filled && slotOp z == 0x50 && decide (extTag y.highTag z.tag.toNat < t) && missing (extTag y.highTag z.tag.toNat))
  x.session != 0 && (barrier || ((slotOrdered x || slotOp x == 0x50) && missing t))

/-- GAP_TIMEOUT_EXPIRY: a command that waits for a missing tag is freed without a response (R133). -/
def execGapTimeoutExpiry (slot : Fin 512) (s : State) : Out :=
  let x := s.slot slot.val
  if x.state = .filled ∧ slotComplete x = true ∧ s.waitsForTag slot.val x = true then
    .next ((s.freeSlot slot.val).bump Od.CNT_GAP_DROPS)
  else .next s

/-- REASSEMBLY_TIMEOUT_EXPIRY: a message that is still incomplete is discarded (R134). -/
def execReassemblyTimeoutExpiry (slot : Fin 512) (s : State) : Out :=
  let x := s.slot slot.val
  if x.state = .filled ∧ slotComplete x = false then .next ((s.freeSlot slot.val).bump Od.CNT_REASSEMBLY_DROPS)
  else .next s

/-- A held response is released: only what R99 answers again stays in the replay cache (R137, R138). -/
def releaseReplays (tag : Nat) (rs : List Replay) : List Replay :=
  (rs.map (fun r => if r.tag = tag then { r with held := false } else r)).filter (fun r => r.held || r.keep)

/-- RESPONSE_HOLD_EXPIRY (R138). -/
def execResponseHoldExpiry (context : Fin 32768) (tag : BitVec 32) (s : State) : Out :=
  let y := s.session context.val
  if y.replays.any (fun r => r.tag == tag.toNat && r.held) then
    .next (s.setSession context.val { y with replays := releaseReplays tag.toNat y.replays })
  else .next s

end Sys2Proof.Machine
end

