-- ==== Sys2Proof/Machine/Wkp.lean ====
section
/-! DEFINITION. Meanings of the session steps: handshakes, CLOSE, STALE, acknowledgment and the session timers
(R107 to R149). -/

namespace Sys2Proof.Machine

/-- One waiting frame of a receive queue is taken from the receive buffer of a port (R421). (DEDUCED, log 24) -/
def State.takeFrom (s : State) (p q : Nat) : State :=
  let po := s.port p
  s.setPort p { po with rxq := dropFirst (fun e => e.1 == (if p = 6 then 0 else q)) po.rxq }

/-- The parser takes a datagram of its queue: RX_WKP (R421, Table 11.7). -/
def State.parserTakes (s : State) (rx : Rx) : State :=
  let prio := bitsOf 7 5 rx.dg.flags.toNat
  (s.takeFrom rx.physical.val (match rx.pcp with | some c => min c.val prio | none => prio)).portCount rx.physical.val 10

/-- A discard counted in the port's statistics (Table 11.3, checks 13 and 14). -/
def State.wkpDiscard (s : State) (rx : Rx) : State := s.portCount rx.physical.val 29

/-- A datagram discarded under R110. -/
def State.malformedDatagram (s : State) (rx : Rx) : State := (s.wkpDiscard rx).bump Od.CNT_MALFORMED

/-- Whether WKP is served: intake is open or paused (R541, Table 5.7). -/
def State.wkpServed (s : State) : Bool :=
  s.live && s.power.firstOpen && (s.val Od.INTAKE_STATE == 0 || s.val Od.INTAKE_STATE == 1)

/-- A datagram that comes to the parser while WKP is not served: before intake first opens it is discarded and counted
(R541); later nothing is received. -/
def State.wkpUnserved (s : State) (rx : Rx) : State :=
  if s.live && !s.power.firstOpen then (s.parserTakes rx).wkpDiscard rx else s

/-- P: the largest payload of a datagram on a port (R105). -/
def State.maxPayloadOn (s : State) (rx : Rx) (secured : Bool) : Nat :=
  min 8960 (s.val (portIndex rx.port.val 7) - 80 - (if rx.ipv6 then 20 else 0) - (if secured then 16 else 0))

/-- The UDP port serves WKP on that port (R103). -/
def udpServed (rx : Rx) : Bool :=
  if rx.port.val = 6 then rx.udp == 7313 else rx.udp == 7311 || rx.udp == 7312

/-- The version of a datagram is enabled and has the type (R110, R147). -/
def State.versionServes (s : State) (rx : Rx) (type : Nat) : Bool :=
  rx.dg.version == 3 ||
    (rx.dg.version == 2 && s.val Od.WKP_V2_ENABLE == 1 && !rx.ipv6 && [0x01, 0x10, 0x12, 0x1E].contains type)

/-- The checks of R106 and R110 that need no session. -/
def State.headerValid (s : State) (rx : Rx) (type : Nat) : Bool :=
  let d := rx.dg
  d.magic == 0x5A && d.type.toNat == type && s.versionServes rx type && !bitOf 0 d.flags.toNat && udpServed rx
    && decide (bitsOf 24 0 d.frag.toNat + d.payload.length ≤ d.msgLen.toNat) && decide (d.msgLen.toNat ≤ 16777728)
    && decide (d.payload.length ≤ s.maxPayloadOn rx (bitOf 1 d.flags.toNat))

/-- The datagram is a whole message: a HELLO or RESUME, for which no state is held, comes in one (R117). (DESIGN CHOICE, log 29) -/
def wholeMessage (d : Dgram) : Bool := bitsOf 24 0 d.frag.toNat == 0 && d.msgLen.toNat == d.payload.length

/-- The link of a reply that belongs to no session: back to where the datagram came from (R418). -/
def replyLink (rx : Rx) : LinkHead :=
  { mac := rx.port.val, link := rx.link, vlan := rx.vlan.toNat, pcp := rx.pcp.map (·.val) }

/-- The header of a reply that belongs to no session: the version of the datagram that it answers, packet number, acknowledgment
and credit 0 (Table 3.3). (DESIGN CHOICE, log 45) -/
def replyHeader (rx : Rx) (m : Msg) : WkpHead :=
  let p := m.place
  { version := rx.dg.version.toNat, type := m.wkpType.getD 0, flags := bitsOf 7 5 rx.dg.flags.toNat * 32
    session := match m with | .stale sid _ => sid | _ => 0
    pn := 0, ack := 0, sack := 0, credit := 0, tag := p.1, inst := p.2.1, offset := p.2.2.1, msgLen := p.2.2.2 }

/-- A reply that belongs to no session leaves where the datagram came from, from the address and UDP port that it was sent to
(R103, R418). -/
def State.replyTo (s : State) (rx : Rx) (m : Msg) : State :=
  s.txPut rx.physical.val (bitsOf 7 5 rx.dg.flags.toNat)
    (wkpFrame (replyLink rx) rx.ipv6 rx.dst rx.src rx.udp.toNat rx.srcPort.toNat none (replyHeader rx m) m)

/-- A CLOSE without a session (R119, R120, R129). -/
def State.refuseHello (s : State) (rx : Rx) (status : Nat) : State := s.replyTo rx (.close 0 status)

/-- The reason of a STALE for a session id; none for a session that is HALF_OPEN, OPEN or CLOSING (R145). -/
def State.staleReason? (s : State) (sid : BitVec 32) : Option Nat :=
  let c := contextOf sid
  let g := sid.toNat % 16384
  if 32767 < c ∨ g = 0 then some 0
  else if (s.session c).gen ≠ g then some 2
  else match (s.session c).state with
    | .free => some 2
    | .dormant => some 1
    | _ => none

/-- A STALE, at most one to each source per STALE_INTERVAL; an interval that runs keeps its length (R145, R150). -/
def State.sendStale (s : State) (rx : Rx) (sid : BitVec 32) (reason : Nat) : State :=
  let w := s.wkp
  if w.staleTo.any (fun e => e.1 == rx.src && decide (s.clock.ticks < e.2)) then s
  else
    (({ s with wkp := { w with
        staleTo := (rx.src, s.clock.ticks + s.val Od.STALE_INTERVAL * 125000) :: w.staleTo.filter (fun e => e.1 != rx.src) } }).bump
      Od.CNT_STALE_SENT).replyTo rx (.stale sid reason)

/-- The source is the one that the session accepts: an open session's HELLO source (R130). (DESIGN CHOICE, log 29) -/
def sourceAccepted (x : Session) (rx : Rx) : Bool := x.secured || (x.src == rx.src && x.srcPort == rx.srcPort)

/-- The packet numbers acknowledged by a header (Table 3.3). Number 0 is that of a datagram never sent under the present keys. -/
def ackedBy (d : Dgram) (pn : Nat) : Bool :=
  let a := d.ack.toNat
  pn != 0 && (pn == a || (decide (pn < a) && bitOf (a - 1 - pn) d.sack.toNat))

/-- A response whose datagrams are all acknowledged is released (R138). -/
def releaseAcked (d : Dgram) (rs : List Replay) : List Replay :=
  (rs.map (fun r =>
    let w := r.waiting.filter (fun f => !ackedBy d f.1)
    { r with waiting := w, held := r.held && !w.isEmpty })).filter (fun r => r.held || r.keep)

/-- A datagram is accepted for a session: packet number, source and port, and the acknowledgments it carries
(R124, R130, R135, R138, R418). -/
def acceptDatagram (x : Session) (rx : Rx) : Session :=
  { x with
    rxPns := if rx.dg.pn = 0 then x.rxPns else rx.dg.pn.toNat :: x.rxPns
    src := rx.src, srcPort := rx.srcPort, port := rx.port.val, physical := rx.physical.val, vlan := rx.vlan.toNat
    link := rx.link, pcp := rx.pcp.map (·.val)
    replays := releaseAcked rx.dg x.replays }

/-- A datagram is of the session's version and encryption, its source is accepted, its packet number new. -/
inductive Verdict where
  | accept | malformed | tagFail | drop | stale (reason : Nat)
deriving DecidableEq, Repr

/-- The checks of a datagram of an established session (R23, R105, R110, R124, R130, R145, R397). A datagram with packet number 0
is accepted, and is no duplicate of any. (DESIGN CHOICE, log 29) -/
def State.verdict (s : State) (rx : Rx) (type : Nat) (states : SessState → Bool) : Verdict :=
  if !s.headerValid rx type then .malformed
  else match s.staleReason? rx.dg.session with
    | some r => .stale r
    | none =>
      let x := s.session (contextOf rx.dg.session)
      if !states x.state || x.version != rx.dg.version.toNat || x.secured != bitOf 1 rx.dg.flags.toNat
          || decide (x.maxPayload < rx.dg.payload.length) then .malformed
      else if !sourceAccepted x rx then .drop
      else if x.secured && !tagVerifies x rx.dg then .tagFail
      else if rx.dg.pn != 0 && x.rxPns.contains rx.dg.pn.toNat then .drop
      else .accept

/-- A received datagram of a secured session has been decrypted, to accept it or to find its tag wrong: its key was used (R397,
R405). -/
def State.decrypted (s : State) (rx : Rx) : Verdict → State
  | .malformed => s
  | .stale _ => s
  | .drop => s
  | _ => let c := contextOf rx.dg.session; if (s.session c).secured then s.useKey (65536 + 2 * c) else s

/-- What a datagram that is not accepted leads to. -/
def State.notAccepted (s : State) (rx : Rx) : Verdict → State
  | .malformed => s.malformedDatagram rx
  | .tagFail => ((s.portCount rx.physical.val 30).bump Od.CNT_TAG_FAIL).perf 97 1
  | .stale r => s.sendStale rx rx.dg.session r
  | .drop => s
  | .accept => s

/-- An acknowledgment is due; with ACK_NOW it leaves at once (R135). -/
def State.owesAck (s : State) (c : Nat) (rx : Rx) : State :=
  let x := s.session c
  let prio := bitsOf 7 5 rx.dg.flags.toNat
  let s1 := s.setSession c { x with ackDue := true, ackPrio := prio }
  if bitOf 2 rx.dg.flags.toNat then s1.sessionSend c prio (.ack (sessionId c x.gen)) else s1

/-- The fields of a HELLO or RESUME body (Table 3.9). -/
structure HelloBody where
  secured    : Bool
  ordered    : Bool
  keyLen     : Nat
  maxPayload : Nat
  label      : Nat
  cookie     : Bytes
  oldSession : BitVec 32
  token      : BitVec 128
  keyShare   : Bytes
deriving DecidableEq, Repr

/-- A HELLO body, or a RESUME body (Table 3.9). -/
def parseHello (resume : Bool) (b : Bytes) : HelloBody :=
  let f := fieldAt b 0 1
  { secured := bitOf 0 f, ordered := bitOf 1 f, keyLen := fieldAt b 1 1, maxPayload := fieldAt b 2 2
    label := fieldAt b 4 4, cookie := (b.drop 8).take 16
    oldSession := BitVec.ofNat 32 (fieldAt b 24 4), token := BitVec.ofNat 128 (fieldAt b 28 16)
    keyShare := b.drop (if resume then 44 else 24) }

/-- The body has no field outside Table 3.9 (R110, R147). -/
def helloBodyValid (resume v2 : Bool) (b : Bytes) : Bool :=
  let h := parseHello resume b
  decide (fieldAt b 0 1 < 4) && h.keyLen == (if h.secured then 133 else 0)
    && b.length == (if resume then 44 else 24) + h.keyLen
    && decide (512 ≤ h.maxPayload) && decide (h.maxPayload ≤ if v2 then 1420 else 8960) && (!v2 || !h.secured)

/-- The cookie made with a secret (R118). -/
def cookieFor (secret : BitVec 256) (rx : Rx) : Bytes :=
  (toBE 64 (Config.sha512 (toBE 32 secret.toNat ++ addrBytes rx.ipv6 rx.src ++ toBE 2 rx.srcPort.toNat
    ++ addrBytes rx.ipv6 rx.dst ++ toBE 2 rx.udp.toNat ++ (rx.dg.payload.drop 2).take 2 ++ rx.dg.payload.take 1)).toNat).take 16

/-- The cookie is one made with the present secret or the one before it, and is not zero (R117, R118). -/
def State.cookieValid (s : State) (rx : Rx) (h : HelloBody) : Bool :=
  !h.cookie.all (fun b => b == 0) && (h.cookie == cookieFor s.wkp.secretNow rx || h.cookie == cookieFor s.wkp.secretOld rx)

/-- The COOKIE answer (R117). -/
def State.sendCookie (s : State) (rx : Rx) : State :=
  (s.bump Od.CNT_COOKIES_SENT).replyTo rx (.cookie (cookieFor s.wkp.secretNow rx ++ [0, 0, 0, 0]))

/-- HELLO and RESUME of a source in the present second (R146). -/
def State.hellosFrom (s : State) (src : BitVec 128) : Nat := ((s.wkp.helloRate.find? (fun e => e.1 == src)).map (·.2)).getD 0

/-- One more HELLO or RESUME of a source. -/
def State.countHello (s : State) (src : BitVec 128) : State :=
  { s with wkp := { s.wkp with
      helloRate := (src, s.hellosFrom src + 1) :: s.wkp.helloRate.filter (fun e => e.1 != src) } }

/-- A HELLO or RESUME beyond the source's rate is counted; the source is reported once a minute (R146, Table 16.2). -/
def State.dropHello (s : State) (rx : Rx) : State :=
  let s1 := s.bump Od.CNT_HELLO_RATE_DROPS
  let recent := s.wkp.floodTo.any (fun e => e.1 == rx.src && s.seconds < e.2 + 60)
  if recent then s1
  else
    ({ s1 with wkp := { s1.wkp with floodTo := (rx.src, s.seconds) :: s1.wkp.floodTo.filter (fun e => e.1 != rx.src) } }).raise
      Ev.WKP_HELLO_FLOOD [rx.src.toNat % 2 ^ 32]

/-- A secured handshake cannot be served: the Seam is lost, or has never attached (R500, R540). -/
def State.securedUnreachable (s : State) : Bool := s.seam.orphan || !s.seam.attached

/-- Contexts that satisfy a test. -/
def State.countSessions (s : State) (p : Session → Bool) : Nat := (s.wkp.sessions.filter (fun e => p e.2)).length

/-- A GROUP 0x00 entry matches a port and VLAN, in a DEFINED namespace or in MATCH_ACCESS (R120). -/
def State.openAdmitted (s : State) (port vlan : Nat) : Bool :=
  s.od.vals.any (fun e =>
    let index := e.1 / 256 % 65536
    let ns := e.1 / 16777216
    (index == Od.MATCH_ACCESS || (index == Od.NS_ACCESS && s.odGet ns Od.NS_STATE 0 == 1))
      && e.1 % 256 != 0 && entryMatches e.2 port vlan false 0)

/-- Why a HELLO with a valid cookie is refused (R119, R120, R407, R500); where several reasons hold, the first in this order.
(DESIGN CHOICE, log 29) -/
def State.helloRefusal (s : State) (rx : Rx) (h : HelloBody) : Option Nat :=
  if s.val Od.DRBG_STATE = 2 then some St.RETRY_LATER
  else if h.secured && s.securedUnreachable then some St.RETRY_LATER
  else if 32768 ≤ s.countSessions (fun x => x.state != .free) then some St.NO_CONTEXT
  else if s.val Od.SESSIONS_PER_SOURCE ≤ s.countSessions (fun x => x.state != .free && x.src == rx.src) then some St.NO_CONTEXT
  else if s.val Od.HALF_OPEN_LIMIT ≤ s.countSessions (fun x => x.state == .halfOpen true || x.state == .halfOpen false) then
    some St.NO_CONTEXT
  else if !h.secured && !s.openAdmitted rx.port.val rx.vlan.toNat then some St.NOT_PERMITTED
  else none

/-- The version of a running firmware part (R593). -/
def State.runningVersion (s : State) (code : Nat) : Nat := ((s.fw.running.find? (fun p => p.code == code)).map (·.version)).getD 0

/-- The first 30 bytes of a HELLO_REPLY, all that version 2 has (R121, R147). -/
def State.replyHead (s : State) (c : Nat) (resumed : Bool) : Bytes :=
  let x := s.session c
  toBE 4 (sessionId c x.gen).toNat ++ toBE 1 3
    ++ toBE 1 ((if x.secured then 1 else 0) + (if x.ordered then 2 else 0) + (if resumed then 4 else 0))
    ++ toBE 2 x.maxPayload ++ toBE 4 (creditWord x)
    ++ toBE 4 (s.odGet 0 Od.EXIT_LATENCY 1) ++ toBE 4 (s.odGet 0 Od.EXIT_LATENCY 2)
    ++ toBE 4 (s.odGet 0 Od.EXIT_LATENCY 3) ++ toBE 4 (s.odGet 0 Od.EXIT_LATENCY 4)
    ++ toBE 1 (match s.power.engine with | .run => 0 | .hush => 1 | .doze => 2) ++ toBE 1 (s.val Od.HEALTH_STATE)

/-- A signature is made (R347): the DRBG gives its secret. -/
def State.sign (s : State) : State := ((s.draw.bump Od.CNT_SIGNATURES).perf 86 1)

/-- K, from which the session keys come: the one-step derivation of SP 800-56C with SHA-512, whose 64 bytes are one block:
counter 1, Z, FixedInfo (R123). (PRESUMED, log 22) -/
def sessionKey (z : BitVec 528) (session : BitVec 32) (th : BitVec 512) : BitVec 512 :=
  Config.sha512 (toBE 4 1 ++ toBE 66 z.toNat ++ [0x57, 0x4B, 0x50, 0x33] ++ toBE 4 session.toNat ++ toBE 64 th.toNat)

/-- TH, K_cd and K_dc of a handshake that is answered (R123). -/
def withKeys (c : Nat) (x : Session) (th : BitVec 512) (z : BitVec 528) : Session :=
  let k := (sessionKey z (sessionId c x.gen) th).toNat
  { x with transcript := th, keyCd := BitVec.ofNat 256 (k / 2 ^ 256), keyDc := BitVec.ofNat 256 k }

/-- The body of a HELLO_REPLY without its SIGNATURE (Table 3.10). -/
def State.replyFixed (s : State) (c : Nat) (resumed : Bool) : Bytes :=
  let x := s.session c
  let chain := if x.secured then Config.deviceChain else []
  s.replyHead c resumed ++ toBE 2 (if x.secured then 133 else 0) ++ toBE 4 (s.runningVersion 2)
    ++ toBE 4 (s.runningVersion 3) ++ toBE 2 chain.length ++ toBE 2 (if x.secured then 132 else 0)
    ++ (if x.secured then toBE 133 (Config.keyShare s.draws).toNat else []) ++ chain

/-- HELLO_REPLY of a context, kept to be repeated, and the keys of a secured session (R121 to R123). Table 3.9 says that
CLIENT_LABEL is echoed in it, while Table 3.10 gives it no field: it is kept and not echoed. (DESIGN CHOICE, log 29) -/
def State.helloReply (s : State) (c : Nat) (resumed : Bool) (hello : Bytes) : State :=
  let x := s.session c
  let fixed := s.replyFixed c resumed
  let th := Config.sha512 (hello ++ fixed)
  if x.secured then
    s.draw.sign.setSession c { withKeys c x th (Config.sharedX s.draws x.keyShare) with
      helloBody := hello
      replyBody := fixed ++ toBE 132 (Config.signature (toBE 64 th.toNat) (s.draws + 1)).toNat }
  else s.setSession c { x with helloBody := hello, replyBody := if x.version = 2 then s.replyHead c resumed else fixed }

/-- The kept HELLO_REPLY leaves, unencrypted, in datagrams that carry their OFFSET and its Message length (R122, R134). -/
def State.sendReply (s : State) (c prio : Nat) : State :=
  let x := s.session c
  (bodyFragments x.maxPayload x.replyBody).foldl (fun t f =>
    t.txPut x.physical prio
      (sessionFrame c x prio false (.helloReply (sessionId c x.gen) f.1 x.replyBody.length f.2))) s

/-- What is kept of a resume token (R129). The digest is SHA-512. (PRESUMED, log 22) -/
def tokenDigestOf (t : BitVec 128) : BitVec 512 := Config.sha512 (toBE 16 t.toNat)

/-- ESTABLISHED with a new resume token, of which a digest is kept (R128, R129). -/
def State.establish (s : State) (c prio : Nat) : State :=
  let x := s.session c
  let token := Config.resumeToken s.draws
  let body := toBE 4 x.group ++ toBE 16 token.toNat ++ toBE 4 (creditWord x) ++ toBE 4 (s.val Od.IDLE_TIMEOUT) ++ toBE 4 4096
  (s.draw.setSession c { x with state := .isOpen, tokenDigest := tokenDigestOf token, hasToken := true, windowRuns := false
                                gathered := [], gatherLen := none }).sessionSend c prio
    (.established (sessionId c x.gen) body)

/-- The grant that a fill of the Pocket leaves of a maximum, not below a floor (R143, R214). -/
def throttled (fill threshold max_ floor_ : Nat) : Nat :=
  if fill ≤ threshold then max_ else max floor_ (max_ * (100 - fill) / (100 - threshold))

/-- The grant of a session at the present fill of the Pocket, out of the limits in force for it (R143, R150, R214). -/
def State.granted (s : State) (x : Session) : Session :=
  let fill := s.pocketFill
  let th := s.val Od.POCKET_THROTTLE
  { x with creditUnits := throttled fill th x.unitLimit 4100, creditCmds := throttled fill th x.cmdLimit 1 }

/-- The datagrams of the responses held are datagrams of no packet number under new keys (R138). -/
def renumbered (rs : List Replay) : List Replay := rs.map (fun r => { r with waiting := r.waiting.map (fun w => (0, w.2)) })

/-- A context with the fields that a handshake gives it, the limits in force as it starts, and its grant (R130, R143, R150). A
session that is resumed is at the address and UDP port of its RESUME from then on; so an open session accepts datagrams from there
and no longer from those of its HELLO. (DESIGN CHOICE, log 29) -/
def handshakeFields (s : State) (rx : Rx) (h : HelloBody) (x : Session) : Session :=
  s.granted { x with
    version := rx.dg.version.toNat, secured := h.secured, ordered := h.ordered, port := rx.port.val
    physical := rx.physical.val, vlan := rx.vlan.toNat, udp := rx.udp.toNat, src := rx.src, srcPort := rx.srcPort
    ipv6 := rx.ipv6, dst := rx.dst, link := rx.link, pcp := rx.pcp.map (·.val)
    label := h.label, maxPayload := min h.maxPayload (s.maxPayloadOn rx h.secured), keyShare := h.keyShare
    unitLimit := s.val Od.CREDIT_BYTES_MAX, cmdLimit := s.val Od.CREDIT_CMDS_MAX, slotLimit := s.val Od.SLOTS_PER_SESSION
    replays := renumbered x.replays, gathered := [], gatherLen := none
    txPn := 0, rxPns := [], ackDue := false, ackPrio := bitsOf 7 5 rx.dg.flags.toNat }

/-- A new session takes a FREE context with the next generation (R113, R121). -/
def State.openContext (s : State) (rx : Rx) (h : HelloBody) : State :=
  match firstFree 0 32768 (Config.contextPick s.draws).val (fun c => (s.session c).state == .free) with
  | none => s
  | some c =>
    let prio := bitsOf 7 5 rx.dg.flags.toNat
    let old := s.session c
    let x := handshakeFields s rx h
      { gen := if old.gen = 16383 then 1 else old.gen + 1
        state := if h.secured then .halfOpen false else .isOpen }
    let s1 := ((s.draw.setSession c x).helloReply c false rx.dg.payload).sendReply c prio
    if h.secured || x.version == 2 then s1 else s1.establish c prio

/-- The context that a HELLO or RESUME was answered for, if this one is its duplicate (R122). -/
def State.duplicateOf (s : State) (rx : Rx) : Option Nat :=
  (s.wkp.sessions.find? (fun e => e.2.helloBody == rx.dg.payload && e.2.src == rx.src && e.2.srcPort == rx.srcPort
    && (e.2.state == .isOpen || e.2.state == .halfOpen true || e.2.state == .halfOpen false))).map (·.1)

/-- HELLO (R117 to R122). -/
def execHello (rx : Rx) (s : State) : Out :=
  if !s.wkpServed then .next (s.wkpUnserved rx)
  else
    let s0 := s.parserTakes rx
    let v2 := rx.dg.version == 2
    if !s.headerValid rx 0x01 || !wholeMessage rx.dg || bitOf 1 rx.dg.flags.toNat || !helloBodyValid false v2 rx.dg.payload then
      .next (s0.malformedDatagram rx)
    else if s.val Od.HELLO_RATE_PER_SOURCE ≤ s.hellosFrom rx.src then .next (s0.dropHello rx)
    else if s.admin.pauseStage ≠ 0 then .next s0
    else
      let s1 := (s0.countHello rx.src).perf 94 1
      let h := parseHello false rx.dg.payload
      match s.duplicateOf rx with
      | some c => .next (s1.sendReply c (bitsOf 7 5 rx.dg.flags.toNat))
      | none =>
        if !s.cookieValid rx h then .next (s1.sendCookie rx)
        else match s.helloRefusal rx h with
          | some st =>
            let s2 := s1.refuseHello rx st
            .next (if st = St.NO_CONTEXT ∧ 32768 ≤ s.countSessions (fun x => x.state != .free) then s2.raise Ev.WKP_SESSIONS_FULL
                   else s2)
          | none => .next (s1.openContext rx h)

/-- A RESUME with the latest token continues its context: an open one is OPEN again, a secured one HALF_OPEN, resumed
(R112, R114, R129). -/
def State.resumeContext (s : State) (rx : Rx) (h : HelloBody) (c : Nat) : State :=
  let prio := bitsOf 7 5 rx.dg.flags.toNat
  let old := s.session c
  let x := { handshakeFields s rx h old with
    secured := old.secured, ordered := old.ordered, state := if old.secured then .halfOpen true else .isOpen
    windowRuns := old.windowRuns && old.state == .dormant }
  let s1 := (((s.setSession c x).helloReply c true rx.dg.payload).sendReply c prio).perf 96 1
  if old.secured then s1 else s1.establish c prio

/-- RESUME (R114, R122, R129, R145). One for a context that is HALF_OPEN is dropped when it is no duplicate (R122). One with the
latest token whose SECURED bit differs from the session's is discarded; the session keeps its ORDERED bit. (DESIGN CHOICE, log 29) -/
def execResume (rx : Rx) (s : State) : Out :=
  if !s.wkpServed then .next (s.wkpUnserved rx)
  else
    let s0 := s.parserTakes rx
    if !s.headerValid rx 0x06 || !wholeMessage rx.dg || bitOf 1 rx.dg.flags.toNat || !helloBodyValid true false rx.dg.payload then
      .next (s0.malformedDatagram rx)
    else if s.val Od.HELLO_RATE_PER_SOURCE ≤ s.hellosFrom rx.src then .next (s0.dropHello rx)
    else if s.admin.pauseStage ≠ 0 then .next s0
    else
      let s1 := s0.countHello rx.src
      let h := parseHello true rx.dg.payload
      let c := contextOf h.oldSession
      let x := s.session c
      match s.duplicateOf rx with
      | some k => .next (s1.sendReply k (bitsOf 7 5 rx.dg.flags.toNat))
      | none =>
        if !s.cookieValid rx h then .next (s1.sendCookie rx)
        else if s.staleReason? h.oldSession = some 0 ∨ s.staleReason? h.oldSession = some 2 ∨ x.state = .closing then
          .next (s1.sendStale rx h.oldSession (if s.staleReason? h.oldSession = some 0 then 0 else 2))
        else if x.state = .halfOpen true ∨ x.state = .halfOpen false then .next s1
        else if x.hasToken = false ∨ x.tokenDigest ≠ tokenDigestOf h.token then
          .next ((s1.bump Od.CNT_AUTH_REFUSED).refuseHello rx St.AUTH_FAIL)
        else if h.secured ≠ x.secured then .next (s1.malformedDatagram rx)
        else if x.secured && (s.securedUnreachable || s.val Od.DRBG_STATE == 2) then .next (s1.refuseHello rx St.RETRY_LATER)
        else .next (s1.resumeContext rx h c)

/-- A handshake ends: FREE when it was entered by HELLO; DORMANT, with its replay window, fence, handles and cursors,
when it was resumed (Table 3.8, R114). (DESIGN CHOICE, log 29) -/
def State.endHandshake (s : State) (c : Nat) : State :=
  let x := s.session c
  if x.state = .halfOpen true then
    s.setSession c { x with state := .dormant, windowRuns := true, helloBody := [], replyBody := [], transcript := 0, keyCd := 0
                            keyDc := 0, gathered := [], gatherLen := none }
  else s.freeContext c

/-- A handshake is refused: CLOSE, then its end (Table 3.8). (DESIGN CHOICE, log 29) -/
def State.refuseHandshake (s : State) (c : Nat) (rx : Rx) (status : Nat) : State :=
  let s1 := (s.sendClose c status).endHandshake c
  if status = St.RETRY_LATER then s1
  else (s1.bump Od.CNT_AUTH_REFUSED).raise Ev.WKP_CERT_REJECTED [rx.src.toNat % 2 ^ 32, status]

/-- The group that a certificate's anchor gives; none when the anchor is not installed or is disabled (R126, R127). -/
def State.anchorGroup? (s : State) (k : CertCheck) (rx : Rx) : Option Nat :=
  if k.serviceAnchor && rx.udp == 7313 then some 0
  else match k.anchor with
    | none => none
    | some a =>
      let g := s.odGet a.val Od.ANCHOR_GROUP 0
      if a.val ≠ 0 ∧ s.anchorState a.val = 1 ∧ g ≠ 0 then some g else none

/-- DT lies within every validity period of the chain (R126). -/
def State.withinValidity (s : State) (k : CertCheck) : Bool :=
  decide (k.validFrom.toNat ≤ s.clock.dt) && decide (s.clock.dt ≤ k.validTo.toNat)

/-- The certificate meets every condition of R126. -/
def State.certAccepted (s : State) (k : CertCheck) : Bool :=
  k.p521Chain && decide (k.intermediates ≤ 2) && k.keyUsageOk && k.criticalExtOk
    && (s.withinValidity k || s.val Od.CERT_TIME_CHECK == 0)
    && (k.fingerprint == 0 || !(List.range 64).any (fun i => s.odGet 0 Od.REVOKED (i + 1) == k.fingerprint.toNat))

/-- The body of a FINISH has its three parts: CHAIN_LEN, the chain, the signature (R125). -/
def finishFormed (body : Bytes) : Bool := body.length == 2 + fieldAt body 0 2 + 132

/-- The digest that the signature of a FINISH is over (R125). -/
def finishDigest (x : Session) (body : Bytes) : BitVec 512 :=
  Config.sha512 (toBE 64 x.transcript.toNat ++ body.take (body.length - 132))

/-- A FINISH whose body has come whole is verified: the certificate first, then the signature (R125 to R128). A body that has not
the parts of R125 carries no certificate that could be accepted. (DESIGN CHOICE, log 29) -/
def State.finish (s : State) (rx : Rx) (cert : CertCheck) (c : Nat) (body : Bytes) : State :=
  let x := s.session c
  if s.securedUnreachable then s.refuseHandshake c rx St.RETRY_LATER
  else
    let s2 := (s.bump Od.CNT_VERIFICATIONS (cert.intermediates + 2)).perf 87 (cert.intermediates + 2)
    match s.anchorGroup? cert rx with
    | none => s2.refuseHandshake c rx St.CERT_REJECTED
    | some g =>
      if !finishFormed body || !s.certAccepted cert
          || (x.state == .halfOpen true && (x.group != g || x.serviceAnchor != cert.serviceAnchor)) then
        s2.refuseHandshake c rx St.CERT_REJECTED
      else if cert.signs ≠ finishDigest x body then s2.refuseHandshake c rx St.AUTH_FAIL
      else ((s2.setSession c { s2.session c with group := g, serviceAnchor := cert.serviceAnchor }).establish c
        (bitsOf 7 5 rx.dg.flags.toNat)).perf 95 1

/-- FINISH: its fragments are gathered, and the whole body is verified (R125 to R128, R134). `cert` is what the certificates and
the signature of the whole body are found to be. -/
def execFinish (rx : Rx) (cert : CertCheck) (s : State) : Out :=
  if !s.wkpServed then .next (s.wkpUnserved rx)
  else
    let isHalf : SessState → Bool := fun z => z == .halfOpen true || z == .halfOpen false
    let s0 := (s.parserTakes rx).decrypted rx (s.verdict rx 0x04 isHalf)
    match s.verdict rx 0x04 isHalf with
    | .accept =>
      let c := contextOf rx.dg.session
      let old := s0.session c
      if old.gatherLen.any (· != rx.dg.msgLen.toNat) then
        .next ((s0.setSession c { old with gathered := [], gatherLen := none }).malformedDatagram rx)
      else
        let frags := insertFrag (bitsOf 24 0 rx.dg.frag.toNat) rx.dg.payload old.gathered
        let x := acceptDatagram old rx
        let s1 := s0.setSession c { x with
          gathered := frags, gatherLen := some rx.dg.msgLen.toNat, ackPrio := bitsOf 7 5 rx.dg.flags.toNat }
        if (assemble frags).length = rx.dg.msgLen.toNat then .next (s1.finish rx cert c (assemble frags))
        else .next (s1.owesAck c rx)
    | v => .next (s0.notAccepted rx v)

/-- ACK_RECEIVED: responses whose datagrams are all acknowledged are released; the ACK is a datagram that is accepted, and is
acknowledged as every other (R135, R138). -/
def execAckReceived (rx : Rx) (s : State) : Out :=
  if !s.wkpServed then .next (s.wkpUnserved rx)
  else
    let s0 := (s.parserTakes rx).decrypted rx (s.verdict rx 0x12 (fun z => z == .isOpen || z == .closing))
    match s.verdict rx 0x12 (fun z => z == .isOpen || z == .closing) with
    | .accept =>
      let c := contextOf rx.dg.session
      .next ((s0.setSession c (acceptDatagram (s0.session c) rx)).owesAck c rx)
    | v => .next (s0.notAccepted rx v)

/-- CLOSE_RECEIVED: OPEN goes to CLOSING, and to FREE once its bound commands are complete (Table 3.8, R144); until then the CLOSE
is acknowledged as every datagram is (R135). -/
def execCloseReceived (rx : Rx) (s : State) : Out :=
  if !s.wkpServed then .next (s.wkpUnserved rx)
  else
    let s0 := (s.parserTakes rx).decrypted rx (s.verdict rx 0x1E (fun z => z == .isOpen))
    match s.verdict rx 0x1E (fun z => z == .isOpen) with
    | .accept =>
      let c := contextOf rx.dg.session
      let x := acceptDatagram (s0.session c) rx
      let s1 := (s0.setSession c { x with state := .closing, ackPrio := bitsOf 7 5 rx.dg.flags.toNat }).freeFilled
        (fun z => z.session == sessionId c x.gen)
      .next (if (s1.sessionSlots (sessionId c x.gen)).isEmpty then s1.finishClosing c else s1.owesAck c rx)
    | v => .next (s0.notAccepted rx v)

/-- HANDSHAKE_TIMEOUT_EXPIRY (Table 3.8, R114). -/
def execHandshakeTimeoutExpiry (context : Fin 32768) (s : State) : Out :=
  let x := s.session context.val
  if x.state = .halfOpen true ∨ x.state = .halfOpen false then .next (s.endHandshake context.val) else .next s

/-- IDLE_TIMEOUT_EXPIRY: CLOSE with reason IDLE, and FREE (Table 3.8). -/
def execIdleTimeoutExpiry (context : Fin 32768) (s : State) : Out :=
  if (s.session context.val).state = .isOpen then .next (s.closeSession context.val 1) else .next s

/-- RESUME_WINDOW_EXPIRY: a DORMANT context whose window runs goes to FREE (R114). -/
def execResumeWindowExpiry (context : Fin 32768) (s : State) : Out :=
  let x := s.session context.val
  if x.state = .dormant ∧ x.windowRuns = true then .next (s.freeContext context.val) else .next s

/-- ACK_DELAY_EXPIRY: the pending acknowledgment leaves in an ACK (R135). -/
def execAckDelayExpiry (context : Fin 32768) (s : State) : Out :=
  let x := s.session context.val
  if x.ackDue ∧ (x.state = .isOpen ∨ x.state = .closing ∨ x.state = .halfOpen true ∨ x.state = .halfOpen false) then
    .next (s.sessionSend context.val x.ackPrio (.ack (sessionId context.val x.gen)))
  else .next s

/-- COOKIE_ROTATION: the secret is replaced, and the one before it stays valid (R118). -/
def execCookieRotation (s : State) : Out :=
  if s.live then
    .next ({ s with wkp := { s.wkp with secretNow := Config.cookieSecret s.draws, secretOld := s.wkp.secretNow } }).draw
  else .next s

/-- CURSOR_IDLE_EXPIRY (R172). -/
def execCursorIdleExpiry (cursor : BitVec 64) (s : State) : Out :=
  .next { s with kv := { s.kv with cursors := s.kv.cursors.filter (fun k => k.ident != cursor.toNat) } }

/-- The sessions whose packet numbers are used up, in one direction or the other (R139). -/
def State.exhausted (s : State) : List Nat :=
  (s.wkp.sessions.filter (fun e => e.2.state == .isOpen && (numbersUsed e.2 || e.2.rxPns.contains (2 ^ 48 - 1)))).map (·.1)

/-- Every session whose packet numbers are used up is closed, reason EXHAUSTED (Table 3.8, R139, R144). -/
def State.closeExhausted (s : State) : State := s.exhausted.foldl (fun t c => t.closeSession c 2) s

/-- CREDIT_RECOMPUTE: the grants of all sessions, each out of its own limits (R143, R150, R214). -/
def execCreditRecompute (s : State) : Out :=
  let fill := s.pocketFill
  let on := decide (s.val Od.POCKET_THROTTLE < fill)
  let s1 : State := { s with wkp := { s.wkp with
    sessions := s.wkp.sessions.map (fun e => (e.1, if e.2.state = .free then e.2 else s.granted e.2)) } }
  let s2 : State := { s1 with pocket := { s1.pocket with
    throttled := on, throttledAt := if on && !s.pocket.throttled then s.clock.ticks else s.pocket.throttledAt } }
  .next (if on && !s.pocket.throttled then s2.raise Ev.POCKET_THROTTLE_ON [fill]
         else if !on && s.pocket.throttled then
           s2.raise Ev.POCKET_THROTTLE_OFF [(s.clock.ticks - s.pocket.throttledAt) * 8 / 1000000]
         else s2)

end Sys2Proof.Machine
end

