-- ==== Sys2Proof/Machine/Datagram.lean ====
section
/-! DEFINITION. COMMAND_DATAGRAM: reassembly, duplicates, credit, slots and reservations (R131 to R142, R197 to R199,
R223). -/

namespace Sys2Proof.Machine

/-- A CSN above every assigned one: the flush of the first phase of DROWSE entry takes every Pocket entry (R227). -/
def everyCsn : Nat := 2 ^ 64

/-- An entry into a lower power state is abandoned (R226, R227, R549). -/
def State.abandonDrowse (s : State) : State :=
  if s.power.phase = .drowse1 then
    { s with power := { s.power with phase := .running }
             seq := { s.seq with flushing := s.seq.flushing.filter (· != everyCsn) } }.bump Od.CNT_ENTRY_ABANDONED
  else s

/-- The engine is entering HUSH or DOZE: HUSH in the tick of its HUSH_ENTRY, DOZE for the 1 ms of R546. (DESIGN CHOICE, log 32) -/
def State.entering (s : State) : Bool :=
  match s.power.engine with
  | .run => false
  | .hush => s.clock.ticks == s.power.enteredAt
  | .doze => decide (s.clock.ticks < s.power.enteredAt + 125000)

/-- A command arrives: an entry into a lower power state that runs is reversed (R226, R227, R549). -/
def State.reverseEntry (s : State) : State :=
  if s.entering then { s with power := { s.power with engine := .run } }.bump Od.CNT_ENTRY_ABANDONED else s.abandonDrowse

/-- The datagram carries the start of its message, and with it the opcode. -/
def opensMessage (d : Dgram) : Bool := bitsOf 24 0 d.frag.toNat == 0

/-- The opcode of a command, when the datagram carries it. -/
def dgOpcode (d : Dgram) : Nat := if opensMessage d then fieldAt d.payload 0 1 else 0

/-- The slots of the command's origin: first and count (Table 5.1). A datagram that comes before the start of its message does not
tell the opcode: on UDP 7312 its command counts as one of the object dictionary, on UDP 7311 as one of its data port.
(DESIGN CHOICE, log 41) -/
def originSlots (rx : Rx) : Nat × Nat :=
  let op := dgOpcode rx.dg
  let od := op == 0x60 || op == 0x61 || (op == 0x07 && fieldAt rx.dg.payload 2 2 == 0)
    || (!opensMessage rx.dg && rx.udp == 7312)
  if rx.physical.val = 6 || od then (384, 63) else (64 * rx.physical.val, 64)

/-- The Pocket bytes that a command reserves when its slot is claimed (R199); the journal record beside them is counted by the
slot (`owesRecord`). A command of which the start of the message has not come reserves too: it may be a put.
(DESIGN CHOICE, log 41) -/
def reservationOf (d : Dgram) : Nat :=
  if opensMessage d then bodyReservation d.msgLen.toNat (dgOpcode d) else roundUp d.msgLen.toNat 4096

/-- The session moves its replay window to the highest tag received (R99, R131). -/
def windowTo (x : Session) (t : Nat) : Session :=
  if t ≤ x.highTag then x
  else
    let b := windowBase t
    { x with
      highTag := t, seenTags := x.seenTags.filter (fun k => b ≤ k)
      replays := x.replays.filter (fun r => b ≤ extTag t r.tag)
      msgLens := x.msgLens.filter (fun e => b ≤ e.1)
      again := x.again.filter (fun e => b ≤ e.1) }

/-- The waiting command with the highest tag above a new one, which gives up its slot (R133). -/
def State.displaced? (s : State) (c t : Nat) : Option Nat :=
  let x := s.session c
  let waits := (s.sessionSlots (sessionId c x.gen)).filter (fun e =>
    e.2.state == .filled && slotComplete e.2 && s.waitsForTag e.1 e.2 && decide (t < extTag x.highTag e.2.tag.toNat))
  (waits.find? (fun e => waits.all (fun f => extTag x.highTag f.2.tag.toNat ≤ extTag x.highTag e.2.tag.toNat))).map (·.1)

/-- Room among the session's slots: as it is, or after one waiting command is freed (R133). -/
def State.sessionRoom (s : State) (c t : Nat) : Option State :=
  let x := s.session c
  if (s.sessionSlots (sessionId c x.gen)).length < x.slotLimit then some s
  else (s.displaced? c t).map (fun n => (s.freeSlot n).bump Od.CNT_GAP_DROPS)

/-- A command enters a FREE slot (R198, R199). -/
def State.claimSlot (s : State) (rx : Rx) (c n t reserved : Nat) : State :=
  let d := rx.dg
  let x := s.session c
  let f := d.flags.toNat
  let i := if x.seenTags.contains t then (SMap.getD x.again t 0 + 1) % 128 else 0
  let again := if x.seenTags.contains t then SMap.put x.again t i else x.again
  let x1 : Slot :=
    { state := .filled, ordered := bitOf 4 f && x.ordered, timed := bitOf 3 f, prio := bitsOf 7 5 f
      origin := if 384 ≤ n then 6 else n / 64, session := d.session, context := c, tag := d.tag, reserved := reserved
      msgLen := d.msgLen.toNat, frags := [(bitsOf 24 0 d.frag.toNat, d.payload)]
      tsFirst := s.clock.dt, teFirst := s.clock.te, port := rx.port.val, physical := rx.physical.val
      vlan := rx.vlan.toNat, udp := rx.udp.toNat, inst := i, keyHandle := keyHandleOf n s.clock.dt }
  ((((s.setSession c { x with again := again, msgLens := SMap.put x.msgLens t d.msgLen.toNat }).setSlot n x1).perf 5 1).perf 8 (reserved / 1024)).reverseEntry

/-- A command exceeds the grant in force (R141, R142). -/
def State.exceedsGrant (s : State) (c : Nat) (d : Dgram) : Bool :=
  let x := s.session c
  let out := s.sessionSlots (sessionId c x.gen)
  decide (x.creditCmds < out.length + 1)
    || decide (x.creditUnits * 4096 < (out.map (fun e => e.2.msgLen)).sum + d.msgLen.toNat)

/-- The first datagram of a new tag: refused, or its slot claimed (R142, R164, R198, R199, R223). `s` is the state
before the datagram is accepted, `a` after. (DESIGN CHOICE, log 41) -/
def State.newCommand (s a : State) (rx : Rx) (c t : Nat) : State :=
  let d := rx.dg
  let prio := bitsOf 7 5 d.flags.toNat
  let op := dgOpcode d
  let o := originSlots rx
  if s.exceedsGrant c d then (a.refuseUnbound c prio op d.tag.toNat St.NO_CREDIT 0).bump Od.CNT_NO_CREDIT
  else if s.admin.pauseStage ≠ 0 then
    if (s.session c).pausedTags.contains t then s
    else
      let a1 := a.setSession c { a.session c with pausedTags := t :: (a.session c).pausedTags }
      a1.refuseUnbound c prio op d.tag.toNat St.SERVICE_PAUSED 0
  else
    match a.sessionRoom c t with
    | none => (a.refuseUnbound c prio op d.tag.toNat St.RETRY_LATER 50).bump Od.CNT_NO_SLOT
    | some b =>
      match firstFree o.1 o.2 (Config.slotPick b.draws).val (fun n => (b.slot n).state == .free) with
      | none => (a.refuseUnbound c prio op d.tag.toNat St.RETRY_LATER 50).bump Od.CNT_NO_SLOT
      | some n =>
        let r := reservationOf d
        if r ≠ 0 ∧ 83886080 < b.valueAreaUsed + r then s.bump Od.CNT_POCKET_REFUSALS
        else b.draw.claimSlot rx c n t r

/-- A datagram of a command that is kept or complete (Table 3.12). -/
def State.resendResponse (s : State) (c : Nat) (r : Replay) : State :=
  let x := s.session c
  let fs := if r.held then r.waiting.map (fun w => (w.2.1, w.2.2)) else replyFragments x.maxPayload r.gap r.body
  let r1 := { r with held := true, waiting := numbered (x.txPn + 1) fs }
  ((s.setSession c { x with replays := x.replays.map (fun y => if y.tag = r.tag then r1 else y) }).sendFragments c r.prio
    r.tag r.inst (r.body.length + r.gap) false fs).perf 98 fs.length

/-- One more fragment of a message that is being reassembled (R134). -/
def State.addFragment (s : State) (n : Nat) (x : Slot) (d : Dgram) : State :=
  s.setSlot n { x with frags := insertFrag (bitsOf 24 0 d.frag.toNat) d.payload x.frags }

/-- The slot that holds a tag of a session. -/
def State.slotOfTag? (s : State) (sid tag : BitVec 32) : Option (Nat × Slot) :=
  (s.sessionSlots sid).find? (fun e => e.2.tag == tag)

/-- An accepted COMMAND datagram, by the state of its command (Table 3.12). -/
def State.commandByTag (s a : State) (rx : Rx) (c : Nat) : State :=
  let d := rx.dg
  let t := extTag (s.session c).highTag d.tag.toNat
  if t < windowBase (max (s.session c).highTag t) then
    (a.refuseUnbound c (bitsOf 7 5 d.flags.toNat) (dgOpcode d) d.tag.toNat St.REPLAYED 0).bump Od.CNT_REPLAYED
  else
    match s.slotOfTag? d.session d.tag with
    | some (n, x) => if x.state = .filled ∧ slotComplete x = false then a.addFragment n x d else a
    | none =>
      match (a.session c).replays.find? (fun r => r.tag == d.tag.toNat) with
      | some r => a.resendResponse c r
      | none => s.newCommand a rx c t

/-- The Message length of a datagram differs from that of an earlier one of the same command tag (R110). -/
def State.lengthDiffers (s : State) (c t : Nat) (d : Dgram) : Bool :=
  ((s.slotOfTag? d.session d.tag).map (fun e => e.2.msgLen != d.msgLen.toNat)).getD
    ((SMap.get? (s.session c).msgLens t).any (· != d.msgLen.toNat))

/-- A partial message already gathered is discarded (R110). -/
def State.dropPartial (s : State) (d : Dgram) : State :=
  match s.slotOfTag? d.session d.tag with
  | some (n, x) => if x.state = .filled ∧ slotComplete x = false then s.freeSlot n else s
  | none => s

/-- COMMAND_DATAGRAM. -/
def execCommandDatagram (rx : Rx) (s : State) : Out :=
  if !s.wkpServed then .next (s.wkpUnserved rx)
  else
    let s0 := (s.noteReady.parserTakes rx).decrypted rx (s.verdict rx 0x10 (fun z => z == .isOpen))
    let d := rx.dg
    match s.verdict rx 0x10 (fun z => z == .isOpen) with
    | .accept =>
      let c := contextOf d.session
      let x := acceptDatagram (s0.session c) rx
      let t := extTag x.highTag d.tag.toNat
      if d.tag = 0 then .next (s0.malformedDatagram rx)
      else if s.lengthDiffers c t d then .next ((s0.dropPartial d).malformedDatagram rx)
      else
        let a := (s0.setSession c (windowTo x t)).owesAck c rx
        .next (s0.commandByTag a rx c).noteReady
    | v => .next (s0.notAccepted rx v)

end Sys2Proof.Machine
end

