-- ==== Sys2Proof/Machine/Pause.lean ====
section
/-! DEFINITION. The service pause (R222 to R224), HUSH and DOZE (R225, R545, R546), why DROWSE is deferred (R550), and
what a restart of the service leaves of the sessions (Table 3.8, R100). -/

namespace Sys2Proof.Machine

/-- A slot holds bound work that is to complete before the engine stops: not a routine that has published, which is checkpointed
while it cannot go on, nor the first stage of SANITISE or FORMAT (R220, R222). -/
def State.mustComplete (s : State) (x : Slot) : Bool :=
  (x.state == .bound || x.state == .executing || x.state == .retiring)
    && (match x.routine with | none => true | some (.holdScan _) => s.kv.loaded && s.live | some _ => false)

/-- Client work that has been bound and has not completed; internal slots and the INCIDENT hold apart. -/
def State.boundWork (s : State) : Bool := s.seq.slots.any (fun e => e.1 < 447 && s.mustComplete e.2)

/-- A session's digest: what Promise 7 needs, without the keys (R100, R112). -/
def digestOf (x : Session) : Session :=
  { x with
    state := .dormant, rxPns := [], txPn := 0, ackDue := false, helloBody := [], replyBody := [], windowRuns := false
    transcript := 0, keyCd := 0, keyDc := 0, gathered := [], gatherLen := none, pausedTags := []
    replays := (x.replays.filter (·.keep)).map (fun r => { r with held := false, waiting := [] }) }

/-- A context after its service restarts (Table 3.8): OPEN sessions of version 3 and resumed handshakes are DORMANT,
everything else ends. -/
def State.restartSession (s : State) (c : Nat) : State :=
  let x := s.session c
  match x.state with
  | .isOpen => if x.version = 2 then s.freeContext c else s.setSession c (digestOf x)
  | .halfOpen true => s.setSession c (digestOf x)
  | .halfOpen false => s.freeContext c
  | .closing => s.freeContext c
  | .dormant => s.setSession c { x with windowRuns := false }
  | .free => s

/-- Every context after its service restarts. -/
def State.restartSessions (s : State) : State := (s.wkp.sessions.map (·.1)).foldl State.restartSession s

/-- Every context goes to FREE (R115, R234). -/
def State.freeAllSessions (s : State) : State :=
  (s.wkp.sessions.filter (fun e => e.2.state != .free)).foldl (fun t e => t.freeContext e.1) s

/-- RESUME_WINDOW starts for every DORMANT context (R114). -/
def State.startWindows (s : State) : State :=
  { s with wkp := { s.wkp with
      sessions := s.wkp.sessions.map (fun e => (e.1, if e.2.state = .dormant then { e.2 with windowRuns := true } else e.2)) } }

/-- A request for a service reset is refused in the present state (R222). -/
def State.resetRefused (s : State) : Bool :=
  !s.power.firstOpen || !(s.power.phase == .running || s.power.phase == .drowse1)

/-- Stage 1 of a pause: intake closes and FILLED slots are freed without a response (Table 5.7). -/
def State.beginPause (s : State) (activation : Bool) : State :=
  let n := (s.seq.slots.filter (fun e => e.2.state == .filled)).length
  let s1 := ((s.freeFilled (fun _ => true)).bump Od.CNT_UNBOUND_FREED n).setVal Od.INTAKE_STATE 1
  { s1 with admin := { s1.admin with pauseStage := 1, activation := activation, slotsFreed := n } }

/-- A service reset begins, or joins the pause that runs (R222). -/
def State.serviceReset (s : State) : State :=
  if s.admin.pauseStage ≠ 0 then s else (s.abandonDrowse.beginPause false).setVal Od.SERVICE_RESET 1

/-- The intake state of a port is made new (Table 5.7, stage 4). -/
def reinitPort (p : Port) : Port := { p with rxq := [], xoff := [], held := [], ignoring := [] }

/-- SERVICE_PAUSE_DRAINED: stages 2 to 4 of a service reset (Table 5.7). -/
def execServicePauseDrained (s : State) : Out :=
  if s.admin.pauseStage = 1 ∧ s.boundWork = false then
    let s1 : State := if s.admin.formatRuns then s.freeAllSessions else s.restartSessions
    let s2 : State := { s1 with
      ports := s1.ports.map (fun e => (e.1, Port.start (reinitPort e.2) (s1.clock.dt, s1.clock.te)))
      admin := { s1.admin with pauseStage := 3 } }
    .next (s2.setVal Od.LAST_RESET_CSN s2.seq.csnLast)
  else .next s

/-- Stage 5: intake reopens, and RESUME_WINDOW starts (Table 5.7, R114, R223). -/
def State.endPause (s : State) (pauseUs : Nat) : State :=
  let s1 : State := { s.startWindows with admin := { s.admin with pauseStage := 0, activation := false } }
  let s2 : State := { s1 with wkp := { s1.wkp with
    sessions := s1.wkp.sessions.map (fun e => (e.1, { e.2 with pausedTags := [] })) } }
  ((s2.setVal Od.INTAKE_STATE 0).setVal Od.SERVICE_RESET 0).raiseTo Od.SERVICE_PAUSE_MAX pauseUs

/-- SERVICE_PAUSE_REOPEN: intake reopens after a service reset; in FORMAT only once its stage 2 is over (R222, R234).
An activation's pause ends with its own step (R606). -/
def execServicePauseReopen (pauseUs : BitVec 32) (s : State) : Out :=
  if s.admin.pauseStage = 3 ∧ s.admin.activation = false ∧ (s.admin.formatRuns = false ∨ s.val Od.FORMAT_STATE ≠ 1) then
    .next ((s.endPause pauseUs.toNat).raise Ev.SERVICE_RESET_DONE [pauseUs.toNat, s.admin.slotsFreed])
  else .next s

/-- SANITISE or FORMAT runs. -/
def State.erasureRuns (s : State) : Bool := s.admin.sanitising.isSome || s.admin.formatRuns

/-- DROWSE_DEFER: the reason in force (R550); 0 none, 1 Gusset, 2 SANITISE or FORMAT, 3 orphan mode, 4 disabled.
(DESIGN CHOICE, log 32) -/
def State.drowseDefer (s : State) : Nat :=
  if s.val Od.DROWSE_ENABLE = 0 then 4
  else if s.seam.orphan then 3
  else if s.erasureRuns && !s.power.routinesPaused then 2
  else if s.val Od.GUSSET_STATE = 1 && !s.power.routinesPaused then 1
  else 0

/-- No drain, collection, patrol or media operation runs (Table 5.8). -/
def State.mediaQuiet (s : State) : Bool :=
  s.flash.collecting.isNone && s.flash.folding.isNone && s.val Od.GUSSET_STATE != 1 && !s.erasureRuns
    && !s.flash.stripes.any (fun e => e.2.inFlight || e.2.state == .erasing)

/-- An entry into a power state counted (0x2189). -/
def State.countEntry (s : State) (sub : Nat) : State := s.bump Od.CNT_STATE_ENTRIES 1 sub 64

/-- HUSH_ENTRY: every slot is FREE and no media operation runs (R225, R545). -/
def execHushEntry (s : State) : Out :=
  if s.power.phase = .running ∧ s.power.engine = .run ∧ s.seq.slots = [] ∧ s.mediaQuiet = true then
    .next ({ s with power := { s.power with engine := .hush, enteredAt := s.clock.ticks } }.countEntry 1)
  else .next s

/-- HUSH_EXIT: a frame, an event or work has woken the engine, and the exit latency has passed (R225, R545).
(DESIGN CHOICE, log 32) -/
def execHushExit (s : State) : Out :=
  if s.power.engine = .hush then .next { s with power := { s.power with engine := .run } } else .next s

/-- DOZE_ENTRY: no command is bound, the Pocket is empty and no background work runs (R225, R228, R546, R553). -/
def execDozeEntry (s : State) : Out :=
  if s.power.phase = .running ∧ s.power.engine ≠ .doze ∧ s.seq.slots = [] ∧ s.pocketUsed = 0 ∧ s.mediaQuiet = true
      ∧ s.power.firstOpen = true then
    .next ({ s with power := { s.power with engine := .doze, enteredAt := s.clock.ticks, dozeDepth := s.val Od.DOZE_DEPTH } }.countEntry 2)
  else .next s

/-- DOZE_EXIT: a command or work has woken the engine, and the exit latency has passed (R225, R546). (DESIGN CHOICE, log 32) -/
def execDozeExit (s : State) : Out :=
  if s.power.engine = .doze then .next { s with power := { s.power with engine := .run } } else .next s

end Sys2Proof.Machine
end

