-- ==== Sys2Proof/Machine/Incident.lean ====
section
/-! DEFINITION. Meanings of the INCIDENT input (R255 to R257, R516). -/

namespace Sys2Proof.Machine

/-- An INCIDENT hold is bound, and placed at once when its interlock is satisfied. -/
def State.startIncident (s : State) (h : IncidentHold) : State :=
  let s1 := s.bindIncident h
  if s1.interlockFree 447 (s1.slot 447) then s1.placeIncident 447 h else s1

/-- INCIDENT is sampled: the engine is powered, and no Hem runs (R516). -/
def State.incidentSeen (s : State) : Bool :=
  s.power.phase == .boot || s.power.phase == .running || s.power.phase == .drowse1 || s.power.phase == .drowse2

/-- INCIDENT_REARM has not passed since the last assertion that placed a hold, in ticks of CLK_TIME (R257). -/
def State.rearming (s : State) : Bool := s.rearmingAt s.clock.ticks

/-- INCIDENT_ASSERT: a hold over the incident window; before intake first opens it is latched, within INCIDENT_REARM it is
ignored (R255, R257, R516). (DESIGN CHOICE, log 33) -/
def execIncidentAssert (s : State) : Out :=
  if s.incidentSeen = false ∨ s.power.incidentLow = true then .next s
  else
    let s1 : State := { s with power := { s.power with incidentLow := true } }.setVal Od.INCIDENT_STATE 1
    if s.rearming then .next (s1.bump Od.INCIDENT_IGNORED)
    else
      let h : IncidentHold := { dt := s.clock.dt, toDt := none, tick := s.clock.ticks }
      if s.power.firstOpen = false ∨ (s.slot 447).state ≠ .free then
        .next { s1 with power := { s1.power with incidentLatched := s1.power.incidentLatched ++ [h] } }
      else .next (s1.startIncident h)

/-- INCIDENT_RELEASE (R516). -/
def execIncidentRelease (s : State) : Out :=
  if s.incidentSeen = true ∧ s.power.incidentLow = true then
    .next ({ s with power := { s.power with incidentLow := false } }.setVal Od.INCIDENT_STATE 0)
  else .next s

/-- The supply was lost before a second hold was due: it is placed once the directory is loaded (R256). -/
def State.secondAtLoad (s : State) : Bool :=
  s.power.phase == .unpowered || (s.power.phase == .hem && !s.power.thermal)
    || (s.live && !s.kv.loaded && decide (s.power.startKind ≤ 1))

/-- INCIDENT_AFTER_EXPIRY: the oldest second hold is placed, or waits for slot 447 or for intake to open (R256).
(DESIGN CHOICE, log 33) -/
def execIncidentAfterExpiry (s : State) : Out :=
  match s.power.afterDue with
  | [] => .next s
  | h :: hs =>
    if s.secondAtLoad then .next s
    else if s.power.firstOpen = true ∧ s.incidentSeen = true ∧ (s.slot 447).state = .free then
      .next ({ s with power := { s.power with afterDue := hs } }.startIncident h)
    else .next { s with power := { s.power with afterDue := hs, incidentLatched := s.power.incidentLatched ++ [h] } }

/-- The second holds that a loss of supply has kept are placed when the directory is loaded (R256). -/
def State.secondsAtLoad (s : State) : State :=
  if s.power.startKind ≤ 1 ∧ s.power.afterDue ≠ [] then
    { s with power := { s.power with afterDue := [], incidentLatched := s.power.incidentLatched ++ s.power.afterDue } }.nextIncident
  else s

end Sys2Proof.Machine
end

