-- ==== Sys2Proof/Machine/Seam.lean ====
section
/-! DEFINITION. Meanings of the Seam and the supervisor: ATTACH, orphan mode, register accesses, submissions, restarts
(R488 to R502). -/

namespace Sys2Proof.Machine

/-- Orphan mode begins (R499). -/
def State.enterOrphan (s : State) : State :=
  ({ s with seam := { s.seam with up := false, orphan := true, orphanUnread := true, attachSent := true } }.bump
    Od.SEAM_LOSSES).raise Ev.SEAM_LOST

/-- ATTACH_START_TIMEOUT: no ATTACH by t0 + 5 s (R540). -/
def execAttachStartTimeout (s : State) : Out :=
  if s.live = true ∧ s.seam.attached = false ∧ s.seam.orphan = false then .next s.enterOrphan else .next s

/-- SEAM_LOST (R499). -/
def execSeamLost (s : State) : Out :=
  if s.live = true ∧ s.seam.orphan = false then .next s.enterOrphan else .next s

/-- The outcome of an ATTACH as LAST_ATTACH has it (Table 13.4). -/
def State.attachOutcome (s : State) (m : AttachMsg) : Nat :=
  if m.supervisorEpoch.toNat < s.seam.attachedSe then 1
  else if m.knownEe.toNat ≠ s.val Od.ENGINE_EPOCH then 4
  else if m.supervisorEpoch.toNat = s.seam.attachedSe then 2 else 3

/-- A die that waited for the Seam starts its Gusset (R289). -/
def State.startWaitingGusset (s : State) : State :=
  match s.flash.gussetQueue with
  | [] => s
  | d :: ds =>
    if s.val Od.GUSSET_STATE = 0 then
      let s1 : State := { s with flash := { s.flash with gussetQueue := ds } }
      (((s1.setVal Od.GUSSET_QUEUED ds.length).beginGusset d).advanceGusset (ds.length + 1))
    else s

/-- Orphan mode ends: SEAM_RESTORED, the queued messages in order, the networks' boot-up, the dies that waited (R502). -/
def State.endOrphan (s : State) (lossMs : Nat) : State :=
  let s1 : State := { s with seam := { s.seam with orphan := false, orphanLong := false, up := true } }
  let s2 := ((s1.bump Od.ORPHAN_SECONDS (lossMs / 1000)).raiseTo Od.ORPHAN_LONGEST lossMs).raise Ev.SEAM_RESTORED [lossMs]
  let s3 := State.seamDeliverAll s2.seam.queue.length s2
  s3.canBootAll.startWaitingGusset.evaluateHealth

/-- The self-tests of BLD and SUP pass when ATTACH completes, and with them every test has ended but one of patches that have not been
loaded (R613, Table 18.9). -/
def State.attachPasses (s : State) : State :=
  if s.fw.phase = .confirming then
    s.setVal Od.FW_SELFTEST (Nat.lor (s.val Od.FW_SELFTEST)
      (if s.val Od.MCODE_PATCH_STATE != 1 || (s.fw.unchanged.contains 3 && s.fw.unchanged.contains 4) then 0x83 else 3))
  else s

/-- The supervisor restarts (R494, R498); cause 0 watchdog, 1 supervisor fault, 2 partition error. A download and a live dump that it was
writing are ended. (DESIGN CHOICE, log 42) -/
def State.supRestart (s : State) (cause : Nat) : State :=
  let s1 := ((s.bump Od.SUP_RESTARTS).bump Od.SUPERVISOR_EPOCH).abandonDownload
  let s2 := if s1.power.phase = .fatalStop then s1 else s1.abandonDump
  let s3 : State := { s2 with seam := { s2.seam with attachSent := true } }
  s3.raise Ev.SUP_RESTART [s3.val Od.SUPERVISOR_EPOCH, cause]

/-- ATTACH (R495, R496, R502). A refused supervisor restarts (Table 13.4). (DESIGN CHOICE, log 42) -/
def execAttach (m : AttachMsg) (lossMs : BitVec 32) (s : State) : Out :=
  if s.live = false then .next s
  else
    let o := s.attachOutcome m
    let s1 := s.setVal Od.LAST_ATTACH o
    let answered (t : State) := t.emit (.attachAnswered o (s.val Od.ENGINE_EPOCH) s.seam.attachedSe s.seq.csnLast
      (s.val Od.HEALTH_STATE) (s.val Od.INTAKE_STATE))
    if o = 1 then .next ((answered s1).supRestart 1)
    else
      let s2 : State := { s1 with seam := { s1.seam with
        attached := true, attachSent := false, attachedSe := m.supervisorEpoch.toNat, knownEe := s.val Od.ENGINE_EPOCH } }
      let s3 := if s.seam.orphan then s2.endOrphan lossMs.toNat else { s2 with seam := { s2.seam with up := true } }
      .next ((answered s3 |>.raise Ev.ATTACH_DONE [o, s.val Od.ENGINE_EPOCH, m.supervisorEpoch.toNat]).attachPasses)

/-- ATTACH_RETRY: an ATTACH without an answer is sent again (R495). -/
def execAttachRetry (s : State) : Out :=
  if s.canPowered = true ∧ s.seam.attachSent = true then .next (s.emit .attachAsked) else .next s

/-- ORPHAN_REPLACE: orphan mode has lasted 60 s (R501). -/
def execOrphanReplace (s : State) : Out :=
  if s.live = true ∧ s.seam.orphan = true ∧ s.seam.orphanLong = false then
    .next (({ s with seam := { s.seam with orphanLong := true } }.evaluateHealth).raise Ev.ORPHAN_REPLACE)
  else .next s

/-- A register access that is not carried out: beyond the supervisor partition, the one region of the LPDDR that the supervisor
reaches, or a write to a register that it may not write (R20, R490). -/
def accessRefused (a : SeamAccess) : Bool :=
  if a.partition then decide (lpddrRegions.getD 0 0 < a.address.toNat + 8) else a.write && !a.writable

/-- SEAM_REGISTER_ACCESS: a read answers the supervisor; key material and refused reads read as 0; the partition holds what
was written, and so does a register of the supervisor-writable part; a register that was not written, and one that is read-only,
reads a value that the spec does not give (R490). (DESIGN CHOICE, log 42) -/
def execSeamRegisterAccess (a : SeamAccess) (s : State) : Out :=
  if s.live = false ∨ s.seam.up = false then .next s
  else if accessRefused a then
    let s1 := (s.bump Od.SEAM_ACCESS_REFUSED).raise Ev.SEAM_ACCESS_VIOLATION [a.address.toNat / 2 ^ 32, a.address.toNat]
    .next (if a.write then s1 else s1.answer 0 (.ok (toBE 8 0)))
  else if a.partition then
    (if a.write then
      .next { s with seam := { s.seam with partition := if a.value = 0 then SMap.erase s.seam.partition (a.address.toNat / 8)
                                                        else SMap.put s.seam.partition (a.address.toNat / 8) a.value } }
     else .next (s.answer 0 (.ok (toBE 8 (SMap.getD s.seam.partition (a.address.toNat / 8) 0).toNat))))
  else if a.write then
    .next { s with seam := { s.seam with registers := SMap.put s.seam.registers a.address.toNat a.value } }
  else if a.keyMaterial then .next (s.answer 0 (.ok (toBE 8 0)))
  else match (if a.writable then SMap.get? s.seam.registers a.address.toNat else none) with
  | some v => .next (s.answer 0 (.ok (toBE 8 v.toNat)))
  | none => .next ((s.answer 0 (.ok (toBE 8 (Config.engineRegister s.draws).toNat))).draw)

/-- SEAM_SLOT_SUBMIT: the doorbell fills a supervisor slot from the descriptor, with its reservation (R199, R491). -/
def execSeamSlotSubmit (supTag : BitVec 32) (body : Bytes) (s : State) : Out :=
  if s.live = false ∨ s.seam.up = false ∨ s.power.firstOpen = false ∨ s.admin.pauseStage ≠ 0 then .next s
  else
    match firstFree 384 63 (Config.slotPick s.draws).val (fun n => (s.slot n).state == .free) with
    | none => .next s
    | some n =>
      let r := bodyReservation body.length (fieldAt body 0 1)
      if r ≠ 0 ∧ 83886080 < s.valueAreaUsed + r then .next (s.bump Od.CNT_POCKET_REFUSALS)
      else
      .next ((s.draw.setSlot n { state := .filled, origin := 6, context := 32768, msgLen := body.length, frags := [(0, body)]
                                 reserved := r, tsFirst := s.clock.dt, teFirst := s.clock.te, port := 7, physical := 7, udp := 0
                                 supTag := some supTag, keyHandle := keyHandleOf n s.clock.dt }).perf 5 1)

/-- SEAM_EVENT_MESSAGE: the oldest waiting event message crosses the Seam (R492). -/
def execSeamEventMessage (s : State) : Out :=
  if s.live = true ∧ s.seam.up = true then .next s.seamDeliver else .next s

/-- SEAM_DEGRADED (R488). -/
def execSeamDegraded (lanes8 rate8 : Bool) (s : State) : Out :=
  if s.live = true ∧ (lanes8 || rate8) = true then
    let w := if lanes8 then 8 else 16
    let r := if rate8 then 8 else 16
    .next (((s.setVal Od.SEAM_WIDTH w).setVal Od.SEAM_RATE r).raise Ev.SEAM_DEGRADED [w, r])
  else .next s

/-- SUP_WATCHDOG_EXPIRY (R498). -/
def execSupWatchdogExpiry (s : State) : Out :=
  if s.canPowered then .next (s.supRestart 0) else .next s

/-- A service reset asked for by the supervisor, where R222 allows one. -/
def State.supAsksReset (s : State) : State := if s.seam.up && !s.resetRefused then s.serviceReset else s

/-- SUP_SLOT_TIMEOUT: a supervisor slot has not retired within 30 s (R497). -/
def execSupSlotTimeout (slot : Fin 512) (s : State) : Out :=
  if 384 ≤ slot.val ∧ slot.val < 447 ∧ (s.slot slot.val).state ≠ .free then .next s.supAsksReset else .next s

/-- INTAKE_HEARTBEAT_STALL (R497). -/
def execIntakeHeartbeatStall (s : State) : Out :=
  if s.live then .next s.supAsksReset else .next s

end Sys2Proof.Machine
end

