-- ==== Sys2Proof/Machine/Recorder.lean ====
section
/-! DEFINITION. Meanings of events, the recorder, performance counters, fatal errors and dumps (R554 to R575), as far as
no OD write starts them. -/

namespace Sys2Proof.Machine

/-- EVENT_RAISE (R556). -/
def execEventRaise (source : Byte) (params : List (BitVec 32)) (s : State) : Out :=
  if s.canPowered then .next (s.raise source.toNat (params.map (·.toNat))) else .next s

/-- The summary of one source's suppressed raises (R559). -/
def State.summarise (s : State) (src n : Nat) : State :=
  let s1 := s.odPut src Od.EVENT_SUPPRESSED 0 ((s.odGet src Od.EVENT_SUPPRESSED 0 + n) % 2 ^ 32)
  s1.record (0x0100 + src) [n, s.seconds]

/-- The sub-index of STATE_SECONDS that a second counts in. -/
def State.secondsSub (s : State) : Nat := match s.power.engine with | .run => 1 | .hush => 2 | .doze => 3

/-- The confirmation window counts down while the module is powered and not in DROWSE (R611). -/
def State.confirmSecond (s : State) : State :=
  if s.fw.phase = .confirming then s.setVal Od.FW_CONFIRM_REMAINING (s.val Od.FW_CONFIRM_REMAINING - 1) else s

/-- EVENT_RATE_WINDOW: an operating second ends; summaries are made, and the next window begins (R559). HELLO and RESUME of a source
are counted in the same seconds (R146). (DESIGN CHOICE, log 29) -/
def execEventRateWindow (s : State) : Out :=
  if s.canPowered = false then .next s
  else
    let s1 := s.events.suppressed.foldl (fun t e => t.summarise e.1 e.2) s
    let s2 := ((s1.bump Od.OPERATING_SECONDS).bump Od.STATE_SECONDS 1 s.secondsSub).confirmSecond
    .next { s2 with
      events := { s2.events with delivered := [], suppressed := [], ovfRaised := s2.events.ovfRaised && s2.events.frozen }
      wkp := { s2.wkp with helloRate := [] } }

/-- RECORDER_FLUSH_TIMER: a record has been pending for 10 s (R563, R566). -/
def execRecorderFlushTimer (s : State) : Out :=
  if s.canPowered = true ∧ s.events.frozen = false ∧ s.events.pendingRecs ≠ [] then .next s.writeLog else .next s

/-- A write of 1 to REC_FREEZE (R566). -/
def State.recFreeze (s : State) (level : Nat) : State :=
  if s.events.frozen then s
  else
    let s1 := s.record 0x0201 [level]
    { s1 with events := { s1.events with frozen := true, frozenLost := 0, ovfRaised := false } }.setVal Od.REC_FREEZE 1

/-- A write of 0 to REC_FREEZE (R566). -/
def State.recThaw (s : State) : State := if s.events.frozen then s.thaw 0 else s

/-- REC_FREEZE_EXPIRY: a freeze ends after 60 s (R566). -/
def execRecFreezeExpiry (s : State) : Out := if s.events.frozen then .next (s.thaw 1) else .next s

/-- The records that can be read, in LOG_SEQ order (R565). -/
def State.records (s : State) : List Rec := s.events.log ++ s.events.pendingRecs

/-- What a read of REC_READ returns on a path (R565). -/
def State.recPage (s : State) (p : Nat) : List Rec :=
  ((s.records.filter (fun r => s.selection p Od.REC_CURSOR ≤ r.seqNo)).take (s.selection p Od.REC_READ_MAX))

/-- The cursor after a read of REC_READ (R565). -/
def State.recAdvance (s : State) (p : Nat) : State :=
  match (s.recPage p).getLast? with
  | some r => s.odPut p Od.REC_CURSOR 0 (seqAfter r.seqNo)
  | none => s

/-- REC_OLDEST: the oldest circulating record held. -/
def State.recOldest (s : State) : Nat := ((s.events.log.find? (fun r => 4096 ≤ r.seqNo)).map (·.seqNo)).getD 4096

/-- REC_MIRROR_FAIL: the other mirror takes the record and a new mirror is formed; with both lost the last-resort area takes
the records and FAULT is latched (R568). -/
def execRecMirrorFail (mirror : Fin 2) (die : Fin 160) (s : State) : Out :=
  if s.canPowered = false ∨ s.events.mirrorsLost.contains mirror.val = true then .next s
  else
    let s1 : State := { s with events := { s.events with mirrorsLost := mirror.val :: s.events.mirrorsLost } }
    if s.events.mirrorsLost = [] then
      .next ((if s.val Od.REC_STATE = 3 then s1 else s1.setVal Od.REC_STATE 2).raise Ev.REC_MIRROR_FAIL [mirror.val, die.val])
    else
      let s2 := (s1.setVal Od.REC_STATE 3).raise Ev.REC_MIRROR_FAIL [mirror.val, die.val]
      .next (s2.raise Ev.REC_LAST_RESORT [s2.events.nor.length])

/-- REC_MIRROR_REBUILT: the copy into the new mirror is complete; FAULT stays latched (R568). -/
def execRecMirrorRebuilt (newDie : Fin 160) (s : State) : Out :=
  match s.events.mirrorsLost with
  | [m] =>
    let s1 : State := { s with events := { s.events with mirrorsLost := [] } }
    .next ((if s.val Od.REC_STATE = 3 then s1 else s1.setVal Od.REC_STATE 0).raise Ev.REC_MIRROR_REBUILT [m, newDie.val])
  | _ => .next s

/-- A write of 1 to REC_FAULT_CLEAR: the latched FAULT ends once a log band stands again (R568). -/
def State.recFaultClear (s : State) : State :=
  if s.val Od.REC_STATE ≠ 3 then s
  else match s.events.mirrorsLost with
    | [] => s.setVal Od.REC_STATE 0
    | [_] => s.setVal Od.REC_STATE 2
    | _ => s

/-- The performance events whose counts the model keeps; the increments of the others are free values (R569).
(DESIGN CHOICE, log 38) -/
def perfModelled (e : Nat) : Bool :=
  [0, 1, 2, 3, 4, 5, 8, 9, 10, 11, 13, 14, 15, 72, 73, 74, 75, 76, 77, 78, 79, 80, 81, 82, 83, 84, 85, 86, 87, 89, 91, 92, 93, 94, 95, 96, 97, 98, 99, 191].contains e
    || (decide (16 ≤ e) && decide (e < 72)) || (decide (104 ≤ e) && decide (e < 168) && (e % 4 == 1 || e % 4 == 2)) || decide (100 ≤ e) && decide (e < 104) || e == 183 || e == 255

/-- PERF_COUNTER_WRAP (R569). -/
def execPerfCounterWrap (counter : Fin 65) (s : State) : Out :=
  let n := counter.val
  let e := s.odGet 0 Od.PERF_SELECT n
  let v := SMap.getD s.events.perf n 0
  if n ≠ 0 ∧ s.live = true ∧ e ≠ 0xFF ∧ (2 ^ 48 ≤ v ∨ perfModelled e = false) then
    .next ({ s with events := { s.events with perf := SMap.put s.events.perf n (v - 2 ^ 48) } }.raise Ev.PERF_COUNTER_WRAP [n])
  else .next s

/-- A write to PERF_SELECT: the counter starts at 0 (R569). -/
def State.perfSelect (s : State) (n event : Nat) : State :=
  { s with events := { s.events with perf := SMap.erase s.events.perf n } }.odPut 0 Od.PERF_SELECT n event

/-- The 16 bytes of PERF_VALUE (R569). (DESIGN CHOICE, log 38) -/
def State.perfValue (s : State) (n : Nat) : State × Bytes :=
  let e := s.odGet 0 Od.PERF_SELECT n
  let stamp := toBE 8 s.clock.dt
  if perfModelled e then (s, toBE 8 (SMap.getD s.events.perf n 0 % 2 ^ 48) ++ stamp)
  else (s.draw, toBE 8 (Config.perfIncrement e s.draws).toNat ++ stamp)

/-- The numbers of Table 16.8. -/
def fatalNumber : FatalCode → Nat
  | .threeChecks => 1 | .sequencerState => 2 | .slotRegisters => 3 | .journalCheck => 4 | .pauseOverrun => 5

/-- The EVENTS section of a dump: the pending buffer, the queue of R492 and the 1,024 newest durable records (Table 16.10). -/
def State.dumpRecords (s : State) : List Rec :=
  s.events.pendingRecs
    ++ s.seam.queue.map (fun q => s.mkRec q.source ((severity? q.source).getD 0) true true q.params q.seconds)
    ++ s.events.log.drop (s.events.log.length - 1024)

/-- A dump begins: the next DUMP_SEQ, in the slot of the oldest, which is erased first (R573). -/
def State.beginDump (s : State) (code : Nat) (live : Bool) : State :=
  let d : Dump := { seqNo := s.events.dumpSeq + 1, complete := false, live := live, fatal := code, dt := s.clock.dt
                    te := s.clock.te, epoch := s.val Od.ENGINE_EPOCH, csnLast := s.seq.csnLast, kib := 0
                    cycles := s.val Od.POWER_CYCLES, seconds := s.seconds
                    slots := s.seq.slots.map (fun e => (e.1, (List.range 16).map (s.slotWords e.1))), journal := s.pocket.journal
                    records := s.dumpRecords, contexts := (s.wkp.sessions.filter (fun e => e.2.state != .free)).length }
  { s with events := { s.events with
      dumpSeq := d.seqNo, dumping := some d
      dumps := s.events.dumps.filter (fun k => k.seqNo % 4 != d.seqNo % 4) } }.setVal Od.DUMP_STATE 2

/-- A port without power: nothing is sent or received. -/
def stoppedPort (asleep : Bool) (p : Port) : Port :=
  { p with linkUp := false, speed := 0, powered := false, asleep := asleep, rxq := [], txq := [], inFlight := none, control := []
           held := [], ignoring := [], xoff := [], takeover := 0, announceDue := false, ptpRole := .disabled, asCapable := false }

/-- Every port stops and loses its power (Table 14.3). -/
def State.stopPorts (s : State) : State := { s with ports := s.ports.map (fun e => (e.1, stoppedPort false e.2)) }

/-- The Hem begins (Table 14.3): the ports and CAN controllers stop, intake closes, every FILLED slot is freed. -/
def State.beginHem (s : State) : State :=
  let s1 := (s.stopPorts.freeFilled (fun _ => true)).setVal Od.INTAKE_STATE 3
  { s1 with power := { s1.power with phase := .hem, rideThrough := false, wakeOut := false } }.setVal Od.SUPPLY_STATE 3

/-- A fall-back is decided: BACK_INTENT is recorded (R614). -/
def State.decideBack (s : State) (cause part : Nat) : State :=
  { s with fw := { s.fw with phase := .fallingBack, swap := .backIntent, back := (cause, part) } }

/-- A fatal engine error: binding and the op engines stop, ENG_FATAL is raised, the pending buffer is written and the dump
begins; in orphan mode there is none (R571, R551). During a ride-through the input is lost already: the dump ends at once, and the Hem
begins (R571). In a confirmation period it is a failed self-test of ENG (R613, R614). (DESIGN CHOICE, log 37) -/
def State.engFatal (s : State) (code : Nat) : State :=
  if s.power.phase = .boot ∨ s.power.phase = .running ∨ s.power.phase = .drowse1 ∨ s.power.phase = .drowse2 then
    let s1 : State := { s.abandonDump with
      seq := { s.abandonDump.seq with stopped := true }
      clock := { s.abandonDump.clock with timekeeper := some s.clock.dt }
      health := { s.abandonDump.health with fatalTimes := s.seconds :: s.abandonDump.health.fatalTimes } }
    let s2 := { (if s1.fw.phase = .confirming then s1.decideBack 1 3 else s1) with events := { s1.events with fatal := some code } }
    let s3 := (s2.setVal Od.INTAKE_STATE 3).raise Ev.ENG_FATAL [code, if s.seam.orphan then 0 else s.events.dumpSeq + 1]
    let s4 := if s.seam.orphan then s3 else s3.writeLog.beginDump code false
    if s.power.rideThrough then s4.abandonDump.resetForHem.beginHem
    else { s4 with power := { s4.power with phase := .fatalStop } }
  else s

/-- ENG_FATAL (R571). The reset that ends it follows the dump (DUMP_TAKEN), or comes 1 s later in orphan mode. -/
def execEngFatal (code : FatalCode) (s : State) : Out := .next (s.engFatal (fatalNumber code))

/-- SERVICE_PAUSE_OVERRUN: a pause that has not completed stage 5 in time (R224). -/
def execServicePauseOverrun (s : State) : Out :=
  if s.admin.pauseStage ≠ 0 then .next (s.engFatal 5) else .next s

/-- A live dump is asked for through DUMP_REQUEST (R572); a dump that is being written is ended early. (DESIGN CHOICE, log 37) -/
def State.liveDump (s : State) : State := s.abandonDump.beginDump 0x0100 true

/-- A dump completes in its slot (R573). (DESIGN CHOICE, log 19) -/
def State.dumpDone (s : State) (d : Dump) (kib : Nat) : State :=
  (({ (s.useKey 0).takeNonces 4 (ceilDiv kib 64) with events := { s.events with
      dumping := none, dumps := s.events.dumps ++ [{ d with complete := true, kib := kib }] } }.bump
    Od.DUMP_COUNT).setVal Od.DUMP_STATE 0).raise Ev.DUMP_TAKEN [d.seqNo, d.fatal, kib]

end Sys2Proof.Machine
end

