-- ==== Sys2Proof/Machine/Firmware.lean ====
section
/-! DEFINITION. Firmware update (R592 to R617): the header checks, the commands of FW_CONTROL, the download, the exchange of
images and the fall-back. The rows that write FW_CONTROL and FW_IMAGE stand in OdRows.lean. -/

namespace Sys2Proof.Machine

/-- What an OD write comes to: the state, and the refusal if it is one; a refused write may record why (FW_REFUSE_REASON,
R602). -/
abbrev Wrote := State × Option OdRefusal

/-- A write that takes effect. -/
def wrote (s : State) : Wrote := (s, none)

/-- A write that is refused. -/
def notWritten (s : State) (r : OdRefusal) : Wrote := (s, some r)

/-- FW_STATE (Table 18.5). -/
def fwCode : FwPhase → Nat
  | .empty => 0 | .receiving => 1 | .received => 2 | .verifying => 3 | .verified => 4 | .activating => 5
  | .confirming => 6 | .fallingBack => 7 | .previous => 8 | .rejected => 9

/-- The entry of part `k` in a header (Table 18.3). -/
def partEntry (h : Bytes) (k : Nat) : FwPart :=
  let o := 64 + 96 * (k - 1)
  { code := fieldAt h o 1, epoch := fieldAt h (o + 1) 1, flags := fieldAt h (o + 2) 2, version := fieldAt h (o + 4) 4
    compat := fieldAt h (o + 8) 4, requires := fieldAt h (o + 12) 4, offset := fieldAt h (o + 16) 8
    length := fieldAt h (o + 24) 8, digest := fieldAt h (o + 32) 64 }

/-- The part entries of a header. -/
def headerParts (h : Bytes) : List FwPart := [1, 2, 3, 4, 5, 6].map (partEntry h)

/-- The largest body of a part in bytes (Table 18.1). (DESIGN CHOICE, log 39) -/
def partLimit (code : Nat) : Nat :=
  [4194304, 536870912, 262144, 262144, 8388608, 4194304].getD (code - 1) 0

/-- A part of a list by its code. -/
def partOf (ps : List FwPart) (code : Nat) : FwPart := (ps.find? (fun p => p.code == code)).getD ⟨code, 0, 0, 0, 0, 0, 0, 0, 0⟩

/-- The bodies of two parts do not overlap. -/
def partsApart (a b : FwPart) : Bool := decide (a.offset + a.length ≤ b.offset) || decide (b.offset + b.length ≤ a.offset)

/-- Check 1 of Table 18.6; IMAGE_LEN is at most 1 GiB (Table 18.2). (DESIGN CHOICE, log 39) -/
def headerFormOk (h : Bytes) : Bool :=
  let ps := headerParts h
  let len := fieldAt h 16 8
  fieldAt h 0 4 == 0x5A4B4657 && fieldAt h 4 1 == 1 && fieldAt h 5 1 == 6 && ps.map (·.code) == [1, 2, 3, 4, 5, 6] && decide (len ≤ 2 ^ 30)
    && ps.all (fun p => p.offset % 4096 == 0 && decide (4096 ≤ p.offset) && decide (p.offset + p.length ≤ len)
        && decide (p.length ≤ partLimit p.code) && p.flags == (if p.code = 3 ∨ p.code = 4 then 1 else 0)
        && ps.all (fun q => q.code == p.code || partsApart p q))

/-- REQUIRES of a part (Table 18.1, check 6). -/
def requiresOk (ps : List FwPart) (p : FwPart) : Bool :=
  p.requires == (match p.code with
    | 1 => Config.supRomId.toNat | 2 => (partOf ps 1).compat | 3 => Config.mcodeRomId.toNat | 4 => Config.mcodeRomId.toNat
    | 5 => Config.phySiliconId.toNat | _ => (partOf ps 2).compat)

/-- A part of the running image. -/
def State.runningPart (s : State) (code : Nat) : FwPart := partOf s.fw.running code

/-- The reason code of the first check of Table 18.6 that a header fails; 0 when it passes. -/
def State.headerReason (s : State) (h : Bytes) (signed : Bool) : Nat :=
  let ps := headerParts h
  let grade := byGrade s.hw.grade 2 1 0
  if !headerFormOk h then 1
  else if !bitOf grade (fieldAt h 6 1) then 2
  else if !signed then 3
  else if ps.any (fun p => p.version < (s.runningPart p.code).version) then 4
  else if ps.any (fun p => p.epoch < s.fw.fuses.getD (p.code - 1) 0) then 5
  else if ps.any (fun p => !requiresOk ps p) then 6
  else if s.fw.runRelease < fieldAt h 12 4 then 7
  else if fieldAt h 8 4 ≤ s.fw.runRelease && ps.all (fun p => p.version ≤ (s.runningPart p.code).version) then 8
  else 0

/-- The context that a path's session has; other paths have none. -/
def pathContext? (p : Nat) : Option Nat := if 16 ≤ p then some (p - 16) else none

/-- A header that has arrived whole is taken over, or refused with its reason (R602). (DESIGN CHOICE, log 39) -/
def State.takeHeader (s : State) (signed : Bool) : Wrote :=
  let h := s.fw.image.take 772
  let r := s.headerReason h signed
  if r = 0 then
    let s1 : State := { s with fw := { s.fw with headerOk := true, parts := headerParts h, release := fieldAt h 8 4
                                                 minFrom := fieldAt h 12 4, imageLen := fieldAt h 16 8 } }
    wrote s1
  else
    notWritten (((s.discardStaging .empty).setVal Od.FW_REFUSE_REASON r).raise Ev.FW_HEADER_REFUSED [r])
      (if r = 1 then .range else .state)

/-- The whole image has arrived: RECEIVED (R602). -/
def State.imageWhole (s : State) : State :=
  if s.fw.headerOk = true ∧ s.fw.image.length = s.fw.imageLen then
    { s with fw := { s.fw with phase := .received } }.raise Ev.FW_DOWNLOAD_DONE [s.fw.release]
  else s

/-- A write to FW_IMAGE (R600 to R602): bytes in increasing order, from the owner's session. -/
def State.fwImageWrite (s : State) (p offset : Nat) (data : Bytes) (signed : Bool) : Wrote :=
  let n := s.fw.image.length
  let e := offset + data.length
  if s.fw.phase ≠ .receiving ∨ s.fw.owner = none ∨ s.fw.owner ≠ pathContext? p then notWritten s .state
  else if e < n ∨ (e = n ∧ offset < n) then wrote s
  else if offset ≠ n ∨ (if s.fw.headerOk then s.fw.imageLen < e else 772 < e) then notWritten s .range
  else
    let s1 : State := { s with fw := { s.fw with image := s.fw.image ++ data } }
    if s1.fw.headerOk = false ∧ s1.fw.image.length = 772 then
      (match s1.takeHeader signed with
        | (s2, none) => wrote s2.imageWhole
        | r => r)
    else wrote s1.imageWhole

/-- BEGN: staging is discarded and the writing session becomes the owner (Table 18.4). -/
def State.fwBegin (s : State) (p : Nat) : State :=
  let s1 := s.discardStaging .receiving
  { s1 with fw := { s1.fw with owner := pathContext? p } }

/-- The supervisor slot in which an administrative routine runs, one that is free (R194, Table 5.1). -/
def State.freeSupervisor? (s : State) : Option Nat :=
  firstFree 384 63 (Config.slotPick s.draws).val (fun n => (s.slot n).state == .free)

/-- VRFY begins: FW_STATE is VERIFYING until the steps of R603 have run (R599, R603). -/
def State.fwVerify (s : State) (p : Nat) (fails : Option (Fin 6 × Fin 7)) : State :=
  { s with fw := { s.fw with phase := .verifying, verify := some { path := some p, fails := fails } } }.setVal Od.FW_PROGRESS 0

/-- A verification that has no slot takes a supervisor slot, or an internal one when none is free (R194). (DESIGN CHOICE, log 39) -/
def State.seatVerify (s : State) : State :=
  if s.seq.slots.any (fun e => e.2.routine == some .verify) then s
  else match s.freeSupervisor? with
    | some m => s.draw.setSlot m { state := .executing, origin := 6, csn := s.seq.csnLast, routine := some .verify }
    | none => s.startRoutine .verify s.seq.csnLast 0

/-- The command or the path that wrote VRFY is answered, and the routine's slot is free (R603); after a restart there is nothing to
answer (R604). -/
def State.endVerify (s : State) (n : Nat) (path : Option Nat) (refused : Bool) : State :=
  let x := s.slot n
  if x.frags.isEmpty then
    let s1 := s.freeSlot n
    match path with
    | some p => s1.answer p (if refused then .refused .state else .ok [])
    | none => s1
  else
    s.retire n { x with routine := none } (parseCmd (assemble x.frags))
      (if refused then .fail St.NOT_PERMITTED else { effect := some { type := 0x09 } })

/-- The part of R603 that the `k`-th step of a verification is: its step, less one, and the part whose body step 2 takes then. -/
def verifyPart (k : Nat) : Nat × Nat := if k = 0 then (0, 0) else if k ≤ 6 then (1, k) else (k - 5, 0)

/-- A step of a verification fails: a step that names a part fails at that part. -/
def verifyFails (k : Nat) (fails : Option (Fin 6 × Fin 7)) : Bool :=
  match fails with
  | none => false
  | some (step, part) => (verifyPart k).1 == step.val && (k == 0 || 6 < k || (verifyPart k).2 == max 1 part.val)

/-- A step of the verification in a slot: the header, each body, the patch parts, the conversion table, the BLD body in its NOR slot
(R603). When every step has passed FW_STATE is VERIFIED; when one fails, staging is discarded. (DESIGN CHOICE, log 39) -/
def State.verifyStep (s : State) (n : Nat) : State :=
  match s.fw.verify with
  | none => s.freeSlot n
  | some v =>
    let header := s.headerReason (s.fw.image.take 772) true
    if verifyFails v.done v.fails ∨ (v.done = 0 ∧ header ≠ 0) then
      let part := match v.fails with | some (_, part) => part.val | none => 0
      let s1 : State := { s.discardStaging .empty with fw := { (s.discardStaging .empty).fw with verify := none } }
      ((s1.setVal Od.FW_REFUSE_REASON (16 + (verifyPart v.done).1 + 1)).raise Ev.FW_VERIFY_FAIL [part]).endVerify n v.path true
    else if v.done = 9 then
      let s1 : State := { s with fw := { s.fw with phase := .verified, verify := none, norStage := (partOf s.fw.parts 1).digest } }
      s1.endVerify n v.path false
    else
      let s1 : State := { s with fw := { s.fw with verify := some { v with done := v.done + 1 } } }
      (if 1 ≤ v.done ∧ v.done ≤ 6 then s1.setVal Od.FW_PROGRESS (v.done * 100 / 6) else s1).setSlot n
        { s.slot n with step := (s.slot n).step + 1, mchkOn := [] }

/-- The entries held in two formats: their values converted for the new ODS part (R615). -/
def State.twoFormats (s : State) : SMap Nat :=
  let old := (s.runningPart 6).digest
  let new := (partOf s.fw.parts 6).digest
  if old = new then []
  else (Config.odsChanged old new).foldl (fun (m : SMap Nat) k =>
    SMap.put m k (Config.odsConvert new k (s.odGet (k / 16777216) (k / 256 % 65536) (k % 256)))) []

/-- ACTV: the prepare step; INTENT is recorded (Table 18.7). -/
def State.fwPrepare (s : State) : State :=
  { s with
    fw := { s.fw with phase := .activating, swap := .intent }
    od := { s.od with twoFormat := s.twoFormats } }

/-- CONF: CONFIRM is recorded, the fuse counters advance, the old formats are discarded (R612). -/
def State.fwConfirm (s : State) : State :=
  ({ s with
    fw := { s.fw with phase := .previous, swap := .confirm
                      fuses := [1, 2, 3, 4, 5, 6].map (fun k => max (s.fw.fuses.getD (k - 1) 0) (s.runningPart k).epoch) }
    od := { s.od with twoFormat := [] } }.setVal Od.FW_CONFIRM_REMAINING 0).raise Ev.FW_CONFIRMED

/-- Every self-test of the confirmation period has ended and passed (R613). -/
def State.selftestsPassed (s : State) : Bool := s.val Od.FW_SELFTEST == 0xBF

/-- The states in which a value of FW_CONTROL is accepted (Table 18.4). (DESIGN CHOICE, log 39) -/
def State.fwAccepts (s : State) (p v : Nat) : Bool :=
  let f := s.fw.phase
  if v = 0x4245474E then
    f == .empty || f == .received || f == .verified || f == .previous || f == .rejected
      || (f == .receiving && s.fw.owner.isSome && s.fw.owner == pathContext? p)
  else if v = 0x56524659 then f == .received
  else if v = 0x41435456 then f == .verified && s.val Od.CONFIG_STORE_STATE == 0
  else if v = 0x434F4E46 then f == .confirming && s.selftestsPassed
  else f == .receiving || f == .received || f == .verified

/-- A write to FW_CONTROL (R598, R605). -/
def State.fwControl (s : State) (p v : Nat) (fails : Option (Fin 6 × Fin 7)) : Wrote :=
  if !([0x4245474E, 0x56524659, 0x41435456, 0x434F4E46, 0x41425254].contains v) then notWritten s .range
  else if !s.fwAccepts p v then notWritten (s.setVal Od.FW_REFUSE_REASON 32) .state
  else
    let s1 := (s.setVal Od.FW_CONTROL v).setVal Od.FW_REFUSE_REASON 0
    if v = 0x4245474E then wrote (s1.fwBegin p)
    else if v = 0x56524659 then wrote (s1.fwVerify p fails)
    else if v = 0x41435456 then wrote s1.fwPrepare
    else if v = 0x434F4E46 then wrote s1.fwConfirm
    else wrote (s1.discardStaging .empty)

/-- The stored settings change format: the values in force and those of the other format change places (R615). -/
def State.swapFormats (s : State) : State :=
  s.od.twoFormat.foldl (fun (t : State) e =>
    let old := t.odGet (e.1 / 16777216) (e.1 / 256 % 65536) (e.1 % 256)
    { t with od := { t.od with vals := SMap.put t.od.vals e.1 e.2, twoFormat := SMap.put t.od.twoFormat e.1 old } }) s

/-- The roles of the two image slots are exchanged (R596). -/
def State.exchange (s : State) : State :=
  { s with fw := { s.fw with
      norRun := s.fw.norStage, norStage := s.fw.norRun
      slotB := !s.fw.slotB, running := s.fw.parts, runRelease := s.fw.release, parts := s.fw.running
      release := s.fw.runRelease, image := s.fw.runImage, runImage := s.fw.image, imageLen := s.fw.runLen
      runLen := s.fw.imageLen
      unchanged := [1, 2, 3, 4, 5, 6].filter (fun k => (partOf s.fw.running k).digest == (partOf s.fw.parts k).digest) } }

/-- The read-level trackers start from the factory calibration table (Table 6.10). -/
def State.trackersLost (s : State) : State :=
  { s with flash := { s.flash with trackers := [], trackersSaved := [] } }.setVal Od.TRACKER_SOURCE 1

/-- Bin sizing starts from the factory assumption (Table 6.10). -/
def State.sizingLost (s : State) : State := { s with flash := { s.flash with writeRate := 0 } }.setVal Od.BIN_SIZING 100

/-- The compatibility id of ENG differs from that before: its algorithms cannot use the state that they had stored (R282, R617). -/
def State.engDiffers (s before : State) : Bool := (s.runningPart 3).compat != (before.runningPart 3).compat

/-- An exchange of images while the engine runs on: the trackers and bin sizing of another ENG start from factory calibration (R617). -/
def State.exchangeLive (s : State) : State :=
  let t := s.exchange
  if t.engDiffers s then
    (t.trackersLost.sizingLost).setVal Od.START_HISTORY_SOURCE (Nat.lor (t.val Od.START_HISTORY_SOURCE) 96)
  else t

/-- Part `k` is loaded and its load did not fail. -/
def loadFails (failed k : Nat) : Bool := failed.testBit (k - 1)

/-- The outcome of a patch load, with its event: MCODE_PATCH_LOADED with the slots used, or MCODE_PATCH_REJECTED with a slot (R586). -/
def State.applyPatches (s : State) (r : Except Nat (List PatchSlot)) : State :=
  let s1 := s.loadStores r
  match r with
  | .error _ => s1.raise Ev.MCODE_PATCH_REJECTED [(Config.measured s.draws).toNat]
  | .ok [] => s1
  | .ok l => s1.raise Ev.MCODE_PATCH_LOADED [l.length]

/-- Patches of ENG and MSQ are loaded, or rejected as in R586 (R606, R607). -/
def State.loadPatches (s : State) (failed : Nat) : State :=
  if s.fw.unchanged.contains 3 ∧ s.fw.unchanged.contains 4 then s
  else
    let r := s.patchCheck true true (Config.patchPlain (s.runningPart 3).digest) (Config.patchPlain (s.runningPart 4).digest)
    let bad := loadFails failed 3 || loadFails failed 4
    s.applyPatches (match r with
      | .error e => .error e
      | .ok l => if bad then .error ((Config.rejectReason s.draws).val + 1) else .ok l)

/-- Every link is retrained (R607). -/
def State.retrainAll (s : State) : State := [0, 1, 2, 3, 4, 5, 6].foldl State.linkLost s

/-- The other image takes over in stage 4 of the pause: parts that changed are loaded, the new SUP attaches (R606 to
R608). -/
def State.loadImage (s : State) (failed : Nat) : State :=
  let s1 := s.loadPatches failed
  let s2 := if s.fw.unchanged.contains 5 then s1 else s1.retrainAll
  let s3 := s2.bump Od.SUPERVISOR_EPOCH
  if loadFails failed 2 then (if s3.seam.orphan then s3 else s3.enterOrphan)
  else if s3.seam.orphan then s3
  else
    let se := s3.val Od.SUPERVISOR_EPOCH
    let s4 : State := { s3 with seam := { s3.seam with attached := true, attachedSe := se, knownEe := s3.val Od.ENGINE_EPOCH } }
    (s4.setVal Od.LAST_ATTACH 3).raise Ev.ATTACH_DONE [3, s3.val Od.ENGINE_EPOCH, se]

/-- Stages 3 and 4 of the pause around the exchange: digests, sessions, port state (Table 5.7). -/
def State.pauseExchange (s : State) (failed : Nat) : State :=
  let s1 := if s.admin.pauseStage = 1 then s.restartSessions else s
  let s2 : State := { s1 with ports := s1.ports.map (fun e => (e.1, Port.start (reinitPort e.2) (s1.clock.dt, s1.clock.te))) }
  ((s2.setVal Od.LAST_RESET_CSN s2.seq.csnLast).swapFormats.exchangeLive).loadImage failed

/-- Stage 5: intake reopens, and the length of the pause is recorded. -/
def State.reopenAfterSwap (s : State) : State :=
  let us := (Config.pauseUs s.draws).toNat
  (s.draw.endPause us).setVal Od.FW_LAST_PAUSE_US us

/-- The pause of an activation or a fall-back can begin. -/
def State.canSwap (s : State) : Bool :=
  s.live && s.power.firstOpen && (s.admin.pauseStage == 0 || s.admin.activation)

/-- The pause begins, unless it runs. -/
def State.enterSwap (s : State) : State := if s.admin.pauseStage = 0 then s.abandonDrowse.beginPause true else s

/-- The fall-back's own pause: it ends once no bound command is left (R614). -/
def State.fallBackRun (s : State) : State :=
  let s1 := s.enterSwap
  if s1.boundWork then s1
  else
    let s2 := (s1.pauseExchange 0).reopenAfterSwap
    let s3 : State := { s2 with fw := { s2.fw with phase := .rejected, swap := .backCommit }, od := { s2.od with twoFormat := [] } }
    (((s3.setVal Od.FW_CONFIRM_REMAINING 0).setVal Od.FW_SELFTEST 0).bump Od.FW_FALLBACKS).raise Ev.FW_FALLBACK
      [s.fw.back.1, s.fw.back.2]

/-- The lowest part whose bit is set. -/
def lowestPart (failed : Nat) : Nat := lowestBit 6 failed + 1

/-- The patches of the image have been applied or rejected, or its ENG and MSQ parts were not replaced (R613, Table 18.9). -/
def State.patchesTested (s : State) : Bool :=
  s.val Od.MCODE_PATCH_STATE != 1 || (s.fw.unchanged.contains 3 && s.fw.unchanged.contains 4)

/-- FW_SELFTEST but for bit 7: the parts that were not replaced, and those that pass their tests; `failed`: the parts other than ENG and
MSQ that do not (R613, Table 18.9). -/
def State.selftestBits (s : State) (failed : Nat) : Nat :=
  let same := s.fw.unchanged.foldl (fun n k => Nat.lor n (2 ^ (k - 1))) 0
  let eng := if s.val Od.MCODE_PATCH_STATE = 0 then 12 else 0
  Nat.lor same (([1, 2, 5, 6].filter (fun k => !loadFails failed k)).foldl (fun n k => n + 2 ^ (k - 1)) eng)

/-- The parts whose self-tests fail at the load of an image; a patch that is rejected counts for ENG (Table 18.9). -/
def State.loadFailures (s : State) (failed : Nat) : Nat :=
  if s.val Od.MCODE_PATCH_STATE = 2 ∧ (s.fw.unchanged.contains 3 && s.fw.unchanged.contains 4) = false then Nat.lor failed 4 else failed

/-- FW_ACTIVATION_PAUSE: stage 1 begins; once no bound command is left the roles are exchanged, the new image is loaded, and
intake reopens in CONFIRMING. A failed load or self-test leads to the fall-back at once (R606 to R608, R613, R614).
(DESIGN CHOICE, log 39) -/
def execFwActivationPause (failedParts : BitVec 6) (s : State) : Out :=
  if s.fw.phase = .activating ∧ s.canSwap = true then
    let s1 := s.enterSwap
    if s1.boundWork then .next s1
    else
      let s2 : State := { s1 with fw := { s1.fw with swap := .commit } }
      let s3 := (s2.pauseExchange failedParts.toNat).reopenAfterSwap
      let s4 : State := { s3 with fw := { s3.fw with phase := .confirming } }
      let failed := s4.loadFailures failedParts.toNat
      let s5 := (((s4.setVal Od.FW_CONFIRM_REMAINING (s4.val Od.FW_CONFIRM_WINDOW)).setVal Od.FW_SELFTEST
        (s4.selftestBits failed + if s4.patchesTested then 128 else 0)).bump Od.FW_ACTIVATIONS).raise Ev.FW_ACTIVATED
          [(s4.runningPart 2).version, (s4.runningPart 3).version]
      .next (if failed = 0 then s5 else (s5.decideBack 1 (lowestPart failed)).fallBackRun)
  else .next s

/-- FW_TIMER_RECORD: the window left is recorded (R611). -/
def execFwTimerRecord (s : State) : Out :=
  if s.canPowered = true ∧ s.fw.phase = .confirming then
    .next { s with fw := { s.fw with swap := .timer (s.val Od.FW_CONFIRM_REMAINING) } }
  else .next s

/-- FW_CONFIRM_WINDOW_EXPIRY: the window ends without a confirmation and the module falls back; issued again while the pause
waits for bound commands, it goes on (R614). (DESIGN CHOICE, log 39) -/
def execFwConfirmWindowExpiry (s : State) : Out :=
  if s.fw.phase = .confirming ∧ s.canSwap = true then
    .next ((s.setVal Od.FW_CONFIRM_REMAINING 0).decideBack 0 0).fallBackRun
  else if s.fw.phase = .fallingBack ∧ s.canSwap = true then .next s.fallBackRun
  else .next s

/-- FW_SELFTEST_FAIL: a self-test of part `part` fails and the module falls back at once (R613, R614).
(DESIGN CHOICE, log 39) -/
def execFwSelftestFail (part : Fin 7) (s : State) : Out :=
  if s.fw.phase = .confirming ∧ s.canSwap = true ∧ part.val ≠ 0 then
    .next ((s.setVal Od.FW_SELFTEST (putBit (part.val - 1) false (s.val Od.FW_SELFTEST))).decideBack 1 part.val).fallBackRun
  else if s.fw.phase = .fallingBack ∧ s.canSwap = true then .next s.fallBackRun
  else .next s

/-- A fall-back that a start carries out: intake is closed, so it needs no pause (R610, R614). (DESIGN CHOICE, log 39) -/
def State.backAtStart (s : State) : State :=
  let s1 := s.swapFormats.exchange
  let s2 : State := { s1 with fw := { s1.fw with phase := .rejected, swap := .backCommit }, od := { s1.od with twoFormat := [] } }
  (((s2.setVal Od.FW_CONFIRM_REMAINING 0).setVal Od.FW_SELFTEST 0).bump Od.FW_FALLBACKS).raise Ev.FW_FALLBACK [s.fw.back.1, s.fw.back.2]

/-- What a start makes of the swap journal, and of a verification that was under way, which restarts from step 1 (R602, R604, R610,
Table 18.8); `hem`: the hem image carries FW_CONFIRM_REMAINING. -/
def State.fwAtStart (s : State) (hem : Bool) : State :=
  let s0 := s.abandonDownload
  match s0.fw.phase with
  | .activating =>
    let s1 := s0.swapFormats.exchange
    { s1 with fw := { s1.fw with phase := .confirming, swap := .commit } }.setVal Od.FW_CONFIRM_REMAINING
      (s0.val Od.FW_CONFIRM_WINDOW)
  | .confirming =>
    if hem then s0
    else s0.setVal Od.FW_CONFIRM_REMAINING (match s0.fw.swap with | .timer n => n | _ => s0.val Od.FW_CONFIRM_WINDOW)
  | .verifying =>
    let s1 : State := { s0 with fw := { s0.fw with verify := some { fails := s0.fw.verify.bind (·.fails) } } }
    (s1.setVal Od.FW_PROGRESS 0).seatVerify
  | .fallingBack => s0.backAtStart
  | _ => s0

end Sys2Proof.Machine
end

