-- ==== Sys2Proof/Machine/TimeSeal.lean ====
section
/-! DEFINITION. Device time and its sources (R370 to R377, R533), the DRBG (R407), and the binding and signing of seals
(R360 to R368). -/

namespace Sys2Proof.Machine

/-- An integer kept within 32 bits in two's complement. -/
def saturate32 (i : Int) : Nat := unsigned 32 (max (-2147483648) (min 2147483647 i))

/-- A step of DT recorded: LAST_STEP_NS, its counter, TIME_STEP (R373). -/
def State.stepped (s : State) (o : Int) (counter : Nat) : State :=
  let w := unsigned 64 o
  let s1 := (s.setVal Od.LAST_STEP_NS w).bump counter
  { s1 with clock := { s1.clock with slew := 0, ppsStepped := true } }.raise Ev.TIME_STEP [w / 2 ^ 32, w % 2 ^ 32, s.clock.te]

/-- DT is moved by an offset: slewed, or stepped. A backward step increments TE, and a seal is bound in every open chain
before another command is bound; at TE 0xFFFF it is slewed (R77, R78, R361, R373). -/
def State.discipline (s : State) (o : Int) : State :=
  let limit := (s.val Od.STEP_THRESHOLD : Int)
  if o > limit then (s.setDt (s.clock.dt + o.toNat)).stepped o Od.CNT_STEPS_FWD
  else if o < -limit ∧ s.clock.te < 0xFFFF then
    ({ s with clock := { s.clock with dt := s.clock.dt - (-o).toNat, te := s.clock.te + 1 } }.stepped o Od.CNT_STEPS_BACK).bindSeals 2 o
  else { s with clock := { s.clock with slew := o } }

/-- The offset computed: OFFSET_LAST, and the servo's frequency estimate. (DEDUCED, log 21) -/
def State.measured (s : State) (o : Int) : State :=
  (s.setVal Od.OFFSET_LAST (saturate32 o)).draw.setVal Od.FREQ_OFFSET (Config.freqOffset s.draws).toNat

/-- Consecutive measurements below a bound (R374). -/
def nextStreak (streak : Nat) (o : Int) (bound : Nat) : Nat := if o.natAbs < bound then streak + 1 else 0

/-- A measurement from a source is applied: it ends holdover, and the source becomes the one in use (R370, R373,
R374). -/
def State.applyMeasurement (s : State) (src : TimeSource) (o : Int) (bound : Nat) : State :=
  let n := nextStreak (if s.clock.source = src then s.clock.streak else 0) o bound
  let s1 : State := { s with clock := { s.clock with source := src, holdover := false, streak := n } }
  let s2 := if s.clock.source = src then s1
    else s1.raise Ev.TIME_SOURCE_CHANGE [sourceCode src, sourceCode s.clock.source]
  let s3 := (s2.measured o).discipline o
  if 8 ≤ n then s3.setVal Od.TIME_VALID 1 else s3

/-- A data port is in the slave state of 802.1AS (R370, R438). -/
def State.ptpSlave (s : State) (p : Nat) : Bool :=
  (s.port p).ptpRole == .slave && (s.port p).linkUp && s.odGet 0 (portIndex p 0xA) 1 == 1 && bitOf 1 (s.val Od.TIME_SOURCE_ENABLE)

/-- PTP_SYNC: a measurement on the slave port drives the servo (R373). -/
def execPtpSync (port : Fin 6) (offsetNs : Int) (s : State) : Out :=
  if s.live ∧ s.clock.running ∧ s.ptpSlave port.val then
    let s1 := (s.takeFrom port.val 7).applyMeasurement .ptp offsetNs 1000
    .next { s1 with clock := { s1.clock with syncSince := true } }
  else .next s

/-- A PPS edge outside 1 ms while DT is disciplined by PPS: rejected and counted, until the third that agrees (R372). -/
def State.ppsOutside (s : State) (o : Int) (agrees : Bool) : State :=
  let n := if agrees ∧ 0 < s.clock.ppsAgree then s.clock.ppsAgree + 1 else 1
  if 3 ≤ n then { s with clock := { s.clock with ppsAgree := 0 } }.applyMeasurement .pps o 10000
  else { s with clock := { s.clock with ppsAgree := n, streak := 0 } }.bump Od.CNT_PPS_REJECTED

/-- An offset brought to the whole second nearest to DT: a second more or less does not change which edge it is (R372). -/
def nearestSecond (o : Int) : Int := if o.natAbs ≤ 500000000 then o else (o + 500000000) % 1000000000 - 500000000

/-- The second that an edge marks: the one a TIME message has named since the last edge, which the offset then counts from, or the
whole second nearest to DT (R372). (DEDUCED, log 21) -/
def State.edgeOffset (s : State) (o : Int) : Int := if s.clock.canTimeFresh then o else nearestSecond o

/-- PPS_EDGE (R372, R518). While PTP is in use and delivers, an edge is not applied (R370). (DEDUCED, log 21) -/
def execPpsEdge (offsetNs : Int) (agreesWithLast : Bool) (s : State) : Out :=
  let o := s.edgeOffset offsetNs
  if s.live ∧ s.clock.running ∧ bitOf 0 (s.val Od.TIME_SOURCE_ENABLE) then
    let s1 : State := { s with clock := { s.clock with canTimeFresh := false, syncSince := false } }
    if s.clock.source = .ptp ∧ s.clock.holdover = false ∧ s.clock.syncSince = true then .next s1
    else if s.clock.source = .pps ∧ 1000000 < o.natAbs then .next (s1.ppsOutside o agreesWithLast)
    else .next ({ s1 with clock := { s1.clock with ppsAgree := 0 } }.applyMeasurement .pps o 10000)
  else .next s

/-- A TIME message is used: it names the second of the next edge, and while the source is free-running it is applied as a
correction (R372). -/
def State.timeMessage (s : State) (o : Int) : State :=
  let s1 : State := { s with clock := { s.clock with canTimeFresh := true } }
  if s.clock.source = .free then (s1.measured o).discipline o else s1

/-- HOLDOVER_START: three expected measurements are missed (R374). -/
def execHoldoverStart (s : State) : Out :=
  if s.live ∧ s.clock.source ≠ .free ∧ s.clock.holdover = false then
    .next ({ s with clock := { s.clock with holdover := true } }.raise Ev.TIME_HOLDOVER)
  else .next s

/-- HOLDOVER_LIMIT_EXPIRY: TIME_VALID becomes FALSE and the source becomes free-running (R370, R374). (DEDUCED, log 21) -/
def execHoldoverLimitExpiry (s : State) : Out :=
  if s.clock.holdover = true ∧ s.clock.source ≠ .free then
    .next (({ s with clock := { s.clock with source := .free, streak := 0 } }.setVal Od.TIME_VALID 0).raise Ev.TIME_SOURCE_CHANGE
      [0, sourceCode s.clock.source])
  else .next s

/-- PPS_OUT_PULSE: a whole second of DT (R377, R518). After a step, a pulse less than 500 ms after the previous one is
skipped. (DEDUCED, log 21) -/
def execPpsOutPulse (s : State) : Out :=
  if s.live ∧ s.clock.running ∧ s.val Od.TIME_VALID = 1 ∧ s.val Od.PPS_OUT_ENABLE = 1 then
    let tooSoon := match s.clock.ppsOutLast with
      | some t => s.clock.ppsStepped && decide (s.clock.ticks < t + 62500000)
      | none => false
    if tooSoon then .next s
    else
      .next ({ s with clock := { s.clock with ppsOutLast := some s.clock.ticks, ppsStepped := false } }.emit
        (.ppsPulse s.clock.dt))
  else .next s

/-- CLK_REF_LOST: the synthesiser holds over and TIME_VALID is FALSE at once (R533). (DEDUCED, log 21) -/
def execClkRefLost (s : State) : Out :=
  if s.live ∧ s.val Od.CLK_STATE = 0 then
    let s1 : State := { s with clock := { s.clock with streak := 0 } }
    .next ((((s1.setVal Od.CLK_STATE 1).setVal Od.TIME_VALID 0).bump Od.CNT_CLK_REF_LOSS).raise Ev.CLK_REF_LOST)
  else .next s

/-- CLK_REF_RESTORED: the synthesiser locks again by slewing (R533). -/
def execClkRefRestored (holdoverMs : BitVec 32) (s : State) : Out :=
  if s.val Od.CLK_STATE = 1 then .next ((s.setVal Od.CLK_STATE 0).raise Ev.CLK_REF_RESTORED [holdoverMs.toNat]) else .next s

/-- DRBG_RESEED: at the interval or after 2^20 requests (R407). -/
def execDrbgReseed (s : State) : Out :=
  if s.live ∧ s.val Od.DRBG_STATE ≠ 2 then .next ((s.setVal Od.DRBG_STATE 0).bump Od.CNT_DRBG_RESEEDS) else .next s

/-- DRBG_HALT: a health test fails (R407). -/
def execDrbgHalt (adaptive : Bool) (s : State) : Out :=
  if s.live ∧ s.val Od.DRBG_STATE ≠ 2 then
    .next (((s.setVal Od.DRBG_STATE 2).bump Od.CNT_ENTROPY_FAIL).raise Ev.DRBG_HALT [if adaptive then 1 else 0])
  else .next s

/-- DRBG_RESTART: 1,024 consecutive entropy samples pass (R407). -/
def execDrbgRestart (s : State) : Out :=
  if s.val Od.DRBG_STATE = 2 then .next (s.setVal Od.DRBG_STATE 0) else .next s

/-- The CSN of a chain's newest seal. -/
def Chain.newestSeal (c : Chain) : Nat := ((c.seals.getLast?).map (·.stamp.csn)).getD 0

/-- SEAL_INTERVAL_EXPIRY: a seal is bound when a put has taken effect since the last one (R361). -/
def execSealIntervalExpiry (ns : BitVec 12) (s : State) : Out :=
  let c := s.chain ns.toNat
  if s.live ∧ s.openChains.contains ns.toNat ∧ c.links.any (fun l => c.newestSeal < l.1) then .next (s.bindSeal ns.toNat 0 0)
  else .next s

/-- A put of the namespace bound before a CSN has not reached RETIRING (R210, R360). -/
def State.putsBefore (s : State) (ns csn : Nat) : Bool :=
  s.seq.slots.any (fun e => (e.2.state == .bound || e.2.state == .executing) && e.2.csn < csn
    && (let c := parseCmd (assemble e.2.frags); c.ns == ns && (c.opcode == 1 || c.opcode == 2)))

/-- The record of the oldest seal that is not signed, completed with what it covers (R360, R363). (DEDUCED, log 20) -/
def completeSeal (c : Chain) (x : Seal) : Seal :=
  let ls := c.links.filter (fun l => l.1 < x.stamp.csn)
  { x with
    firstCsn := ((ls.head?).map (·.1)).getD 0, lastCsn := ((ls.getLast?).map (·.1)).getD 0
    count := c.count + ls.length, head := foldLinks c.head ls, prev := c.lastSeal, links := ls }

/-- A seal replaced in a list by its completed and signed record. -/
def replaceSeal (y : Seal) (l : List Seal) : List Seal :=
  l.map (fun x => if x.ns = y.ns ∧ x.seqNo = y.seqNo ∧ x.stamp = y.stamp then y else x)

/-- The oldest seal of a namespace that is not signed is signed, and its internal slot is free (R347, R360, R362, R366, R367). -/
def State.signSeal (s : State) (ns : Nat) (x : Seal) : State :=
  let c := s.chain ns
  let y := completeSeal c x
  let z : Seal := { y with signature := some (Config.signature (sealHead y) s.draws) }
  let s1 := s.sign.setChain ns { c with
    head := y.head, count := y.count, lastSeal := Config.sha512 (sealBytes z)
    links := c.links.filter (fun l => x.stamp.csn ≤ l.1), seals := replaceSeal z c.seals }
  { s1 with
    seals := { s1.seals with ledger := replaceSeal z s1.seals.ledger }
    seq := { s1.seq with slots := s1.seq.slots.filter (fun e => !(e.2.routine == some (.seal ns) && e.2.csn == x.stamp.csn)) } }

/-- A seal is one that the signature engine takes first: made for a change of TE, or closing (R349). -/
def Seal.urgent (x : Seal) : Bool := bitOf 1 x.flags || bitOf 5 x.flags

/-- The seal of a chain that is signed next, when its puts have all reached RETIRING (R210, R360). -/
def State.sealDue? (s : State) (ns : Nat) : Option Seal :=
  match (s.chain ns).seals.find? (fun x => x.signature.isNone) with
  | some x => if s.putsBefore ns x.stamp.csn then none else some x
  | none => none

/-- A seal of another chain goes first (R349): the handshakes and attestations of the model are signed within their own steps.
(DEDUCED, log 20) -/
def State.sealAhead (s : State) (ns : Nat) : Bool :=
  s.seals.chains.any (fun e => e.1 != ns && (s.sealDue? e.1).any Seal.urgent)

/-- SEAL_SIGNED: the signature of a seal is made in its turn (R349); none is made while the DRBG is halted (R407).
(DEDUCED, log 20) -/
def execSealSigned (ns : BitVec 12) (s : State) : Out :=
  match s.sealDue? ns.toNat with
  | none => .next s
  | some x =>
    if s.live ∧ s.val Od.DRBG_STATE ≠ 2 ∧ (x.urgent = true ∨ s.sealAhead ns.toNat = false) then .next (s.signSeal ns.toNat x)
    else .next s

/-- SEAL_LAG: a seal has stayed bound and unsigned for longer than SEAL_INTERVAL (R362). -/
def execSealLag (ns : BitVec 12) (waitMs : BitVec 32) (s : State) : Out :=
  match (s.chain ns.toNat).seals.find? (fun x => x.signature.isNone) with
  | none => .next s
  | some x =>
    if s.val Od.SEAL_INTERVAL < waitMs.toNat then
      .next ((s.raiseTo Od.SEAL_LAG_MAX waitMs.toNat).raise Ev.SEAL_LAG [ns.toNat, x.seqNo % 2 ^ 32, waitMs.toNat])
    else .next s

end Sys2Proof.Machine
end

