-- ==== Sys2Proof/Machine/Admin.lean ====
section
/-! DEFINITION. The definition of namespaces, SANITISE and FORMAT (R43 to R45, R231 to R234, R406, R408). The rows that are OD
writes stand in OdRows.lean. -/

namespace Sys2Proof.Machine

/-- The parameters of a namespace at their defaults, NS_DATA_KEY_GEN apart (R232, R234). -/
def State.defaultNs (s : State) (ns : Nat) : State :=
  { s with od := { s.od with vals := s.od.vals.filter (fun e =>
      !(e.1 / 16777216 == ns && decide (0x2501 ≤ e.1 / 256 % 65536) && decide (e.1 / 256 % 65536 ≤ 0x250F)
        && e.1 / 256 % 65536 != Od.NS_DATA_KEY_GEN)) } }

/-- The chain of a namespace, with its seals and link lists, removed (R233, R367). -/
def State.dropChain (s : State) (ns : Nat) : State :=
  { s with seals := { s.seals with chains := SMap.erase s.seals.chains ns } }

/-- Ledger records that are neither used nor reserved (R368). -/
def State.ledgerFree (s : State) : Nat := 65536 - s.seals.ledger.length - s.seals.reserved

/-- The parameters forbid the definition (R45). -/
def State.nsForbidden (s : State) (ns : Nat) : Bool :=
  let p := s.nsParams ns
  (p.isSealed && !p.writeOnce) || (p.isSealed && (bitOf 1 p.kinds || bitOf 2 p.kinds)) || (p.writeOnce && bitOf 2 p.kinds)

/-- The namespace takes its data key and is DEFINED; a sealed one opens its chain with the genesis seal (R358, R361, R368,
R406). -/
def State.defineNow (s : State) (ns : Nat) : State :=
  let s1 : State := { s.draw with cipher := { s.cipher with
    keys := SMap.put s.cipher.keys ns (Config.dataKey s.draws), storeSeq := s.cipher.storeSeq + 1 } }
  let s2 := ((s1.bump Od.KEYSTORE_WRITES).odPut ns Od.NS_DATA_KEY_GEN 0 (s.odGet ns Od.NS_DATA_KEY_GEN 0 + 1)).odPut ns
    Od.NS_STATE 0 1
  if s.odGet ns Od.NS_SEAL_POLICY 0 = 1 then
    let s3 := s2.setChain ns { head := sealGenesis ns (s2.odGet ns Od.NS_DATA_KEY_GEN 0) }
    { s3 with seals := { s3.seals with reserved := s3.seals.reserved + 1 } }.bindSeal ns 1 0
  else s2

/-- A write to NS_STATE of a namespace (R43, R45, R234, R368, R407). (DEDUCED, log 20) -/
def State.defineNs (s : State) (ns v : Nat) : Wrote :=
  if v ≠ 1 then notWritten s .range
  else if s.odGet ns Od.NS_STATE 0 ≠ 0 ∨ s.admin.formatRuns ∨ s.nsForbidden ns then notWritten s .state
  else if s.odGet ns Od.NS_SEAL_POLICY 0 = 1 ∧ s.ledgerFree < 2 then notWritten s .state
  else if s.val Od.DRBG_STATE = 2 then notWritten s .range
  else wrote (s.defineNow ns)

/-- A FORMAT has been requested and its stage 4 has not ended. -/
def State.formatDue (s : State) : Bool := s.admin.formatAsked || s.admin.formatRuns

/-- A write to SANITISE_REQUEST (R231). -/
def State.askSanitise (s : State) (v : Nat) : Wrote :=
  let n := v % 65536
  if v / 65536 ≠ 0x5A5A ∨ n < 16 ∨ 4095 < n then notWritten s .range
  else if s.formatDue ∨ s.admin.sanitising = some n ∨ s.admin.sanitiseQueue.contains n then wrote s
  else if 16 ≤ s.admin.sanitiseQueue.length then notWritten s .state
  else
    let s1 : State := { s with admin := { s.admin with sanitiseQueue := s.admin.sanitiseQueue ++ [n] } }
    wrote (s1.setVal Od.SANITISE_QUEUED s1.admin.sanitiseQueue.length)

/-- A write to FORMAT_REQUEST (R234). (DESIGN CHOICE, log 41) -/
def State.askFormat (s : State) (v : Nat) : Wrote :=
  if v ≠ 0x464F524D then notWritten s .range
  else if s.formatDue then wrote s
  else
    let s1 : State := { s with admin := { s.admin with formatAsked := true, sanitiseQueue := [] } }
    wrote ((s1.setVal Od.SANITISE_QUEUED 0).setVal Od.FORMAT_REQUEST v)

/-- A stage of SANITISE recorded, in SANITISE_STATE and in the journal (R232). -/
def State.sanitiseStage (s : State) (n stage : Nat) : State :=
  (s.setVal Od.SANITISE_STATE stage).journalInternal 0x08 n (s.val Od.SANITISE_CSN) stage 0

/-- A hold that SANITISE of a namespace under a CSN takes from it: released when it covers no other (R232). -/
def Hold.leave (h : Hold) (n csn : Nat) : Hold :=
  let rest := h.covers.filter (· != n)
  if h.covers.contains n ∧ h.released.isNone then
    (if rest.isEmpty then { h with released := some csn } else { h with covers := rest })
  else h

/-- Writer handles, cursors and holds on a namespace are released under a CSN (R232). -/
def State.releaseNs (s : State) (n csn : Nat) : State :=
  let s1 : State := { s with kv := { s.kv with
    writers := s.kv.writers.map (fun w => if w.ns == n && w.released.isNone then { w with released := some csn } else w)
    cursors := s.kv.cursors.filter (fun k => k.ns != n)
    holds := s.kv.holds.map (fun h => h.leave n csn) } }
  s1.prune

/-- The supervisor slot in which stage 1 of SANITISE or FORMAT runs (R194, R232, R234). -/
def State.stageOneSlot? (s : State) (r : Routine) : Option Nat :=
  (s.seq.slots.find? (fun e => e.1 < 447 && e.2.routine == some r)).map (·.1)

/-- Stage 1 of SANITISE or FORMAT is bound in a supervisor slot under the CSN just taken (R194). -/
def State.bindStageOne (s : State) (m : Nat) (r : Routine) : State :=
  (s.draw.setSlot m { state := .executing, origin := 6, csn := s.seq.csnLast, routine := some r, tsFirst := s.clock.dt
                      teFirst := s.clock.te, tsBind := s.clock.dt, te := s.clock.te, bindClock := s.clock.expiry }).perf 0 1

/-- Stage 1 ends: its slot retires, and the later stages run as a routine in an internal slot (R232, R234). -/
def State.endStageOne (s : State) (m : Nat) (r : Routine) (csn : Nat) : State := (s.freeSlot m).startRoutine r csn 0

/-- The closing seal of a namespace whose chain is open takes its reserved ledger place (R361, R368). -/
def State.closingSeal (s : State) (n : Nat) : State :=
  if s.openChains.contains n then
    let s1 := s.bindSeal n 32 0
    { s1 with seals := { s1.seals with reserved := s1.seals.reserved - 1 } }
  else s

/-- A routine's internal slots are free. -/
def State.endRoutine (s : State) (r : Routine) : State :=
  { s with seq := { s.seq with slots := s.seq.slots.filter (fun e => e.2.routine != some r) } }

/-- SANITISE of a namespace is bound in a supervisor slot: of an UNDEFINED one it is complete; else stage 1 runs in the slot
(R231, R232). -/
def State.beginSanitise (s : State) (m n : Nat) (rest : List Nat) : State :=
  let s0 : State := { s with admin := { s.admin with sanitiseQueue := rest } }
  let s1 := (s0.setVal Od.SANITISE_QUEUED rest.length).takeCsn
  let s2 := s1.setVal Od.SANITISE_CSN s1.seq.csnLast
  if s.odGet n Od.NS_STATE 0 = 0 then (s2.sanitiseStage n 5).raise Ev.SANITISE_DONE [n]
  else
    let s3 := ((s2.bindStageOne m (.sanitise n)).closingSeal n).odPut n Od.NS_STATE 0 2
    let s4 : State := { s3 with admin := { s3.admin with sanitising := some n } }
    (s4.setVal Od.SANITISE_PROGRESS 0).sanitiseStage n 1

/-- A command of a namespace bound before a CSN has not completed. -/
def State.boundBefore (s : State) (n csn : Nat) : Bool :=
  s.seq.slots.any (fun e => (e.2.state == .bound || e.2.state == .executing) && e.2.csn < csn
    && (match e.2.routine with | none => true | some (.holdScan _) => true | some _ => false)
    && (let c := parseCmd (assemble e.2.frags); (opNamesNs c.opcode && c.ns == n) || e.2.incident.isSome))

/-- Every copy of a namespace's data key is destroyed, and its Pocket records with it (R232 stage 2, R408). -/
def State.eraseKey (s : State) (n csn : Nat) : State :=
  let dead := (s.kv.records.filter (fun r => r.ns == n && r.loc == .pocket)).map (·.csn)
  let s1 : State := { s with
    cipher := { s.cipher with keys := SMap.erase s.cipher.keys n, keyCache := s.cipher.keyCache.filter (· != n)
                              storeSeq := s.cipher.storeSeq + 1 }
    kv := { s.kv with
      records := s.kv.records.filter (fun r => !(dead.contains r.csn))
      versions := s.kv.versions.filter (fun v => !(v.ns == n && (versionRecords v).any (fun k => dead.contains k))) } }
  (s1.bump Od.KEYSTORE_WRITES).setVal Od.CRYPTO_ERASE_CSN csn

/-- A stripe by index and order of opening still stands. -/
def State.stands (s : State) (e : Nat × Nat) : Bool := (s.stripe e.1).state != .free && (s.stripe e.1).order == e.2

/-- The stripes that hold records of a namespace, by index and order of opening. -/
def State.stripesWith (s : State) (n : Nat) : List (Nat × Nat) :=
  (s.flash.stripes.filter (fun e => e.2.state != .free
    && e.2.records.any (fun q => q.ns == n))).map
    (fun e => (e.1, e.2.order))

/-- The index entries of a namespace are removed (R232 stage 3). -/
def State.purgeIndex (s : State) (n : Nat) : State :=
  let marked := s.stripesWith n
  let s1 : State := { s with
    kv := { s.kv with versions := s.kv.versions.filter (fun v => v.ns != n), records := s.kv.records.filter (fun r => r.ns != n) }
    flash := { s.flash with
      index := s.flash.index.filter (fun e => e.ns != n)
      maps := s.flash.maps.filter (fun e => !(s.kv.versions.any (fun v => v.ns == n && v.createCsn == e.1))) }
    admin := { s.admin with purging := marked, purgeTotal := marked.length } }
  s1.prune

/-- A stripe to be purged is made FULL and then a victim (R232 stage 4, Table 6.5). -/
def State.purgeStripe (s : State) (i : Nat) : State :=
  let x := s.stripe i
  if x.inFlight then s
  else
    let s1 := if x.state = .isOpen then s.endStripe i else s
    if (s1.stripe i).state = .full then s1.reclaim i (.collection i) else s1

/-- Every seal of a namespace's chain is signed. (DEDUCED, log 20) -/
def State.sealsDone (s : State) (n : Nat) : Bool := (s.chain n).seals.all (fun x => x.signature.isSome)

/-- The share of what is to be erased that is erased. -/
def State.purgedPercent (s : State) : Nat :=
  (s.admin.purgeTotal - (s.admin.purging.filter s.stands).length) * 100 / max 1 s.admin.purgeTotal

/-- Stage 4 goes on, or stage 5 is reached: the namespace is UNDEFINED (R232). (DESIGN CHOICE, log 41) -/
def State.eraseStep (s : State) (n : Nat) : State :=
  let left := s.admin.purging.filter s.stands
  if left.isEmpty ∧ s.sealsDone n then
    let s1 := ((s.setVal Od.SANITISE_PROGRESS 100).sanitiseStage n 5).endRoutine (.sanitise n)
    let s2 : State := { (s1.defaultNs n).dropChain n with admin := { s1.admin with sanitising := none, purging := [], purgeTotal := 0 } }
    s2.raise Ev.SANITISE_DONE [n]
  else (left.foldl (fun t e => t.purgeStripe e.1) s).setVal Od.SANITISE_PROGRESS s.purgedPercent

/-- The next step of the SANITISE that runs (R232): stage 1 waits in its slot until the commands bound before it have completed. -/
def State.sanitiseNext (s : State) (n : Nat) : State :=
  match s.val Od.SANITISE_STATE with
  | 1 =>
    let csn := s.val Od.SANITISE_CSN
    match s.stageOneSlot? (.sanitise n) with
    | some m => if s.boundBefore n csn then s else (s.releaseNs n csn).endStageOne m (.sanitise n) csn
    | none => ((s.releaseNs n csn).eraseKey n csn).sanitiseStage n 2
  | 2 => if s.kv.loaded then (s.purgeIndex n).sanitiseStage n 3 else s
  | 3 => s.sanitiseStage n 4
  | _ => s.eraseStep n

/-- SANITISE_STEP (R231 to R233). Nothing runs while DROWSE holds the routines, or a pause has checkpointed them (Table 5.7). -/
def execSanitiseStep (s : State) : Out :=
  if s.backgroundRuns = false ∨ s.power.firstOpen = false ∨ s.power.routinesPaused = true then .next s
  else match s.admin.sanitising with
    | some n => .next (s.sanitiseNext n)
    | none =>
      match s.admin.sanitiseQueue with
      | n :: rest => 
        match s.freeSupervisor? with
        | some m => if s.admin.formatRuns = true ∨ s.seq.stopped = true then .next s else .next (s.beginSanitise m n rest)
        | none => .next s
      | [] => .next s

/-- A stage of FORMAT recorded, in FORMAT_STATE and in the journal (R234). -/
def State.formatStage (s : State) (stage : Nat) : State :=
  (s.setVal Od.FORMAT_STATE stage).journalInternal 0x08 0 (s.val Od.FORMAT_CSN) stage 1

/-- FORMAT begins in a supervisor slot: its stage 1 is a service reset whose sessions go to FREE (R234). -/
def State.beginFormat (s : State) (m : Nat) : State :=
  let s1 := s.takeCsn.bindStageOne m .format
  let s2 : State := { s1 with admin := { s1.admin with formatAsked := false, formatRuns := true } }
  (((s2.setVal Od.FORMAT_CSN s2.seq.csnLast).setVal Od.FORMAT_PROGRESS 0).formatStage 1).serviceReset

/-- The namespaces that are not UNDEFINED. -/
def State.definedNs (s : State) : List Nat := (List.range 4096).filter (fun n => s.odGet n Od.NS_STATE 0 != 0)

/-- Stage 2 of FORMAT: closing seals, then every user namespace is crypto-erased and enters SANITISING (R234, R361). -/
def State.formatErase (s : State) : State :=
  let ns := s.definedNs
  let s1 := (s.openChains.foldl State.closingSeal s)
  let s2 := ns.foldl (fun t n => (t.odPut n Od.NS_STATE 0 2).releaseNs n (s.val Od.FORMAT_CSN)) s1
  let s3 := ns.foldl (fun t n => t.eraseKey n (s.val Od.FORMAT_CSN)) s2
  let s4 := { s3 with kv := { s3.kv with holds := [], writers := [], cursors := [] } }.formatStage 2
  match s.stageOneSlot? .format with
  | some m => s4.endStageOne m .format (s.val Od.FORMAT_CSN)
  | none => s4.startRoutine .format (s.val Od.FORMAT_CSN) 0

/-- Stage 3 of FORMAT: the index is empty and every stripe that holds data or index data is to be erased (R234). -/
def State.formatMedia (s : State) : State :=
  let all := s.flash.stripes.filter (fun e => e.2.state != .free)
  let s1 : State := { s with
    kv := { s.kv with versions := [], records := [] }
    flash := { s.flash with
      bins := [], collecting := none, folding := none, carried := 0
      index := [], dir := [], dirWritten := [], dirPages := [], maps := [], cache := []
      stripes := s.flash.stripes.map (fun e => (e.1, if e.2.state = .free then e.2
        else { e.2 with state := .erasing, inFlight := false, closing := false, records := [], pages := [] })) }
    pocket := { s.pocket with tombs := [] }
    admin := { s.admin with purging := all.map (fun e => (e.1, e.2.order)), purgeTotal := all.length } }
  s1.formatStage 3

/-- The window entries of every namespace at their defaults, NS_DATA_KEY_GEN apart, those written beforehand for namespaces still
UNDEFINED with them (R234). -/
def State.defaultWindows (s : State) : State :=
  { s with od := { s.od with vals := s.od.vals.filter (fun e =>
      !(decide (0x2501 ≤ e.1 / 256 % 65536) && decide (e.1 / 256 % 65536 ≤ 0x250F)
        && e.1 / 256 % 65536 != Od.NS_DATA_KEY_GEN)) } }

/-- Stage 4 of FORMAT: every user namespace is UNDEFINED, and its chain is removed (R234). (DESIGN CHOICE, log 41) -/
def State.formatEnd (s : State) : State :=
  let s1 := (s.definedNs.foldl (fun t n => t.dropChain n) s).defaultWindows
  let s2 : State := { s1.endRoutine .format with admin := { s1.admin with formatRuns := false, purging := [], purgeTotal := 0 } }
  (((s2.setVal Od.FORMAT_PROGRESS 100).setVal Od.FORMAT_REQUEST 0).formatStage 4).raise Ev.FORMAT_DONE

/-- The next step of the FORMAT that runs (R234). -/
def State.formatNext (s : State) : State :=
  match s.val Od.FORMAT_STATE with
  | 1 => if s.admin.pauseStage = 3 then s.formatErase else if s.admin.pauseStage = 0 then s.serviceReset else s
  | 2 => if s.admin.pauseStage = 0 then s.formatMedia else s
  | _ =>
    if s.backgroundRuns = false then s
    else if (s.admin.purging.filter s.stands).isEmpty ∧ s.definedNs.all s.sealsDone then s.formatEnd
    else s.setVal Od.FORMAT_PROGRESS s.purgedPercent

/-- FORMAT_STEP (R222, R234). -/
def execFormatStep (s : State) : Out :=
  if s.live = false ∨ s.power.firstOpen = false ∨ s.power.routinesPaused = true then .next s
  else if s.admin.formatRuns then .next s.formatNext
  else if s.admin.formatAsked = true ∧ s.admin.sanitising = none ∧ s.admin.pauseStage = 0 ∧ s.resetRefused = false then
    match s.freeSupervisor? with | some m => .next (s.beginFormat m) | none => .next s
  else .next s

end Sys2Proof.Machine
end

