-- ==== Sys2Proof/Machine/Health.lean ====
section
/-! DEFINITION. Meanings of faults in the engine, its memories, cores, cells and stores (R218, R230, R299 to R302, R391,
R392, R400, R401, R522, R582, R587 to R590), and the evaluation of health (R304). -/

namespace Sys2Proof.Machine

/-- HEALTH_EVALUATION (R304). -/
def execHealthEvaluation (s : State) : Out := if s.canPowered then .next s.evaluateHealth else .next s

/-- A unit count lowered by one. -/
def State.dec (s : State) (index : Nat) : State := s.setVal index (s.val index - 1)

/-- An op engine is retired; a spare takes its place, or one engine fewer is in service (R230, R285). -/
def State.retireOpe (s : State) (e : Nat) : State :=
  let s1 := s.setEngine e { s.engine e with inService := false, retired := true, slot := none }
  match (List.range 36).find? (fun k => !(s1.engine k).inService && !(s1.engine k).retired) with
  | some k => (((s1.setEngine k { inService := true }).dec Od.OPE_SPARE).raise Ev.OPE_SPARED [e, k]).evaluateHealth
  | none => (s1.dec Od.OP_ENGINES).evaluateHealth

/-- An op engine that can take a step, other than those of a list. -/
def State.freeEngine? (s : State) (but : List Nat) : Option Nat :=
  (List.range 36).find? (fun k =>
    let x := s.engine k; x.inService && !x.retired && !x.reloading && x.slot == none && !but.contains k)

/-- The step of a slot restarts from its beginning on another op engine under the same CSN (R230). Where none is free, the slot
stays EXECUTING and waits for one. (DESIGN CHOICE, log 28) -/
def State.restartStep (s : State) (n e : Nat) : State :=
  let x := { s.slot n with mchk := (s.slot n).mchk + 1
                           mchkOn := if (s.slot n).mchkOn.contains e then (s.slot n).mchkOn else e :: (s.slot n).mchkOn }
  let s1 := s.setSlot n x
  match s1.freeEngine? x.mchkOn with
  | some k => (s1.setSlot n { x with ope := some k, retry := none }).restartOn k n (some e) 0
  | none => s1.setSlot n { x with ope := none, retry := some .engine }

/-- A machine check of the step that an op engine runs (R218, R230): after three within 24 h the engine is replaced; three
engines on one step are a fatal error (Table 16.8). -/
def State.machineCheck (s : State) (e : Nat) : State :=
  match (s.engine e).slot with
  | none => s
  | some n =>
    let checks := (s.engine e).checks.filter (fun t => s.seconds < t + 86400) ++ [s.seconds]
    let s1 := (((s.bump Od.CNT_MACHINE_CHECK).perf 13 1).raise Ev.OPE_MCHK [e, n, (s.slot n).csn])
    let s2 := (s1.setEngine e { s1.engine e with checks := checks, slot := some n }).restartStep n e
    let s3 := s2.setEngine e { s2.engine e with slot := none }
    let s4 := if 3 ≤ checks.length then s3.retireOpe e else s3
    if 3 ≤ (s4.slot n).mchkOn.length then s4.engFatal 1 else s4

/-- STEP_TIMER_OVERRUN (R218, R582). -/
def execStepTimerOverrun (ope : Fin 36) (s : State) : Out :=
  if (s.engine ope.val).slot.isSome then .next ((s.bump Od.CNT_STEP_OVERRUN).machineCheck ope.val) else .next s

/-- A parity error of a control store (R590): store 0 micro, 1 nano, 2 sequencer. -/
def State.mcodeParity (s : State) (store unit address : Nat) : State :=
  (s.bump Od.CNT_MCODE_PARITY 1 (store + 1)).raise Ev.MCODE_PARITY [store, unit, address]

/-- OPE_PARITY_ERROR: a machine check; the engine's stores are reloaded before it takes another step (R589, R590). -/
def execOpeParityError (ope : Fin 36) (store : Fin 2) (address : BitVec 14) (s : State) : Out :=
  if s.live = true ∨ s.power.phase = .drowse2 ∨ s.power.phase = .hem then
    let s1 := ((s.mcodeParity store.val ope.val address.toNat).spoil store.val ope.val address.toNat).setEngine ope.val { s.engine ope.val with reloading := true }
    .next (s1.machineCheck ope.val)
  else .next s

/-- MSQ_PARITY_ERROR: the sequencer stops, and its store is reloaded (R589, R590). -/
def execMsqParityError (channel : Fin 16) (address : BitVec 13) (s : State) : Out :=
  if s.live = true ∨ s.power.phase = .drowse2 ∨ s.power.phase = .hem then
    let s1 := (s.mcodeParity 2 channel.val address.toNat).spoil 2 channel.val address.toNat
    .next { s1 with flash := { s1.flash with
      msqStopped := if s1.flash.msqStopped.contains channel.val then s1.flash.msqStopped
                    else channel.val :: s1.flash.msqStopped } }
  else .next s

/-- STORE_RELOAD_DONE: the unit resumes; an op engine whose store does not read back is replaced, a sequencer is reset and
stays stopped for another reload (R587, R588, R590). -/
def execStoreReloadDone (unit : StoreUnit) (readsBack : Bool) (s : State) : Out :=
  match unit with
  | .ope e =>
    if (s.engine e.val).reloading = true ∧ s.power.phase ≠ .hem then
      let s1 := (s.bump Od.CNT_STORE_RELOADS).setEngine e.val { s.engine e.val with reloading := false }
      .next (if readsBack then s1.reload false e.val else s1.retireOpe e.val)
    else .next s
  | .msq c =>
    if s.flash.msqStopped.contains c.val then
      let s1 := s.bump Od.CNT_STORE_RELOADS
      .next (if readsBack then
          ({ s1 with flash := { s1.flash with msqStopped := s1.flash.msqStopped.filter (· != c.val) } }).reload true c.val
        else s1)
    else .next s

/-- The role of an SRAM bank by the order of Table 1.3, banks 24 and 25 being the spares: what a spare replaces (R19).
(DESIGN CHOICE, log 34) -/
def State.bankRole (s : State) (b : Nat) : Option Nat := if b < 24 then some b else SMap.get? s.health.bankFor b

/-- What a bank held is lost where nothing restores it (R299): a port's buffers (banks 12 to 17), the staging and placket
buffers (22 and 23); op-engine steps take a machine check (18 to 21). (DESIGN CHOICE, log 34) -/
def State.bankContents (s : State) (role : Nat) : State :=
  if 12 ≤ role ∧ role < 18 then
    s.setPort (role - 12) { s.port (role - 12) with rxq := [], txq := [] }
  else if 18 ≤ role ∧ role < 22 then
    ((List.range 36).filter (fun e => (s.engine e).slot.isSome && Config.engineUsesBank e role)).foldl State.machineCheck s
  else if 22 ≤ role then s.setPort 6 { s.port 6 with rxq := [], txq := [] }
  else s

/-- The data port whose buffer bank takes the place of a failed bank: one whose link is down, otherwise P6 (R299). -/
def State.bankPort (s : State) : Nat :=
  ((List.range 6).find? (fun p => !(s.port p).linkUp && !(s.port p).heldDown)).getD 5

/-- An SRAM bank fails: a spare bank takes its place, or a data port gives up its own (R299). -/
def State.bankFails (s : State) (b : Nat) : State :=
  if s.health.banksFailed.contains b then s
  else
    let s1 : State := { s with health := { s.health with banksFailed := b :: s.health.banksFailed } }
    match s.bankRole b with
    | none => (s1.dec Od.SRAM_SPARE_BANKS).evaluateHealth
    | some role =>
      match [24, 25].find? (fun k => !s1.health.banksFailed.contains k && (SMap.get? s1.health.bankFor k).isNone) with
      | some k =>
        let s2 : State := { s1 with health := { s1.health with bankFor := SMap.put s1.health.bankFor k role } }
        ((((s2.dec Od.SRAM_SPARE_BANKS).raise Ev.SRAM_BANK_SPARED [b, k]).bankContents role)).evaluateHealth
      | none =>
        let p := s1.bankPort
        ((((s1.bankContents role).holdDown p).raise Ev.PORT_HELD_DOWN [p])).evaluateHealth

/-- SRAM_ROW_REPAIR: a row is remapped to one of its bank's 32 spare rows; without one the bank fails (R299). -/
def execSramRowRepair (bank : Fin 26) (row : BitVec 16) (s : State) : Out :=
  let used := SMap.getD s.health.sramRows bank.val 0
  if s.canPowered = false then .next s
  else if used < 32 then
    let s1 : State := { s with health := { s.health with sramRows := SMap.put s.health.sramRows bank.val (used + 1) } }
    .next ((s1.bump Od.SRAM_ROWS_REPAIRED 1 0 16).raise Ev.SRAM_ROW_REPAIR [bank.val, row.toNat])
  else .next (s.bankFails bank.val)

/-- POCKET_LINE_UNCORRECTABLE: one line of a group is rebuilt from the others; with two lost the entries in the group are
lost (R212, R230). -/
def execPocketLineUncorrectable (group : BitVec 17) (secondLine : Bool) (s : State) : Out :=
  let hit (r : Record) : Bool := r.loc == .pocket && Config.entryInGroup group.toNat r.csn
  if s.live = true ∧ secondLine = true ∧ s.kv.records.any hit = true then
    let s1 : State := { s with kv := { s.kv with
      records := s.kv.records.map (fun r => if hit r then { r with loc := .lost, bin := none } else r) } }
    .next s1.evaluateHealth
  else .next s

/-- A main cipher core fails its known-answer test: it is retired, and a spare takes its place (R300, R400).
(DESIGN CHOICE, log 34) -/
def State.coreFails (s : State) (k : Nat) : State :=
  let st := s.odGet 0 Od.CIPHER_CORE_STATE (k + 1)
  if st = 2 then s
  else
    let s1 := ((s.odPut 0 Od.CIPHER_CORE_STATE (k + 1) 2).bump Od.CNT_KAT_FAIL).raise Ev.CIPHER_KAT_FAIL [k]
    if st = 0 then s1.dec Od.CIPHER_SPARE
    else
      match (List.range 10).find? (fun j => s1.odGet 0 Od.CIPHER_CORE_STATE (j + 1) == 0) with
      | some j => ((s1.odPut 0 Od.CIPHER_CORE_STATE (j + 1) 1).dec Od.CIPHER_SPARE).raise Ev.CIPHER_CORE_SPARED [k, j]
      | none => s1.dec Od.CIPHER_CORES

/-- A SHA-512 unit fails its test; unit 4 is the spare (R300, R383). -/
def State.shaFails (s : State) (k : Nat) : State :=
  if s.cipher.shaRetired.contains k then s
  else
    let s1 : State := { s with cipher := { s.cipher with shaRetired := k :: s.cipher.shaRetired } }
    if k = 4 ∧ s.val Od.SHA_SPARE = 1 then s1.dec Od.SHA_SPARE
    else if s.val Od.SHA_SPARE = 1 ∧ s.cipher.shaRetired.contains 4 = false then (s1.dec Od.SHA_SPARE).raise Ev.SHA_SPARED [k, 4]
    else s1

/-- The Lining fails its own test: it is not used (R400). -/
def State.liningFails (s : State) : State :=
  if s.cipher.liningOk then
    ({ s with cipher := { s.cipher with liningOk := false } }).raise Ev.CIPHER_KAT_FAIL [10]
  else s

/-- With no main core usable the Lining carries every job (R401). -/
def State.liningCarries (s : State) : State :=
  if s.noCore ∧ s.cipher.liningOk = true ∧ s.val Od.LINING_STATE ≠ 2 then (s.setVal Od.LINING_STATE 2).raise Ev.LINING_FALLBACK
  else s

/-- The outcome of one round of known-answer tests (R300, R400, R401). -/
def State.katRound (s : State) (failedCores failedSha : Nat) (liningOk : Bool) : State :=
  let s1 := ((List.range 10).filter (fun k => failedCores.testBit k)).foldl State.coreFails s
  let s2 := ((List.range 5).filter (fun k => failedSha.testBit k)).foldl State.shaFails s1
  ((if liningOk then s2 else s2.liningFails).liningCarries).evaluateHealth

/-- KAT_TIMER (R400). -/
def execKatTimer (failedCores : BitVec 10) (failedSha : BitVec 5) (liningOk : Bool) (s : State) : Out :=
  if s.live then .next (s.katRound failedCores.toNat failedSha.toNat liningOk) else .next s

/-- SCAP_CELL of a cell: state, ESR and capacitance (Table 14.4, 0x2115). -/
def cellWord (state esr cap : Nat) : Nat := state * 2 ^ 30 + esr * 2 ^ 16 + cap

/-- A cell fails below 70 % of its rated 2.0 F, or above twice its rated ESR (R301). -/
def cellBad (cap esr : Nat) : Bool := decide (cap < 1400) || decide (2 * Config.ratedEsr.toNat < esr)

/-- One measured cell: its figures are recorded; a cell in service or spare that fails is bypassed (R301). -/
def State.measureCell (s : State) (k cap esr : Nat) : State :=
  let st := bitsOf 31 30 (s.odGet 0 Od.SCAP_CELL k)
  if st = 2 then s
  else if !cellBad cap esr then s.odPut 0 Od.SCAP_CELL k (cellWord st esr cap)
  else
    let s1 := s.odPut 0 Od.SCAP_CELL k (cellWord 2 esr cap)
    if st = 0 then s1.dec Od.SCAP_SPARE else s1.raise Ev.SCAP_CELL_SPARED [k - 1]

/-- The spare cell is switched into the string when a cell in service has failed (R301). -/
def State.switchCell (s : State) : State :=
  if 5 ≤ s.cellsInService then s
  else match [1, 2, 3, 4, 5, 6].find? (fun k => bitsOf 31 30 (s.odGet 0 Od.SCAP_CELL k) == 0) with
    | some k => (s.odPut 0 Od.SCAP_CELL k (s.odGet 0 Od.SCAP_CELL k + 2 ^ 30)).dec Od.SCAP_SPARE
    | none => s

/-- SCAP_MEASUREMENT (R301, R522). (DESIGN CHOICE, log 31) -/
def execScapMeasurement (capMf : List (BitVec 16)) (esrMohm : List (BitVec 14)) (usableMj : BitVec 16) (s : State) : Out :=
  if s.canPowered = false then .next s
  else
    let cells := ((List.range 6).zip (capMf.zip esrMohm))
    let s1 := (cells.foldl (fun t e => t.measureCell (e.1 + 1) e.2.1.toNat e.2.2.toNat) s).switchCell
    let s2 := s1.setVal Od.HOLDUP_ENERGY usableMj.toNat
    .next ((if usableMj.toNat < 12000 then s2.raise Ev.HOLDUP_LOW [usableMj.toNat] else s2).evaluateHealth)

/-- PHASE_IMBALANCE: the phase is disabled (R301). -/
def execPhaseImbalance (rail phase : BitVec 8) (s : State) : Out :=
  let k := rail.toNat * 256 + phase.toNat
  if s.canPowered = false ∨ s.power.phasesOff.contains k = true then .next s
  else
    let s1 : State := { s with power := { s.power with phasesOff := k :: s.power.phasesOff } }
    .next (((s1.bump Od.PHASES_FAILED 1 0 8).raise Ev.PHASE_DISABLED [rail.toNat, phase.toNat]).evaluateHealth)

/-- The map-out of an LPDDR channel begins with the copy of its regions (R302). -/
def State.mapOut (s : State) (c : Nat) : State :=
  if s.health.lpddrCopying.contains c ∨ (s.val Od.LPDDR_MAPPED_OUT).testBit c = true then s
  else ({ s with health := { s.health with lpddrCopying := c :: s.health.lpddrCopying } }).evaluateHealth

/-- An uncorrectable LPDDR error by region (Table 7.2). (DESIGN CHOICE, log 34) -/
def State.lpddrRegionLost (s : State) : LpddrRegion → State
  | .pageCache => { s with flash := { s.flash with cache := s.flash.cache.drop 1 } }
  | .directory b =>
    { s with kv := { s.kv with rebuilding := if s.kv.rebuilding.contains b.val then s.kv.rebuilding else b.val :: s.kv.rebuilding } }
  | .context c => if (s.session c.val).state = .isOpen then s.closeSession c.val St.NO_CONTEXT else s
  | .matcher => s
  | .working e => s.machineCheck e.val
  | .supervisor => s.supRestart 2

/-- LPDDR_ERROR (R302). -/
def execLpddrError (channel : Fin 8) (e : LpddrFault) (s : State) : Out :=
  if s.live = false then .next s
  else match e with
    | .uncorrectable r => .next ((s.lpddrRegionLost r).mapOut channel.val)
    | .correctedRate => .next (s.mapOut channel.val)

/-- The page cache keeps what it has room for: the least recently used runs leave it (R21, R263). -/
def State.shrinkCache (s : State) : State := { s with flash := { s.flash with cache := s.fitCache s.cachePages s.flash.cache } }

/-- LPDDR_MAP_OUT_COPY_DONE: the channel is removed, and the page cache shrinks (R21, R302). -/
def execLpddrMapOutCopyDone (channel : Fin 8) (s : State) : Out :=
  let c := channel.val
  if s.health.lpddrCopying.contains c then
    let s1 : State := { s with health := { s.health with lpddrCopying := s.health.lpddrCopying.filter (· != c) } }
    .next ((((s1.setVal Od.LPDDR_MAPPED_OUT (s1.val Od.LPDDR_MAPPED_OUT + 2 ^ c)).shrinkCache).raise Ev.LPDDR_MAPPED_OUT [c]).evaluateHealth)
  else .next s

/-- The record that a read waits on, and the verified data bytes before its failed chunk (R391, R392). -/
def State.retryOf (s : State) (x : Slot) (c : Cmd) (k : Nat) : Option (Nat × Nat) :=
  match s.valueAt c.ns c.key x.csn x.bindClock with
  | none => none
  | some v =>
    match v.extent? with
    | some e => ((e.cells.find? (fun z => z.addr == c.param 0 8 + k)).map (fun z => (z.frag, k)))
    | none => some (v.stamp.csn, chunkStart c.key.length k)

/-- The record of a chunk that the retry recovered begins to be relocated (R280, R391). -/
def State.relocateRecord (s : State) (csn : Nat) : State :=
  match s.stripeOf? csn with
  | none => s
  | some i => s.startMoving (((s.liveIn i).filter (fun r => r.csn == csn)).map (·.csn))

/-- The reply of the read that waited, cut at the verified length (R392). (DESIGN CHOICE, log 28) -/
def cutReply (r : Reply) (len : Nat) : Reply :=
  { r with trailer := some (if len = 0 then St.TAG_FAIL else St.PARTIAL, len), length := len }

/-- PARITY_RETRY_DONE: the chunk is released and the read completes, or it ends with PARTIAL or TAG_FAIL (R391, R392). -/
def execParityRetryDone (slot : Fin 512) (verifies : Bool) (s : State) : Out :=
  let n := slot.val
  let x := s.slot n
  let c := parseCmd (assemble x.frags)
  match x.retry with
  | none => .next s
  | some .engine => .next s
  | some (.parity k) =>
    let s1 := s.setSlot n { x with retry := none }
    let x1 := s1.slot n
    match s1.retryOf x1 c k with
    | none => .next s1
    | some (csn, len) =>
      let o := if c.opcode = 0x13 then xreadEffect x1 c s1 else getReply x1 c s1
      if verifies then
        let s2 := ((o.1.bump Od.CNT_RETRY_RECOVERED).relocateRecord csn).raise Ev.CIPHER_RETRY_OK
          [(s1.stripeOf? csn).getD 0, if c.opcode = 0x13 then k / 65536 else k]
        .next (s2.retire n x1 c o.2)
      else
        let r := cutReply o.2 len
        let s2 := (o.1.bump (if len = 0 then Od.CNT_TAG_FAIL_FINAL else Od.CNT_PARTIAL)).setCond 14
        .next (((s2.raise Ev.CIPHER_TAG_FAIL [c.ns, x.csn, r.final]).evaluateHealth).retire n x1 c r)

end Sys2Proof.Machine
end

