-- ==== Sys2Proof/Machine/Matcher.lean ====
section
/-! DEFINITION. Meanings of TOKEN_QUERY and TOKEN_EDIT, of the matcher's moves, its scrubber and its tiles (R312 to
R345). -/

namespace Sys2Proof.Machine

/-- A TOKEN_QUERY or TOKEN_EDIT that MATCH_ACCESS does not grant (R323). -/
def State.matchRefused (s : State) (x : Slot) : State × Reply :=
  ((s.bump Od.CNT_MATCH_REFUSED).raise Ev.MATCH_ACCESS_REFUSED [x.port, x.session.toNat], .fail St.NOT_FOUND)

/-- TOKEN_QUERY: the lowest matching address with its action and the generation (R324). -/
def tokenQueryEffect (x : Slot) (c : Cmd) (s : State) : State × Reply :=
  if x.denied then s.matchRefused x
  else match s.search (searchKey (c.param 0 16) (c.param 16 2) (c.param 18 2)) with
    | none => (s, .fail St.NOT_FOUND)
    | some p =>
      (s.bump Od.CNT_MATCH_HITS 1 0 64,
        { rparams := toBE 4 p.1 ++ toBE 4 (s.val Od.MATCH_GENERATION) ++ toBE 8 p.2.action.toNat
          result0 := p.1, result1 := s.val Od.MATCH_GENERATION })

/-- TOKEN_QUERY (R324). -/
def execTokenQuery (slot : Fin 512) (s : State) : Out := .next (s.runKv slot.val (isOp 0x38) tokenQueryEffect)

/-- The key value and mask that the engine stores: the value under the mask, its list id the owning list's (R315). -/
def storedKey (c : Cmd) : BitVec 160 × BitVec 160 :=
  let m := BitVec.ofNat 160 (c.param 28 20)
  let v := BitVec.ofNat 160 (c.param 8 20) &&& m
  ((v &&& ~~~(0xFFFF0000 : BitVec 160)) ||| BitVec.ofNat 160 (editList c * 65536), m)

/-- The entry that a command of OP 1 writes. -/
def editEntry (c : Cmd) (l : Nat) : MatchEntry :=
  { keyValue := (storedKey c).1, keyMask := (storedKey c).2, action := BitVec.ofNat 64 (c.param 48 8), listNum := l }

/-- The journal records of an edit: MATCH_EDIT, and MATCH_EDIT_DATA as the command's effect (R339, Table 8.2). -/
def State.editDone (s : State) (x : Slot) (c : Cmd) (a rank : Nat) : State × Reply :=
  let s1 := s.matchChanged
  let op := c.param 0 1
  let k := storedKey c
  let v := k.1.toNat
  let m := k.2.toNat
  let g := s1.val Od.MATCH_GENERATION
  let s2 := s1.journal
    { type := 0x0A, flags := if x.ordered then 1 else 0, session := x.session, csn := x.csn, dt := x.tsBind, te := x.te
      tag := x.tag, digest := v / 2 ^ 32
      argA := v / 65536 % 65536 * 2 ^ 48 + v % 65536 * 2 ^ 32 + op * 2 ^ 24 + a
      argB := if op = 3 then 0 else c.param 48 8 }
  (s2, { rparams := toBE 4 a ++ toBE 4 g, result0 := a, result1 := g
         effect := some { type := 0x0B, digest := m / 2 ^ 32
                          argA := m / 65536 % 65536 * 2 ^ 48 + m % 65536 * 2 ^ 32 + editList c * 65536
                          argB := g * 2 ^ 32 + rank } })

/-- A routine over a list starts in an internal slot (R333, R336). -/
def State.startMoves (s : State) (l busy : Nat) (r : Routine) : State := (s.setBusy l busy).startRoutine r s.seq.csnLast 0

/-- The routine over a list ends. -/
def State.endMoves (s : State) (l : Nat) (r : Routine) : State :=
  let s1 := s.setBusy l 0
  { s1 with seq := { s1.seq with slots := s1.seq.slots.filter (fun e => e.2.routine != some r) } }

/-- A segment of a Pleat list has no free place. -/
def State.fullSegments (s : State) (l : Nat) : List Nat :=
  ((List.range (s.listSize l / 16)).map (fun k => s.listBase l + 16 * k)).filter (fun b => 16 ≤ s.segCount l b)

/-- An entry is written at the address of its rank: into the hole of a Tuck list, or after the later entries of the
segment have gone one place higher (R332, R335). -/
def State.writeInsert (s : State) (c : Cmd) (l p : Nat) : State × Nat :=
  let e := editEntry c l
  if s.isPleat l then
    let b := s.targetSegment l p
    let a := s.insertAddress l p
    let r := moveUp 16 s.matcher.entries (b + s.segCount l b) a
    (s.moved (SMap.put r.1 a e) r.2.2, a)
  else
    match SMap.get? s.matcher.holes l with
    | some a =>
      let t := s.moved (SMap.put s.matcher.entries a e) 0
      ({ t with matcher := { t.matcher with holes := SMap.erase t.matcher.holes l } }.setBusy l 0, a)
    | none =>
      let n := (s.listEntries l).length
      let r := moveUp n s.matcher.entries (s.listBase l + n) (s.listBase l + p)
      (s.moved (SMap.put r.1 (s.listBase l + p) e) r.2.2, s.listBase l + p)

/-- TOKEN_EDIT OP 1 (R329). -/
def insertEffect (x : Slot) (c : Cmd) (s : State) : State × Reply :=
  if x.denied then s.matchRefused x
  else match s.listOf? (editList c) with
    | none => (s, .fail St.NOT_FOUND)
    | some l =>
      let p := c.param 4 4
      let n := (s.listEntries l).length
      if n < p then (s, .fail St.NOT_FOUND)
      else if s.val Od.HEALTH_STATE = 6 then (s.perf 92 1, .fail St.NO_SPACE)
      else if s.listRoom l ≤ n then ((s.perf 92 1).raise Ev.MATCH_LIST_FULL [editList c], .fail St.NO_SPACE)
      else
        let w := s.writeInsert c l p
        let s1 := w.1
        let s2 := if s1.isPleat l && !(s1.fullSegments l).isEmpty && s1.listBusy l == 0 then s1.startMoves l 3 (.repleat l) else s1
        s2.editDone x c w.2 p

/-- The publish write of an edit is held until every query with a lower CSN has finished, and until there is a place to
write to (R325, R335). (DESIGN CHOICE, log 26) -/
def State.editHeld (s : State) (n : Nat) : Bool :=
  let x := s.slot n
  let c := parseCmd (assemble x.frags)
  s.queriesBelow x.csn || (c.param 0 1 == 1 && !x.denied &&
    match s.listOf? (editList c) with
    | none => false
    | some l => s.isPleat l && s.insertFits l (c.param 4 4) && decide (16 ≤ s.segCount l (s.targetSegment l (c.param 4 4))))

/-- A TOKEN_EDIT by its OP. -/
def isEdit (p : Nat → Bool) (c : Cmd) : Bool := c.opcode == 0x39 && p (c.param 0 1)

/-- TOKEN_EDIT OP 1; an OP that is none of the three runs here, and is MALFORMED (R182, R329). (DEDUCED, log 7) -/
def execTokenEditInsert (slot : Fin 512) (s : State) : Out :=
  if s.editHeld slot.val then .next s
  else .next (s.runKv slot.val (isEdit (fun op => op != 2 && op != 3)) insertEffect)

/-- The entry that OP 2 and OP 3 address, with its list slot and rank (R330). -/
def State.editTarget? (s : State) (c : Cmd) : Option (Nat × Nat × MatchEntry) :=
  match s.listOf? (editList c), SMap.get? s.matcher.entries (c.param 4 4) with
  | some l, some e =>
    if e.valid && e.listNum == l && (e.keyValue, e.keyMask) == storedKey c then
      some (l, ((s.listEntries l).filter (fun q => q.1 < c.param 4 4)).length, e)
    else none
  | _, _ => none

/-- TOKEN_EDIT OP 2 writes the action word (R330). -/
def replaceEffect (x : Slot) (c : Cmd) (s : State) : State × Reply :=
  if x.denied then s.matchRefused x
  else match s.editTarget? c with
    | none => (s, .fail St.NOT_FOUND)
    | some t =>
      if s.val Od.HEALTH_STATE = 6 then (s.perf 92 1, .fail St.NO_SPACE)
      else
        let a := c.param 4 4
        let e : MatchEntry := { t.2.2 with action := BitVec.ofNat 64 (c.param 48 8) }
        ({ s with matcher := { s.matcher with entries := SMap.put s.matcher.entries a e } }).editDone x c a t.2.1

/-- TOKEN_EDIT OP 2 (R330). -/
def execTokenEditReplace (slot : Fin 512) (s : State) : Out :=
  if s.editHeld slot.val then .next s else .next (s.runKv slot.val (isEdit (fun op => op == 2)) replaceEffect)

/-- An entry is cleared; in a Tuck list the close-up begins, in a Pleat list the later entries of its segment move up (R333,
R336). -/
def State.writeRemove (s : State) (l a : Nat) : State :=
  let m := SMap.erase s.matcher.entries a
  if s.isPleat l then
    let r := moveDown 16 m a (segBase (s.listBase l) a + 16)
    s.moved r.1 r.2.2
  else
    let t := s.moved m 0
    if (SMap.get? m (a + 1)).isSome && a + 1 < s.listBase l + s.listSize l then
      ({ t with matcher := { t.matcher with holes := SMap.put t.matcher.holes l a } }).startMoves l 2 (.closeUp l)
    else t

/-- TOKEN_EDIT OP 3 clears VALID (R330). -/
def removeEffect (x : Slot) (c : Cmd) (s : State) : State × Reply :=
  if x.denied then s.matchRefused x
  else match s.editTarget? c with
    | none => (s, .fail St.NOT_FOUND)
    | some t =>
      if s.val Od.HEALTH_STATE = 6 then (s.perf 92 1, .fail St.NO_SPACE)
      else (s.writeRemove t.1 (c.param 4 4)).editDone x c (c.param 4 4) t.2.1

/-- TOKEN_EDIT OP 3 (R330). -/
def execTokenEditRemove (slot : Fin 512) (s : State) : Out :=
  if s.editHeld slot.val then .next s else .next (s.runKv slot.val (isEdit (fun op => op == 3)) removeEffect)

/-- An insertion into a Tuck list waits FILLED for its hole, every other binding condition held (R332, R334). -/
def State.opensHole (s : State) (n : Nat) (x : Slot) (c : Cmd) : Option Nat :=
  if x.state == .filled && slotComplete x && s.bindingOpen x && s.mayBind n x && s.fenceAtBind x == none
      && c.opcode == 0x39 && c.param 0 1 == 1 && !malformed false 0 c && s.matchGrants x c && !s.editsPending (editList c)
      && !s.editAhead n c then
    match s.listOf? (editList c) with
    | none => none
    | some l => if !s.isPleat l && s.insertFits l (c.param 4 4) && (s.listBusy l == 0 || x.hole == 1) then some l else none
  else none

/-- TUCK_HOLE_OPEN: a step of at most 1,024 moves toward an open hole (R332, R337). (DESIGN CHOICE, log 26) -/
def execTuckHoleOpen (slot : Fin 512) (s : State) : Out :=
  let x := s.slot slot.val
  let c := parseCmd (assemble x.frags)
  match s.opensHole slot.val x c with
  | none => .next s
  | some l =>
    let target := s.listBase l + c.param 4 4
    let gap := (SMap.get? s.matcher.holes l).getD (s.listBase l + (s.listEntries l).length)
    let r := moveUp 1024 s.matcher.entries gap target
    let s1 := (s.moved r.1 r.2.2).setBusy l 1
    .next ({ s1 with matcher := { s1.matcher with holes := SMap.put s1.matcher.holes l r.2.1 } }.setSlot slot.val
      { x with hole := if r.2.1 ≤ target then 2 else 1 })

/-- A command holds the hole of a list, open or being opened. -/
def State.holeOwned (s : State) (l : Nat) : Bool :=
  s.seq.slots.any (fun e => e.2.hole != 0 && s.listOf? (editList (parseCmd (assemble e.2.frags))) == some l)

/-- TUCK_CLOSE_UP: a step of at most 1,024 moves that packs a Tuck list again, after a removal or when the command that
opened a hole is gone (R333, R337, R341). (DESIGN CHOICE, log 26) -/
def execTuckCloseUp (list : Fin 64) (s : State) : Out :=
  let l := list.val
  match SMap.get? s.matcher.holes l with
  | none => .next s
  | some gap =>
    if s.listBusy l = 2 ∨ s.holeOwned l = false then
      let r := moveDown 1024 s.matcher.entries gap (s.listBase l + s.listSize l)
      let s1 := s.moved r.1 r.2.2
      if r.2.2 < 1024 then
        .next ({ s1 with matcher := { s1.matcher with holes := SMap.erase s1.matcher.holes l } }.endMoves l (.closeUp l))
      else .next { s1 with matcher := { s1.matcher with holes := SMap.put s1.matcher.holes l r.2.1 } }
    else .next s

/-- A segment after another has two or more free places (R336). -/
def State.roomAfter (s : State) (l b : Nat) : Bool :=
  (List.range (s.listSize l / 16)).any (fun k => let c := s.listBase l + 16 * k; decide (b < c) && decide (s.segCount l c ≤ 14))

/-- One segment of a re-pleat toward the later segments (R336). -/
def State.repleatLater (s : State) (l b : Nat) : State :=
  let r := moveUp 16 s.matcher.entries (b + 16 + s.segCount l (b + 16)) (b + 16)
  match SMap.get? r.1 (b + 15) with
  | none => s
  | some e => s.moved (SMap.erase (SMap.put r.1 (b + 16) e) (b + 15)) (r.2.2 + 1)

/-- One segment of a re-pleat toward the earlier segments (R336). -/
def State.repleatEarlier (s : State) (l b : Nat) : State :=
  match SMap.get? s.matcher.entries b with
  | none => s
  | some e =>
    let r := moveDown 16 (SMap.erase (SMap.put s.matcher.entries (b - 16 + s.segCount l (b - 16)) e) b) b (b + 16)
    s.moved r.1 (r.2.2 + 1)

/-- REPLEAT: one segment of a re-pleat; it ends when every segment has a free place (R336). (DESIGN CHOICE, log 26) -/
def execRepleat (list : Fin 64) (s : State) : Out :=
  let l := list.val
  if s.listBusy l ≠ 3 then .next s
  else
    let full := s.fullSegments l
    let s1 := match (full.filter (s.roomAfter l)).getLast? with
      | some b => s.repleatLater l b
      | none => match full.head? with
        | some b => if s.listBase l < b then s.repleatEarlier l b else s
        | none => s
    if (s1.fullSegments l).isEmpty then .next (s1.endMoves l (.repleat l)) else .next s1

/-- The logical tile of an address fails (R344). -/
def State.tileFailing (s : State) (k : Nat) : State :=
  { s with matcher := { s.matcher with failing := if s.matcher.failing.contains k then s.matcher.failing else k :: s.matcher.failing } }

/-- MATCH_SCRUB (Table 8.3). An entry lost on both sides is out of searches until it is restored from the image and the
journal, within 100 ms: at the next tick. In DOZE the scrubber stops (R536). (DESIGN CHOICE, log 26) -/
def execMatchScrub (address : Fin 131072) (r : ScrubResult) (s : State) : Out :=
  let a := address.val
  let k := a / 16384
  if s.live ∧ s.power.engine ≠ .doze ∧ a < s.matchEntries then
    match r with
    | .equal => .next s
    | .shadowBad => .next s
    | .tileBad readsBack =>
      let n := SMap.getD s.matcher.repairs k 0 + 1
      let s1 : State := { s with matcher := { s.matcher with repairs := SMap.put s.matcher.repairs k n } }
      let s2 := (s1.bump Od.CNT_MATCH_REPAIRS).raise Ev.MATCH_SOFT_ERROR [a]
      .next (if !readsBack || decide (16 < n) then s2.tileFailing k else s2)
    | .bothBad =>
      let s1 : State := match SMap.get? s.matcher.entries a with
        | some e => { s with matcher := { s.matcher with entries := SMap.put s.matcher.entries a { e with valid := false } } }
        | none => s
      .next (s1.raise Ev.MATCH_ENTRY_LOST [a])
  else .next s

/-- Entries that wait to be restored are valid again (Table 8.3). (DESIGN CHOICE, log 26) -/
def State.restoreEntries (s : State) : State :=
  if s.matcher.entries.any (fun e => !e.2.valid) then
    { s with matcher := { s.matcher with entries := s.matcher.entries.map (fun e => (e.1, { e.2 with valid := true })) } }
  else s

/-- The physical tile that no logical tile uses. -/
def State.spareTile (s : State) : Nat :=
  ((List.range 9).find? (fun t => !([1, 2, 3, 4, 5, 6, 7, 8].any (fun k => s.odGet 0 Od.MATCH_TILE_MAP k == t)))).getD 8

/-- A tile that failed has been replaced or lost. -/
def State.tileDone (s : State) (k : Nat) : State :=
  { s with matcher := { s.matcher with failing := s.matcher.failing.filter (· != k), repairs := SMap.erase s.matcher.repairs k } }

/-- The spare, filled from the shadow copy, takes the place of a failing tile (R285, R344). -/
def State.spareInto (s : State) (k : Nat) : State :=
  let failed := s.odGet 0 Od.MATCH_TILE_MAP (k + 1)
  let spare := s.spareTile
  let s1 := ((s.tileDone k).odPut 0 Od.MATCH_TILE_MAP (k + 1) spare).setVal Od.MATCH_SPARE 0
  ((s1.perf 85 16384).raise Ev.MATCH_TILE_SPARED [k, failed, spare]).evaluateHealth

/-- MATCH_TILE_SPARED (R344). -/
def execMatchTileSpared (logical : Fin 8) (s : State) : Out :=
  let k := logical.val
  if s.live ∧ s.matcher.failing.contains k ∧ s.val Od.MATCH_SPARE = 1 then .next (s.spareInto k) else .next s

/-- The defined lists by rising base: slot, base, size. -/
def State.listsByBase (s : State) : List (Nat × Nat × Nat) :=
  (((List.range 64).filter (fun l => s.odGet l Od.LIST_ID 0 != 0)).map (fun l => (s.listBase l, l, s.listSize l))).foldl
    (fun acc x => acc.takeWhile (fun y => decide (y.1 ≤ x.1)) ++ x :: acc.dropWhile (fun y => decide (y.1 ≤ x.1))) []
  |>.map (fun x => (x.2.1, x.1, x.2.2))

/-- Lists placed one after the other from the `j`-th on, without gaps but for the alignment of Pleat lists. -/
def State.packFrom (s : State) (j : Nat) (ls : List (Nat × Nat × Nat)) : List (Nat × Nat × Nat) :=
  (ls.foldl (fun (acc : List (Nat × Nat × Nat) × Nat × Nat) x =>
    let b := if acc.2.1 < j then x.2.1 else if s.isPleat x.1 then roundUp acc.2.2 16 else acc.2.2
    (acc.1 ++ [(x.1, b, x.2.2)], acc.2.1 + 1, b + x.2.2)) ([], 0, 0)).1

/-- The end of the last list. -/
def listsEnd (ls : List (Nat × Nat × Nat)) : Nat := (ls.map (fun x => x.2.1 + x.2.2)).foldl max 0

/-- Sizes reduced from the last list on until the lists end at `cap` (R345). -/
def State.shrinkLists (s : State) (cap : Nat) : List (Nat × Nat × Nat) → List (Nat × Nat × Nat)
  | [] => []
  | x :: ls =>
    let room := cap - x.2.1
    let z := min x.2.2 (if s.isPleat x.1 then room / 16 * 16 else room)
    (x.1, x.2.1, z) :: s.shrinkLists cap ls

/-- The layout of the lists in `cap` addresses: gaps closed from the highest on, then sizes reduced (R345).
(DESIGN CHOICE, log 26) -/
def State.relayout (s : State) (cap : Nat) : List (Nat × Nat × Nat) :=
  let ls := s.listsByBase
  let tries := ((List.range (ls.length + 1)).reverse.filter (fun j => 0 < j)).map (fun j => s.packFrom j ls)
  match tries.find? (fun t => decide (listsEnd t ≤ cap)) with
  | some t => t
  | none => s.shrinkLists cap (s.packFrom 1 ls)

/-- A tile is lost with no spare, and the table shrinks by its addresses (R345). The tiles that remain carry the lowest logical
numbers. (DESIGN CHOICE, log 26) -/
def State.loseTile (s : State) (k : Nat) : State :=
  let left := ([1, 2, 3, 4, 5, 6, 7, 8].filter (fun i => i != k + 1)).map (fun i => s.odGet 0 Od.MATCH_TILE_MAP i)
  let s1 := (List.range 8).foldl (fun (t : State) i => t.odPut 0 Od.MATCH_TILE_MAP (i + 1) (left.getD i 0xFF)) (s.tileDone k)
  let s2 : State := { s1 with health := { s1.health with tileLost := k :: s1.health.tileLost }
                              matcher := { s1.matcher with failing := s1.matcher.failing.map (fun i => if k < i then i - 1 else i) } }
  let s3 := (s1.relayout s2.matchEntries).foldl
    (fun (t : State) x => (t.odPut x.1 Od.LIST_BASE 0 x.2.1).odPut x.1 Od.LIST_SIZE 0 x.2.2) s2
  let s4 := s3.layoutAll
  let s5 := (s4.bump Od.MATCH_DROPPED (s3.matcher.entries.length - s4.matcher.entries.length)).bump Od.MATCH_GENERATION
  (s5.raise Ev.MATCH_CAPACITY_LOST [s5.val Od.MATCH_DROPPED]).evaluateHealth

/-- MATCH_CAPACITY_LOST (R345). -/
def execMatchCapacityLost (logical : Fin 8) (s : State) : Out :=
  let k := logical.val
  if s.live ∧ s.matcher.failing.contains k ∧ s.val Od.MATCH_SPARE = 0 ∧ 16384 * k < s.matchEntries then .next (s.loseTile k)
  else .next s

/-- The tiles that fail their self-test at a start are replaced, or lost, before intake opens, from the highest logical tile on; a
spare that fails it is none (R344, R345). (DESIGN CHOICE, log 26) -/
def State.tilesAtStart (s : State) (pass : BitVec 9) : State :=
  let s0 := if s.val Od.MATCH_SPARE = 1 ∧ pass.getLsbD s.spareTile = false then (s.setVal Od.MATCH_SPARE 0).evaluateHealth else s
  ([7, 6, 5, 4, 3, 2, 1, 0].filter (fun k =>
      let t := s0.odGet 0 Od.MATCH_TILE_MAP (k + 1)
      t != 0xFF && !pass.getLsbD t)).foldl (fun (t : State) k => if t.val Od.MATCH_SPARE = 1 then t.spareInto k else t.loseTile k) s0

/-- The entries of a list replaced, laid out anew. -/
def State.setList (s : State) (l : Nat) (es : List MatchEntry) : State :=
  let m := s.matcher.entries.filter (fun p => p.2.listNum != l)
  let placed := layoutList (s.listBase l) (s.isPleat l) (s.listRoom l) es
  { s with matcher := { s.matcher with entries := placed.foldl (fun (m : SMap MatchEntry) e => SMap.put m e.1 e.2) m } }

/-- A later change is applied by rank from its two journal records (R340, Table 8.2). -/
def State.replayEdit (s : State) (a b : JRec) : State :=
  match s.listOf? (b.argA / 65536 % 65536) with
  | none => s
  | some l =>
    let es := (s.listEntries l).map (·.2)
    let rank := b.argB % 131072
    let word (d x : Nat) : BitVec 160 := BitVec.ofNat 160 (d * 2 ^ 32 + x / 2 ^ 48 % 65536 * 65536 + x / 2 ^ 32 % 65536)
    let op := a.argA / 2 ^ 24 % 256
    let e : MatchEntry := { keyValue := word a.digest a.argA, keyMask := word b.digest b.argA, action := BitVec.ofNat 64 a.argB
                            listNum := l }
    if op = 1 then s.setList l (es.take rank ++ e :: es.drop rank)
    else if op = 2 then s.setList l (es.take rank ++ e :: es.drop (rank + 1))
    else s.setList l (es.take rank ++ es.drop (rank + 1))

/-- The changes later than the image, in CSN order. -/
def State.replayEdits (s : State) : List JRec → State
  | a :: b :: rs =>
    if a.type = 0x0A ∧ b.type = 0x0B ∧ (b.argB / 2 ^ 32 + 2 ^ 32 - s.matcher.imageGen) % 2 ^ 32 - 1 < 2 ^ 31 - 1
        ∧ b.argB / 2 ^ 32 ≠ s.matcher.imageGen then
      State.replayEdits (s.replayEdit a b) rs
    else State.replayEdits s (b :: rs)
  | _ => s

/-- The matcher is restored at a start: after a Hem from all its changes, else from the image and the durable journal (R340,
R341). -/
def State.restoreMatcher (s : State) (hem : Bool) : State :=
  let s1 := if hem then s
    else { s with matcher := { s.matcher with entries := s.matcher.image } }.replayEdits s.pocket.durable
  s1.restoreEntries.layoutAll

end Sys2Proof.Machine
end

