-- ==== Sys2Proof/Machine/Ports.lean ====
section
/-! DEFINITION. The Ethernet ports: receive checks (R420, R421), links (R412, R413, R426), flow control (R427 to R432),
transmission and its time stamps (R423, R433 to R440), address resolution and echo (R416, R422), takeover (R445 to R448)
and the PTP messages of the ports (R371). -/

namespace Sys2Proof.Machine

/-- The size counter of a frame, from a base: 64, 65–127, 128–255, 256–511, 512–1,023, 1,024–1,518, more (Table 11.7). -/
def sizeSub (base len : Nat) : Nat :=
  base + (if len ≤ 64 then 0 else if len ≤ 127 then 1 else if len ≤ 255 then 2 else if len ≤ 511 then 3
    else if len ≤ 1023 then 4 else if len ≤ 1518 then 5 else 6)

/-- The class of a frame's destination: 0 unicast, 1 multicast, 2 broadcast. -/
def destCast (f : Frame) : Nat :=
  if f.control.isSome then 1
  else match f.dest with
    | .own | .partner | .otherUnicast => 0
    | .broadcast => 2
    | .ptpMulticast | .solicitedNode | .otherMulticast => 1

/-- A frame that passes checks 1 and 2 is counted (R420). -/
def State.countRx (s : State) (p : Nat) (f : Frame) : State :=
  let n := (s.port p).rxRem + f.len
  let s1 := (s.setPort p { s.port p with rxRem := n % 1024 }).portCount p 1
  let s2 := if n / 1024 = 0 then s1 else s1.portCount p 2 (n / 1024)
  let s3 := s2.portCount p (3 + destCast f)
  (if f.tagged then s3.portCount p 6 else s3).portCount p (sizeSub 11 f.len)

/-- The port of a takeover pair that covers, or is covered by, another (Table 11.1). -/
def pairOf (p : Nat) : Nat := if p = 0 then 1 else if p = 1 then 0 else if p = 2 then 3 else if p = 3 then 2 else p

/-- Check 4: the destination is accepted. (DEDUCED, log 24) -/
def State.destAccepted (s : State) (p : Nat) (f : Frame) : Bool :=
  match f.dest with
  | .own => true
  | .partner => (s.port p).takeover == 1
  | .broadcast => f.carried == .arp
  | .ptpMulticast => p != 6
  | .solicitedNode => true
  | .otherMulticast | .otherUnicast => false

/-- The frame carries a PTP message. -/
def frameIsPtp (f : Frame) : Bool := f.carried == .ptpEvent || f.carried == .ptpGeneral

/-- Check 5: the frame's VLAN is accepted; PTP only untagged (R417). (DEDUCED, log 24) -/
def State.vlanAccepted (s : State) (p : Nat) (f : Frame) : Bool :=
  let v := if f.tagged then f.vlan.toNat else 0
  !((frameIsPtp f) && f.tagged) && [1, 2, 3, 4, 5, 6, 7, 8].any (fun k => s.odGet 0 (portIndex p 6) k == v)

/-- The frame carries IP. -/
def frameIsIp (f : Frame) : Bool :=
  match f.carried with
  | .wkp _ _ | .neighbour | .echo | .otherIp => true
  | .ptpEvent | .ptpGeneral | .arp | .otherEtherType => false

/-- The port whose addresses the frame's IP destination is one of. -/
def frameIpPort (f : Frame) (p : Nat) : Nat := if f.ipPartner then pairOf p else p

/-- Check 7: the IP destination is one of the port's addresses, or of the port that it covers; a port with IPv4 address 0
has none (R416, R446). -/
def State.ipAccepted (s : State) (p : Nat) (f : Frame) : Bool :=
  f.ipDestOk && (!f.ipPartner || (s.port p).takeover == 1)
    && (f.ipv6 || f.carried == .neighbour || s.odGet 0 (portIndex (frameIpPort f p) 4) 0 != 0)

/-- The receive queue of a frame (Table 11.4); PS has one (R449). -/
def frameQueue (f : Frame) (p : Nat) : Nat :=
  if p = 6 then 0
  else match f.carried with
    | .ptpEvent => 7
    | .ptpGeneral | .arp | .neighbour => 6
    | .wkp _ prio => if f.tagged then min f.pcp.val prio.val else prio.val
    | .echo | .otherIp | .otherEtherType => 0

/-- Bytes in a receive queue. -/
def rxBytes (p : Port) (q : Nat) : Nat := ((p.rxq.filter (fun e => e.1 == q)).map (·.2.1)).sum

/-- The size of a receive queue (R421, R449). (DEDUCED, log 24) -/
def rxRoom (p : Nat) : Nat := if p = 6 then 2097152 else 524288

/-- The UDP destination is served on the port (check 11; R32, R33). -/
def udpOf (p : Nat) (udp : BitVec 16) : Bool := if p = 6 then udp == 7313 else udp == 7311 || udp == 7312

/-- The discard counter of the first of checks 1 and 2 that a frame fails (Table 11.3). -/
def State.earlyDiscard? (s : State) (p : Nat) (f : Frame) : Option Nat :=
  if f.phyError then some 22
  else if !f.fcsOk then some (if f.len < 64 then 20 else 18)
  else if f.len < 64 then some 19
  else if s.val (portIndex p 7) + 22 < f.len then some 21
  else none

/-- The discard counter of the first of checks 4 to 12 that a frame fails (Table 11.3). PS takes no part in PTP (R449).
(DEDUCED, log 24) -/
def State.lateDiscard? (s : State) (p : Nat) (f : Frame) : Option Nat :=
  if !s.destAccepted p f || !s.vlanAccepted p f then some 23
  else if f.carried = .otherEtherType ∨ (p = 6 ∧ (frameIsPtp f)) then some 24
  else if (frameIsIp f) && !s.ipAccepted p f then some 23
  else if (frameIsIp f) && f.ipExtras then some 24
  else if (frameIsIp f) && !f.ipv6 && !f.ipCsumOk then some 25
  else if f.carried = .otherIp then some 24
  else match f.carried with
    | .wkp udp _ =>
      if !f.udpCsumOk then some 26
      else if !udpOf p udp then some 27
      else if rxRoom p < rxBytes (s.port p) (frameQueue f p) + f.len then some 28
      else none
    | _ => if rxRoom p < rxBytes (s.port p) (frameQueue f p) + f.len then some 28 else none

/-- The port's receiver works: its link is up and the engine has not stopped it. -/
def State.receives (s : State) (p : Nat) : Bool := s.live && (s.port p).linkUp

/-- PTP is enabled on the port (Table 11.10). -/
def State.ptpOn (s : State) (p : Nat) : Bool := decide (p < 6) && s.odGet 0 (portIndex p 0xA) 1 == 1

/-- FRAME_RECEIVE: checks 1 to 12 of Table 11.3 (R420); a frame that passes enters its receive queue (R421). A MAC
control frame goes no further than check 3; what it does is PAUSE_RECEIVED or PFC_RECEIVED. (DEDUCED, log 23) -/
def execFrameReceive (port : Fin 7) (f : Frame) (s : State) : Out :=
  let p := port.val
  if s.receives p then
    match s.earlyDiscard? p f with
    | some k => .next (s.portCount p k)
    | none =>
      let s1 := s.countRx p f
      if f.control.isSome then .next s1
      else match s1.lateDiscard? p f with
        | some k => .next (s1.portCount p k)
        | none =>
          let s2 := s1.setPort p { s1.port p with
            rxq := (s1.port p).rxq ++ [(frameQueue f p, f.len, if f.tagged then f.pcp.val else 0)] }
          .next (if (frameIsPtp f) && s2.ptpOn p then s2.portCount p 9 else s2)
  else .next s

/-- The bit of a link speed in PORT_PHY_CONFIG; speeds are numbered as PORT_LINK (Table 11.11). -/
def speedBit (speed : Nat) : Nat := 6 + speed

/-- A link speed in Mbit/s. -/
def speedMbit (speed : Nat) : Nat := [0, 1000, 2500, 5000, 10000, 25000].getD speed 0

/-- PORT_PHY_CONFIG of a port. -/
def State.phyConfig (s : State) (p : Nat) : Nat := s.val (portIndex p 1)

/-- The speeds at which a port may come up: those advertised, or, with AUTONEG clear, the highest set (R412). -/
def State.speedAllowed (s : State) (p speed : Nat) : Bool :=
  0 < speed && bitOf (speedBit speed) (s.phyConfig p) &&
    (if bitOf 4 (s.phyConfig p) then !(s.port p).removed.contains speed
     else [1, 2, 3, 4, 5].all (fun k => k ≤ speed || !bitOf (speedBit k) (s.phyConfig p)))

/-- The port may have a link: enabled, powered, awake, not held down (Table 11.10; R299, R414). -/
def State.mayLink (s : State) (p : Nat) : Bool :=
  (s.live || s.power.phase == .thermalStop) && (s.port p).powered && !(s.port p).asleep && !(s.port p).heldDown
    && s.val (portIndex p 0) == 1

/-- LINK_UP (R412, R426). -/
def execLinkUp (port : Fin 7) (speed : Fin 6) (s : State) : Out :=
  let p := port.val
  if s.mayLink p ∧ (s.port p).linkUp = false ∧ s.speedAllowed p speed.val then
    .next (((s.setPort p { s.port p with linkUp := true, speed := speed.val }).startPort p).raise Ev.MAC_LINK_UP [p, speed.val])
  else .next s

/-- LINK_DOWN (R426). -/
def execLinkDown (port : Fin 7) (s : State) : Out := .next (s.linkLost port.val)

/-- MAC_SPEED_FALLBACK: a speed leaves the advertisement and the port negotiates again (R413). -/
def execMacSpeedFallback (port : Fin 7) (speed : Fin 6) (s : State) : Out :=
  let p := port.val
  if s.mayLink p ∧ bitOf 4 (s.phyConfig p) ∧ s.speedAllowed p speed.val then
    let s1 := s.linkLost p
    let s2 := s1.setPort p { s1.port p with removed := speed.val :: (s1.port p).removed }
    .next ((s2.portCount p 50).raise Ev.MAC_SPEED_FALLBACK [p, speedMbit speed.val])
  else .next s

/-- SPEED_REMOVAL_EXPIRY: after 10 minutes the speed is advertised again (R413). -/
def execSpeedRemovalExpiry (port : Fin 7) (speed : Fin 6) (s : State) : Out :=
  .next (s.setPort port.val { s.port port.val with removed := (s.port port.val).removed.filter (· != speed.val) })

/-- MODE of PORT_FLOW: 0 none, 1 802.3 pause, 2 PFC (Table 11.12). -/
def State.flowMode (s : State) (p : Nat) : Nat := bitsOf 31 30 (s.val (portIndex p 8))

/-- A priority is set in PFC_ENABLE. -/
def State.pfcEnabled (s : State) (p prio : Nat) : Bool := bitOf (16 + prio) (s.val (portIndex p 8))

/-- The transmit queues of a port. (DEDUCED, log 23) -/
def queuesOf (p : Nat) : List Nat := if p = 6 then [0] else [0, 1, 2, 3, 4, 5, 6, 7]

/-- A queue's timer is loaded, or stopped by 0 (R428, R429). -/
def loadTimer (quanta : Nat) (held : SMap Nat) (q : Nat) : SMap Nat :=
  if quanta = 0 then SMap.erase held q else SMap.put held q quanta

/-- PAUSE_RECEIVED: counted, and obeyed under 802.3 pause unless the watchdog ignores it (R427 to R429, R432).
(DEDUCED, log 23) -/
def execPauseReceived (port : Fin 7) (quanta : BitVec 16) (s : State) : Out :=
  let p := port.val
  if s.receives p then
    let s1 := s.portCount p 7
    if s1.flowMode p = 1 ∧ (s1.port p).ignoring = [] then
      .next ((s1.setPort p { s1.port p with held := (queuesOf p).foldl (loadTimer quanta.toNat) (s1.port p).held }).startPort p)
    else .next s1
  else .next s

/-- PFC_RECEIVED: counted, and obeyed under PFC for the priorities enabled and not ignored (R427, R430, R432).
(DEDUCED, log 23) -/
def execPfcReceived (port : Fin 7) (vector : BitVec 8) (times : List (BitVec 16)) (s : State) : Out :=
  let p := port.val
  if s.receives p then
    let s1 := s.portCount p 8
    if s1.flowMode p = 2 then
      let qs := (queuesOf p).filter (fun q => vector.getLsbD q && s1.pfcEnabled p q && !(s1.port p).ignoring.contains q)
      let held := qs.foldl (fun h q => loadTimer (times.getD q 0).toNat h q) (s1.port p).held
      .next ((s1.setPort p { s1.port p with held := held }).startPort p)
    else .next s1
  else .next s

/-- The queues that a timer of one queue holds: all under 802.3 pause, its own under PFC. -/
def State.timerQueues (s : State) (p q : Nat) : List Nat := if s.flowMode p = 2 then [q] else queuesOf p

/-- Queues are released and the port serves its queues again. -/
def State.release (s : State) (p : Nat) (qs : List Nat) : State :=
  (s.setPort p { s.port p with held := qs.foldl SMap.erase (s.port p).held }).startPort p

/-- PAUSE_TIMER_EXPIRY (R428, R430). -/
def execPauseTimerExpiry (port : Fin 7) (queue : Fin 8) (s : State) : Out :=
  .next (s.release port.val (s.timerQueues port.val queue.val))

/-- MAC_PAUSE_WDOG: a queue held for PAUSE_WDOG is released, and pause is ignored for a while (R15, R432). -/
def execMacPauseWdog (port : Fin 7) (queue : Fin 8) (s : State) : Out :=
  let p := port.val
  if s.val (portIndex p 9) ≠ 0 ∧ (SMap.get? (s.port p).held queue.val).isSome then
    let qs := s.timerQueues p queue.val
    let s1 := s.setPort p { s.port p with ignoring := qs ++ (s.port p).ignoring.filter (fun q => !qs.contains q) }
    .next (((s1.release p qs).portCount p 48).raise Ev.MAC_PAUSE_WDOG [p, if s.flowMode p = 2 then queue.val else 0xFF])
  else .next s

/-- PAUSE_WDOG_IGNORE_END: received pause is obeyed again (R432). -/
def execPauseWdogIgnoreEnd (port : Fin 7) (s : State) : Out :=
  .next (s.setPort port.val { s.port port.val with ignoring := [] })

/-- Bytes of the receive buffer in use: the whole, or of one PCP in PFC mode (R431). -/
def State.rxFill (s : State) (p prio : Nat) : Nat :=
  (((s.port p).rxq.filter (fun e => s.flowMode p != 2 || e.2.2 == prio)).map (·.2.1)).sum

/-- The limit against which the fill is counted (R431). -/
def State.rxLimit (s : State) (p : Nat) : Nat := if s.flowMode p = 2 then 524288 else if p = 6 then 2097152 else 4194304

/-- The fill is above a percentage of the limit. -/
def State.fillAbove (s : State) (p prio percent : Nat) : Bool := decide (percent * s.rxLimit p < 100 * s.rxFill p prio)

/-- The fill is below a percentage of the limit. -/
def State.fillBelow (s : State) (p prio percent : Nat) : Bool := decide (100 * s.rxFill p prio < percent * s.rxLimit p)

/-- XOFF and XON of PORT_FLOW. -/
def State.xoffOf (s : State) (p : Nat) : Nat := bitsOf 15 8 (s.val (portIndex p 8))

/-- XON of PORT_FLOW. -/
def State.xonOf (s : State) (p : Nat) : Nat := bitsOf 7 0 (s.val (portIndex p 8))

/-- Under 802.3 pause the whole port counts as one; under PFC only enabled priorities send (R431). -/
def State.sendsPause (s : State) (p prio : Nat) : Bool :=
  s.flowMode p == 1 || (s.flowMode p == 2 && s.pfcEnabled p prio)

/-- The mark of a priority for which XOFF was sent. -/
def State.pauseMark (s : State) (p prio : Nat) : Nat := if s.flowMode p = 1 then 0 else prio

/-- A PAUSE or PFC frame of the module, ahead of every queue (R428, R431). (DEDUCED, log 23) -/
def State.sendPause (s : State) (p prio quanta : Nat) : State :=
  let m : Msg := if s.flowMode p = 1 then .pauseFrame quanta else .pfcFrame prio quanta
  (s.setPort p { s.port p with control := (s.port p).control ++ [{ bytes := 64, msg := m, cast := 1 }] }).startPort p

/-- RX_BUFFER_XOFF: the fill rises above XOFF (R431). -/
def execRxBufferXoff (port : Fin 7) (prio : Fin 8) (s : State) : Out :=
  let p := port.val
  let k := s.pauseMark p prio.val
  if s.receives p ∧ s.sendsPause p prio.val ∧ s.fillAbove p prio.val (s.xoffOf p) ∧ (s.port p).xoff.contains k = false then
    .next ((s.setPort p { s.port p with xoff := k :: (s.port p).xoff }).sendPause p prio.val 0xFFFF)
  else .next s

/-- RX_BUFFER_XON: the fill falls below XON after an XOFF (R431). -/
def execRxBufferXon (port : Fin 7) (prio : Fin 8) (s : State) : Out :=
  let p := port.val
  let k := s.pauseMark p prio.val
  if s.receives p ∧ s.sendsPause p prio.val ∧ s.fillBelow p prio.val (s.xonOf p) ∧ (s.port p).xoff.contains k then
    .next ((s.setPort p { s.port p with xoff := (s.port p).xoff.filter (· != k) }).sendPause p prio.val 0)
  else .next s

/-- PAUSE_REPEAT: while the fill stays above XON (R431). -/
def execPauseRepeat (port : Fin 7) (prio : Fin 8) (s : State) : Out :=
  let p := port.val
  if s.receives p ∧ s.sendsPause p prio.val ∧ s.fillAbove p prio.val (s.xonOf p)
      ∧ (s.port p).xoff.contains (s.pauseMark p prio.val) then
    .next (s.sendPause p prio.val 0xFFFF)
  else .next s

/-- A frame sent complete is counted (Table 11.7). -/
def State.countTx (s : State) (p : Nat) (f : TxFrame) : State :=
  let n := (s.port p).txRem + f.bytes
  let s1 := (s.setPort p { s.port p with txRem := n % 1024 }).portCount p 31
  let s2 := if n / 1024 = 0 then s1 else s1.portCount p 32 (n / 1024)
  let s3 := s2.portCount p (33 + f.cast)
  let s4 := match f.msg with
    | .pauseFrame _ => s3.portCount p 36
    | .pfcFrame _ _ => s3.portCount p 37
    | .ptpEvent _ _ _ _ | .ptpGeneral _ _ _ _ => s3.portCount p 38
    | _ => s3
  s4.portCount p (sizeSub 39 f.bytes)

/-- The link of a frame that the port sends of itself: untagged, from its own MAC address. (DESIGN CHOICE, log 25) -/
def ownLink (p : Nat) : LinkHead := { mac := p, link := 0, vlan := 0, pcp := none }

/-- The link of a reply to a request that belongs to no session (R418), from the MAC address of a port. -/
def askerLink (mac : Nat) (a : Asker) : LinkHead :=
  { mac := mac, link := a.link, vlan := a.vlan.toNat, pcp := a.pcp.map (·.val) }

/-- A PTP general message with the time that it passes on (R371, R439; Table 11.5; sizes of IEEE 802.1AS). (PRESUMED, log 22) -/
def State.sendPtpGeneral (s : State) (p kind seqId dt te : Nat) : State :=
  s.txPut p 6 { bytes := 94, msg := .ptpGeneral kind seqId dt te, onLink := some (ownLink p), cast := 1 }

/-- A PTP event message, to be stamped: 0 Sync, 1 Pdelay_Req, 2 Pdelay_Resp, which carries the time at which its request was
received (R371, R437). (PRESUMED, log 22) -/
def State.sendPtpEvent (s : State) (p kind seqId dt te : Nat) : State :=
  s.txPut p 7 { bytes := if kind = 0 then 64 else 72, msg := .ptpEvent kind seqId dt te, onLink := some (ownLink p)
                stampKind := some (0, seqId % 65536, kind), cast := 1 }

/-- A transmit stamp is dropped: all 64 entries are occupied (R440). -/
def State.dropStamp (s : State) (p : Nat) : State :=
  let n := (s.port p).tsqLost
  let s1 := (s.setPort p { s.port p with tsqLost := n + 1 }).portCount p 51
  if n = 0 then s1.raise Ev.MAC_TSQ_OVF [p, s1.portStat p 51] else s1

/-- A transmit stamp is taken: a WKP entry waits in the queue; a PTP entry is taken by the stack as it arrives, for the
follow-up that passes the stamp on: Follow_Up of a Sync, Pdelay_Resp_Follow_Up of a Pdelay_Resp (R371, R437 to R440). -/
def State.takeStamp (s : State) (p : Nat) (dt te : Nat) (k : BitVec 32 × Nat × Nat) : State :=
  let po := s.port p
  if 64 ≤ po.tsq.length then s.dropStamp p
  else
    let e : TsqEntry := { dt := dt, te := te, seqTag := k.2.1, session := k.1, kind := k.2.2
                          lossBefore := decide (0 < po.tsqLost), lossCount := min po.tsqLost 65535 }
    if k.2.2 = 3 then s.setPort p { po with tsq := po.tsq ++ [e], tsqLost := 0 }
    else
      let s1 := s.setPort p { po with tsqLost := 0 }
      if k.2.2 = 0 then s1.sendPtpGeneral p 8 k.2.1 dt te else if k.2.2 = 2 then s1.sendPtpGeneral p 10 k.2.1 dt te else s1

/-- FRAME_TRANSMIT_DONE: a frame has left; the next starts from the highest queue not held (R423). -/
def execFrameTransmitDone (port : Fin 7) (s : State) : Out :=
  let p := port.val
  match (s.port p).inFlight with
  | none => .next s
  | some f =>
    let now := (s.port p).started
    let s1 := ((s.setPort p { s.port p with inFlight := none }).emit (.frame p f)).countTx p f
    let s2 := match f.stampKind with
      | some k => s1.takeStamp p now.1 now.2 k
      | none => s1
    .next (s2.startPort p)

/-- TSQ_AGE_EXPIRY: the oldest unread WKP entry is removed without being counted (R439). -/
def execTsqAgeExpiry (port : Fin 7) (s : State) : Out :=
  .next (s.setPort port.val { s.port port.val with tsq := (s.port port.val).tsq.drop 1 })

/-- A port's MAC address: seven consecutive ones from MAC_BASE (R415). -/
def portMac (h : Hardware) (p : Nat) : Bytes := toBE 6 (beNat h.macBase + p)

/-- A port's link-local address: the modified EUI-64 of its MAC address. -/
def linkLocal (h : Hardware) (p : Nat) : Bytes :=
  match portMac h p with
  | a :: b :: c :: rest => [0xFE, 0x80, 0, 0, 0, 0, 0, 0] ++ [a ^^^ 0x02, b, c, 0xFF, 0xFE] ++ rest
  | short => short

/-- An address of a port as it stands in a frame. -/
def asAddress (b : Bytes) : BitVec 128 := BitVec.ofNat 128 (beNat b)

/-- ARP_REQUEST: an address resolution or neighbour solicitation is answered, for the covered port's addresses with its MAC address
(R416, R418, R446). (PRESUMED, log 22) -/
def execArpRequest (port : Fin 7) (asker : Asker) (ipv6 : Bool) (s : State) : Out :=
  let p := port.val
  let forPartner := asker.forPartner
  if s.receives p then
    let s1 := s.takeFrom p 6
    let a := if forPartner then pairOf p else p
    if (forPartner && (s.port p).takeover != 1) || (!ipv6 && s.val (portIndex a 4) == 0) then .next s1
    else .next (s1.txPut p 6
      { bytes := if ipv6 then 90 else 64, msg := if ipv6 then .neighbourAdvert forPartner else .arpReply forPartner
        onLink := some (askerLink a asker)
        about := some (if ipv6 then asker.dst else BitVec.ofNat 128 (s.val (portIndex a 4))) })
  else .next s

/-- Bytes of a frame that are not its ICMP message: Ethernet header, tag, IP header, FCS. -/
def echoFraming (ipv6 : Bool) (l : LinkHead) : Nat := (if ipv6 then 58 else 38) + (if linkTagged l then 4 else 0)

/-- ICMP_ECHO: at most 100 are answered in a second on each port (R422), to the link and address that asked (R418, Table 3.1); for the
covered port's addresses with its MAC address (R446). -/
def execIcmpEcho (port : Fin 7) (ipv6 : Bool) (echo : Echo) (s : State) : Out :=
  let p := port.val
  let a := if echo.asker.forPartner then pairOf p else p
  if s.receives p then
    let s1 := s.takeFrom p 0
    if (echo.asker.forPartner && (s.port p).takeover != 1) || (!ipv6 && s.val (portIndex a 4) == 0) then .next s1
    else if (s1.port p).echoCount < 100 then
      let l := askerLink a echo.asker
      .next ((s1.setPort p { s1.port p with echoCount := (s1.port p).echoCount + 1 }).txPut p 0
        { bytes := echo.bytes, msg := .echoReply, onLink := some l
          ip := some (ipHead ipv6 echo.asker.dst echo.asker.src (if ipv6 then 58 else 1) (echo.bytes - echoFraming ipv6 l) 0 0 0) })
    else .next (s1.portCount p 52)
  else .next s

/-- One gratuitous ARP or unsolicited neighbour advertisement for each address of a port, from its MAC address (R446).
(PRESUMED, log 22) -/
def State.announce (s : State) (p addressesOf : Nat) (forPartner : Bool) : State :=
  let s1 := if s.val (portIndex addressesOf 4) = 0 then s
    else s.txPut p 6 { bytes := 64, msg := .gratuitous forPartner, onLink := some (ownLink addressesOf), cast := 2
                       about := some (BitVec.ofNat 128 (s.val (portIndex addressesOf 4))) }
  let static := ([2, 3].map (fun k => s.blob 0 (portIndex addressesOf 5) k)).filter (fun b => !b.all (fun x => x == 0))
  (linkLocal s.hw addressesOf :: static).foldl (fun t b => t.txPut p 6
    { bytes := 90, msg := .neighbourAdvert forPartner, onLink := some (ownLink addressesOf), cast := 1
      about := some (asAddress b) }) s1

/-- The frames of the sessions of one port leave from another from now on (R446, R448). -/
def State.moveSessions (s : State) (source target : Nat) : State :=
  { s with wkp := { s.wkp with
      sessions := s.wkp.sessions.map (fun e => (e.1, if e.2.port = source then { e.2 with physical := target } else e.2)) } }

/-- The pair bit of TAKEOVER_ENABLE, by its covering port. -/
def State.takeoverEnabled (s : State) (p : Nat) : Bool := (p == 1 && bitOf 0 (s.val 0x2200)) || (p == 3 && bitOf 1 (s.val 0x2200))

/-- TAKEOVER_DELAY_EXPIRY at the covering port: its partner has been link-down for TAKEOVER_DELAY (R445, R446). -/
def execTakeoverDelayExpiry (port : Fin 7) (s : State) : Out :=
  let p := port.val
  let c := pairOf p
  if s.receives p ∧ s.takeoverEnabled p ∧ (s.port c).linkUp = false ∧ (s.port p).takeover = 0 then
    let s1 := (s.setPort p { s.port p with takeover := 1, announceDue := true }).setPort c { s.port c with takeover := 2 }
    .next (((s1.moveSessions c p).announce p c true).raise Ev.MAC_TAKEOVER [p, c])
  else .next s

/-- TAKEOVER_ANNOUNCE_REPEAT: the announcement again, 1 s later (R446, R448). (DEDUCED, log 25) -/
def execTakeoverAnnounceRepeat (port : Fin 7) (s : State) : Out :=
  let p := port.val
  if s.receives p ∧ (s.port p).announceDue then
    let s1 := s.setPort p { s.port p with announceDue := false }
    let covers := (s.port p).takeover == 1
    .next (s1.announce p (if covers then pairOf p else p) covers)
  else .next s

/-- TAKEBACK_DELAY_EXPIRY at the covered port: its link has been up for TAKEBACK_DELAY (R448). (DEDUCED, log 25) -/
def execTakebackDelayExpiry (port : Fin 7) (s : State) : Out :=
  let c := port.val
  let p := pairOf c
  if s.receives c ∧ (s.port c).takeover = 2 then
    let s1 := (s.setPort p { s.port p with takeover := 0, announceDue := false }).setPort c
      { s.port c with takeover := 0, announceDue := true }
    .next (((s1.moveSessions c c).announce c c false).raise Ev.MAC_TAKEBACK [p, c])
  else .next s

/-- PTP_PDELAY: a request is answered with a stamped response; the follow-up of our own request gives the peer delay
(R371, Table 9.4). (DEDUCED, log 25) -/
def execPtpPdelay (port : Fin 6) (m : PdelayMsg) (s : State) : Out :=
  let p := port.val
  if s.receives p ∧ s.ptpOn p then
    match m with
    | .request seqId => .next ((s.takeFrom p 7).sendPtpEvent p 2 seqId.toNat s.clock.dt s.clock.te)
    | .response _ => .next (s.takeFrom p 7)
    | .followUp d =>
      let s1 := s.takeFrom p 6
      .next (s1.setPort p { s1.port p with peerDelay := d, asCapable := true })
  else .next s

/-- PDELAY_INTERVAL_EXPIRY: the next Pdelay_Req (R371, Table 11.10 sub 5). -/
def execPdelayIntervalExpiry (port : Fin 6) (s : State) : Out :=
  let p := port.val
  if s.receives p ∧ s.ptpOn p then
    .next ((s.setPort p { s.port p with ptpSeq := ((s.port p).ptpSeq + 1) % 65536 }).sendPtpEvent p 1 ((s.port p).ptpSeq + 1) 0 0)
  else .next s

/-- PTP_ANNOUNCE: the best-master algorithm of 802.1AS sets the port's role (R371). -/
def execPtpAnnounce (port : Fin 6) (role : PtpRole) (s : State) : Out :=
  let p := port.val
  if s.receives p ∧ s.ptpOn p then
    let s1 := s.takeFrom p 6
    .next (s1.setPort p { s1.port p with ptpRole := role })
  else .next s

/-- SYNC_INTERVAL_EXPIRY: a port in the master role sends Sync, and its Follow_Up once it is stamped; with every eighth Sync, once a
second at the intervals of 802.1AS, an Announce as well (R371, R439). (DEDUCED, log 25) -/
def execSyncIntervalExpiry (port : Fin 6) (s : State) : Out :=
  let p := port.val
  let n := (s.port p).ptpSeq + 1
  if s.receives p ∧ s.ptpOn p ∧ (s.port p).ptpRole = .master then
    let s1 := (s.setPort p { s.port p with ptpSeq := n % 65536 }).sendPtpEvent p 0 n 0 0
    .next (if n % 8 = 0 then s1.sendPtpGeneral p 11 n 0 0 else s1)
  else .next s

end Sys2Proof.Machine
end

