-- ==== Sys2Proof/Machine/Supply.lean ====
section
/-! DEFINITION. Meanings of the supply, the supercapacitor bank, the Hem, the thermal limits and the discrete lines (R309,
R509 to R530), and of the entry into DROWSE (R227, R441, R547, R550). -/

namespace Sys2Proof.Machine

/-- The charger's draw in tenths of a watt (R521). -/
def State.chargeDraw (s : State) : Nat :=
  let p := s.power
  if !p.inputValid || s.val Od.HOLDUP_ENERGY ≤ p.bankMj then 0 else if p.bankMj < 20000 then 150 else 50

/-- The cap that the supply sets, in tenths of a watt: the bank carries a ride-through (R510). (PRESUMED, log 30) -/
def State.supplyCap (s : State) : Nat :=
  if s.power.inputValid then min 720 (s.power.inputMv * 8 / 100) - s.chargeDraw else 720

/-- The baseplate temperature last sampled, in tenths of a degree. -/
def State.baseplate (s : State) : Int := signed 16 (s.val Od.BASEPLATE_TEMP)

/-- The cap that the temperature sets, in tenths of a watt (R528). -/
def State.thermalCap (s : State) : Nat :=
  if 850 < s.baseplate then max 320 (720 - 4 * (s.baseplate - 850).toNat) else 720

/-- POWER_CAP: the lower of the two. (PRESUMED, log 30) -/
def State.powerCap (s : State) : Nat := min s.supplyCap s.thermalCap

/-- SUPPLY_STATE is one of normal, capped and ride-through (Table 14.4). -/
def State.supplyRuns (s : State) : Bool :=
  s.power.phase == .boot || s.power.phase == .running || s.power.phase == .drowse1 || s.power.phase == .drowse2
    || s.power.phase == .fatalStop

/-- POWER_CAP and SUPPLY_STATE follow the supply, the charger and the temperature; `before` tells whether capping begins
(R510). -/
def State.recap (s before : State) : State :=
  let cap := s.powerCap
  let s1 := s.setVal Od.POWER_CAP cap
  let s2 := if s.supplyRuns then s1.setVal Od.SUPPLY_STATE (if s.power.rideThrough then 2 else if cap < 720 then 1 else 0) else s1
  if s.supplyRuns ∧ s.supplyCap < 720 ∧ 720 ≤ before.supplyCap then s2.raise Ev.SUPPLY_CAP_ON [cap] else s2

/-- The module loses its supply: nothing runs, the timekeeper stops, and CK is gone (R402, R551). -/
def State.powerOff (s : State) : State :=
  let s1 := s.stopPorts
  { s1 with
    clock := { s1.clock with running := false, timekeeper := none }
    cipher := { s1.cipher with contextKey := 0 }
    power := { s1.power with phase := .unpowered, rideThrough := false, inputValid := false, wakeOut := false, thermal := false
                             engine := .run, startNext := none } }

/-- The input is lost: each loss is counted and raises SUPPLY_DROPOUT (R523). (DEDUCED, log 30) -/
def State.dropped (s : State) (mv : Nat) : State :=
  ({ s with power := { s.power with inputValid := false, inputMv := mv } }.bump Od.CNT_DROPOUTS).raise Ev.SUPPLY_DROPOUT [mv]

/-- What a loss of input leads to while the engine serves: ride-through, or the Hem at once when the bank is below its reserve
(R523, R524); before intake first opens no Hem runs (R542). (PRESUMED, log 30) -/
def State.rideOrHem (s : State) : State :=
  if s.val Od.HEM_RESERVE ≤ s.power.bankMj then
    { s with power := { s.power with rideThrough := true } }.setVal Od.SUPPLY_STATE 2
  else if s.power.firstOpen then s.beginHem
  else s.powerOff

/-- The input is lost, in each power state (R509, R523, R542, R548, R551, R571). -/
def State.loseInput (s : State) (mv : Nat) : State :=
  if s.power.inputValid = false then s
  else match s.power.phase with
    | .running => (s.dropped mv).rideOrHem
    | .drowse1 => (s.dropped mv).rideOrHem
    | .boot => (s.dropped mv).rideOrHem
    | .drowse2 => (s.dropped mv).beginHem
    | .fatalStop =>
      (s.dropped mv).abandonDump.resetForHem.beginHem
    | .hem => { s.dropped mv with power := { (s.dropped mv).power with startNext := none } }
    | .drowse => (s.dropped mv).powerOff
    | .thermalStop => (s.dropped mv).powerOff
    | .unpowered => s

/-- INPUT_LOST (R523). -/
def execInputLost (inputMv : BitVec 32) (s : State) : Out := .next (s.loseInput inputMv.toNat)

/-- A ride-through ends with the Hem; before intake first opens the module only loses its supply (R523, R542). -/
def State.endRideThrough (s : State) : State :=
  if s.power.rideThrough then (if s.power.firstOpen then s.beginHem else s.powerOff) else s

/-- RIDE_THROUGH_EXPIRY (R523). -/
def execRideThroughExpiry (s : State) : Out := .next s.endRideThrough

/-- BANK_AT_RESERVE (R523). -/
def execBankAtReserve (s : State) : Out :=
  if s.power.rideThrough then
    .next ({ s with power := { s.power with bankMj := s.val Od.HEM_RESERVE } }.endRideThrough)
  else .next s

/-- Row lines in flight complete; erases in flight are abandoned (Table 14.3, R271). -/
def State.finishPrograms (s : State) : State :=
  (s.flash.stripes.filter (fun e => e.2.inFlight)).foldl (fun t e => (t.lineDone e.1).closeIfFilled e.1) s

/-- The hem image and its commit record are durable in the active band (R283, R385, R525). (DESIGN CHOICE, log 19) -/
def State.commitBand (s : State) : State :=
  let s1 := (s.useKey 0).takeNonces 3 (max 1 (ceilDiv s.pocketUsed 65536))
  let b : HemBand := { erased := false, commit := some s1.seq.csnLast }
  let s2 : State := { s1 with flash := if s1.flash.bandB then { s1.flash with hemB := b } else { s1.flash with hemA := b } }
  { s2 with power := { s2.power with tempSaved := s2.od.vals.filter (fun e => e.1 / 256 == Od.TEMP_HISTORY) } }

/-- The engine domains are off and the supervisor runs on: a thermal stop (R528, R551). -/
def State.enterThermalStop (s : State) : State :=
  { s with
    power := { s.power with phase := .thermalStop, thermal := false, coolSeconds := 0 }
    clock := { s.clock with running := false, timekeeper := some s.clock.dt } }.setVal Od.SUPPLY_STATE 4

/-- SUPPLY_CAP_CHANGE (R510, R512): within the range again, a surge is over. (PRESUMED, log 30) -/
def execSupplyCapChange (inputMv : BitVec 16) (s : State) : Out :=
  if s.power.inputValid then
    .next ({ s with power := { s.power with inputMv := inputMv.toNat
                                            overvoltage := s.power.overvoltage && decide (36000 < inputMv.toNat) } }.recap s)
  else .next s

/-- CHARGER_THRESHOLD (R521). -/
def execChargerThreshold (bankMj : BitVec 16) (s : State) : Out :=
  if s.power.phase = .unpowered ∨ s.power.phase = .drowse then .next s
  else .next ({ s with power := { s.power with bankMj := bankMj.toNat } }.recap s)

/-- SUPPLY_OVERVOLTAGE (R512). Beyond 58 V the module may be damaged (R619). (DESIGN CHOICE, log 8) -/
def execSupplyOvervoltage (peakMv durationMs : BitVec 32) (s : State) : Out :=
  if 58000 < peakMv.toNat then .fault .beyondAbsoluteMaximum
  else if s.power.inputValid = true ∧ 36000 < peakMv.toNat then
    let s1 : State := { s with power := { s.power with overvoltage := true, inputMv := peakMv.toNat } }
    .next ((s1.bump Od.CNT_OVERVOLTAGE).raise Ev.SUPPLY_OVERVOLTAGE [peakMv.toNat, durationMs.toNat])
  else .next s

/-- OVERVOLTAGE_TIMEOUT: the input is disconnected, a loss of input (R512). -/
def execOvervoltageTimeout (s : State) : Out :=
  if s.power.overvoltage then
    .next ({ s with power := { s.power with overvoltage := false } }.loseInput s.power.inputMv)
  else .next s

/-- SUPPLY_REVERSE: counted; when no other pin supplies the module the input is lost (R509, R513). Below −36 V the module may
be damaged (R619). (DESIGN CHOICE, log 8; PRESUMED, log 30) -/
def execSupplyReverse (pinB otherSupplies : Bool) (depthMv : BitVec 32) (s : State) : Out :=
  if 36000 < depthMv.toNat then .fault .beyondAbsoluteMaximum
  else if s.power.inputValid then
    let s1 := (s.bump Od.CNT_REVERSE).raise Ev.SUPPLY_REVERSE [if pinB then 1 else 0]
    .next (if otherSupplies then s1 else s1.loseInput 0)
  else .next s

/-- A baseplate sample in its bin of TEMP_HISTORY, and the extremes (R309). -/
def State.tempSample (s : State) (t : Int) : State :=
  let k := if t < -400 then 0 else min 15 ((t + 400) / 100).toNat
  let seen := (SMap.get? s.od.vals (odKey 0 Od.TEMP_MAX 0)).isSome
  let hi := if seen then max t (signed 16 (s.val Od.TEMP_MAX)) else t
  let lo := if seen then min t (signed 16 (s.val Od.TEMP_MIN)) else t
  (((s.bump Od.TEMP_HISTORY 1 (k + 1)).setVal Od.TEMP_MAX (unsigned 16 hi)).setVal Od.TEMP_MIN (unsigned 16 lo)).setVal
    Od.BASEPLATE_TEMP (unsigned 16 t)

/-- A thermal stop begins: the sequence of the Hem, or the stop at once while nothing has been acknowledged (R528, R542).
(PRESUMED, log 30) -/
def State.thermalStop (s : State) (baseplate engine : Int) : State :=
  let s1 := (s.bump Od.CNT_THERMAL_STOPS).raise Ev.THERMAL_STOP [unsigned 32 baseplate, unsigned 32 engine]
  if s1.power.firstOpen then { s1.beginHem with power := { s1.beginHem.power with thermal := true } }
  else (s1.stopPorts.setVal Od.INTAKE_STATE 3).enterThermalStop

/-- THERMAL_SAMPLE: the baseplate and both die junctions in 0.1 °C (R309, R528). -/
def execThermalSample (baseplate engine supervisor : Int) (s : State) : Out :=
  if s.canPowered = false then .next s
  else
    let s1 := ((s.tempSample baseplate).setVal Od.ENGINE_TEMP (unsigned 16 engine)).setVal Od.SUPERVISOR_TEMP
      (unsigned 16 supervisor)
    if s.power.phase = .thermalStop then
      .next { s1 with power := { s1.power with coolSeconds := if baseplate ≤ 800 then s1.power.coolSeconds + 1 else 0 } }
    else
      let s2 := s1.recap s
      let s3 := if 850 < baseplate ∧ s.baseplate ≤ 850 then s2.raise Ev.THERMAL_CAP_ON [unsigned 32 baseplate] else s2
      .next (if 1000 ≤ baseplate ∨ 1150 ≤ engine ∨ 1150 ≤ supervisor then s3.thermalStop baseplate engine else s3)

/-- TEMP_HISTORY_SAVE (R309). -/
def execTempHistorySave (s : State) : Out :=
  if s.canPowered then
    .next { s with power := { s.power with tempSaved := s.od.vals.filter (fun e => e.1 / 256 == Od.TEMP_HISTORY) } }
  else .next s

/-- COLD_START: the dies have reached the minimum of their grade after a wait (R529). -/
def execColdStart (waitMs : BitVec 32) (s : State) : Out :=
  if s.power.phase = .boot ∧ s.power.diesWarm = false then
    .next ({ s with power := { s.power with diesWarm := true } }.setVal Od.COLD_START_MS waitMs.toNat |>.raise Ev.COLD_START
      [waitMs.toNat])
  else .next s

/-- HUMIDITY_SAMPLE: the event when it rises above 60 % (R530). -/
def execHumiditySample (percent : Byte) (s : State) : Out :=
  if s.canPowered then
    let h := percent.toNat
    let s1 := (s.setVal Od.HUMIDITY h).raiseTo Od.HUMIDITY_MAX h
    .next (if 60 < h ∧ s.val Od.HUMIDITY ≤ 60 then s1.raise Ev.HUMIDITY_HIGH [h] else s1)
  else .next s

/-- SHOCK_DETECTED: a shock above SHOCK_THRESHOLD, in 0.1 g (R530). -/
def execShockDetected (tenthsG : BitVec 16) (s : State) : Out :=
  if s.canPowered then
    let s1 := s.raiseTo Od.SHOCK_MAX tenthsG.toNat
    .next (if s.val Od.SHOCK_THRESHOLD < tenthsG.toNat then (s1.bump Od.CNT_SHOCKS).raise Ev.SHOCK_DETECTED [tenthsG.toNat] else s1)
  else .next s

/-- A Gusset that was paused resumes (R293, R550). -/
def State.resumeRoutines (s : State) : State := if s.val Od.GUSSET_STATE = 2 then s.setVal Od.GUSSET_STATE 1 else s

/-- The routines that were paused for an entry into DROWSE resume with the ignition, though the module has not slept (R550).
(DESIGN CHOICE, log 32) -/
def State.ignitionResumes (s : State) : State :=
  if s.power.routinesPaused then { s with power := { s.power with routinesPaused := false } }.resumeRoutines else s

/-- IGN_CHANGE: a debounced change, in every power state; active, it abandons the first phase of DROWSE entry and stops the
DROWSE timer (R515, R549). -/
def execIgnChange (active : Bool) (s : State) : Out :=
  if s.power.phase = .unpowered then .next s
  else
    let s1 : State := { s with power := { s.power with ign := active, ignTimer := !active && s.power.firstOpen } }
    .next (if active then s1.abandonDrowse.ignitionResumes else s1)

/-- WAKE_OUT_PULSE_END (R517). -/
def execWakeOutPulseEnd (s : State) : Out :=
  if s.val Od.WAKE_OUT_MODE = 1 then .next { s with power := { s.power with wakeOut := false } } else .next s

/-- No command holds a slot: neither a client's nor the supervisor's. -/
def State.noCommands (s : State) : Bool := s.seq.slots.all (fun e => 448 ≤ e.1)

/-- DROWSE_PHASE1: IGN inactive and no command for DROWSE_DELAY; the Pocket is flushed, a checkpoint, the matcher image and
the trackers are written (R227, R547, R550). (DESIGN CHOICE, log 32) -/
def execDrowsePhase1 (s : State) : Out :=
  if s.power.phase = .running ∧ s.power.firstOpen = true ∧ s.power.ignTimer = true ∧ s.power.rideThrough = false
      ∧ s.drowseDefer = 0 ∧ s.admin.pauseStage = 0 ∧ s.noCommands = true then
    let s1 : State := { s with
      power := { s.power with phase := .drowse1, engine := .run }
      seq := { s.seq with flushing := s.seq.flushing ++ [everyCsn] }
      flash := { s.flash with trackersSaved := s.flash.trackers } }
    .next (if s.kv.loaded then s1.checkpointNow else s1)
  else .next s

/-- A port in the second phase of DROWSE entry: those of TC10_ENABLE ask their partner to sleep (R441). -/
def State.sleepPort (s : State) (p : Nat) : State :=
  let tc10 := (p = 0 ∧ bitOf 0 (s.val Od.TC10_ENABLE)) ∨ (p = 2 ∧ bitOf 1 (s.val Od.TC10_ENABLE))
  let s1 := s.setPort p (stoppedPort (decide tc10) (s.port p))
  if tc10 then s1.emit (.frame p { bytes := 0, msg := .sleepRequest }) else s1

/-- The Pocket is flushed: no record lies in it, and its journal is durable (R227). -/
def State.pocketFlushed (s : State) : Bool := !(s.kv.records.any (fun r => r.loc == .pocket)) && s.pocket.journal.isEmpty

/-- DROWSE_PHASE2, once the Pocket is flushed: the ports stop, intake closes, the timekeeper takes DT (R227, R441, R547, R551).
(DESIGN CHOICE, log 32) -/
def execDrowsePhase2 (s : State) : Out :=
  if s.power.phase = .drowse1 ∧ s.pocketFlushed = true then
    let s1 := ([0, 1, 2, 3, 4, 5, 6].foldl State.sleepPort s).freeFilled (fun _ => true)
    .next ({ s1 with power := { s1.power with phase := .drowse2 }
                     seq := { s1.seq with flushing := s1.seq.flushing.filter (· != everyCsn) }
                     clock := { s1.clock with timekeeper := some s1.clock.dt } }.setVal Od.INTAKE_STATE 2)
  else .next s

/-- Eight hours after IGN went inactive a Gusset, SANITISE or FORMAT that defers DROWSE pauses at a boundary (R293, R550).
(DESIGN CHOICE, log 32) -/
def execDrowseDeferLimit (s : State) : Out :=
  if s.power.ignTimer = true ∧ (s.drowseDefer = 1 ∨ s.drowseDefer = 2) then
    let s1 : State := { s with power := { s.power with routinesPaused := true } }
    .next (if s.val Od.GUSSET_STATE = 1 then s1.setVal Od.GUSSET_STATE 2 else s1)
  else .next s

end Sys2Proof.Machine
end

