-- ==== Sys2Proof/Machine/Start.lean ====
section
/-! DEFINITION. Starts: power-up, leaving DROWSE, the reset after a fatal error, the end of a thermal stop (R494, R526 to R528,
R538 to R552), wakes, the opening of intake and the loading of the directory. -/

namespace Sys2Proof.Machine

/-- The index and sub-index of a key of `OdState.vals`. -/
def keyIndex (k : Nat) : Nat := k / 256 % 65536

/-- The row of a key of `OdState.vals`. -/
def keyRow? (k : Nat) : Option OdRow := odRow? (keyIndex k) (k % 256)

/-- The Persist column of a key: 0 derived, 1 volatile, 2 stored. -/
def keyPersist (k : Nat) : Nat := ((keyRow? k).map (·.persist)).getD 0

/-- A key's entry is written through the OD. -/
def keyWritable (k : Nat) : Bool := ((keyRow? k).map (fun r => r.wr.isSome)).getD false

/-- Stored entries of the module that other records keep: the key store, the journal, the block map, the matcher image, the
epochs, the dump band and the firmware slots (R233, R287, R340, R385, R404, R494, R573, R597). (DESIGN CHOICE, log 40) -/
def keptElsewhere (index : Nat) : Bool :=
  [Od.NS_DATA_KEY_GEN, Od.MATCH_GENERATION, Od.MATCH_TILE_MAP, Od.MATCH_DROPPED, Od.CIPHER_CORE_STATE, Od.NONCE_BLOCKS,
   Od.KEYSTORE_WRITES, Od.CRYPTO_ERASE_CSN, Od.POWER_CYCLES, Od.ENGINE_EPOCH, Od.SUPERVISOR_EPOCH, Od.TEMP_HISTORY,
   Od.REC_STATE, Od.DUMP_COUNT, Od.DUMP_HELD].contains index
    || (decide (0x3001 ≤ index) && decide (index ≤ 0x300B)) || (decide (0x2044 ≤ index) && decide (index ≤ 0x205C))
    || decide (0x2F00 ≤ index) && decide (index < 0x3000)

/-- A key that the last checkpoint restores after a start without a Hem (R456). (DESIGN CHOICE, log 40) -/
def restoredKey (k : Nat) : Bool := keyPersist k == 2 && !keyWritable k && !keptElsewhere (keyIndex k)

/-- The entries kept by the module as the last checkpoint saved them; the temperature histogram from its own store (R309,
R456). (DESIGN CHOICE, log 40) -/
def State.restoreSaved (s : State) : State :=
  let kept := s.od.vals.filter (fun e => !restoredKey e.1 && e.1 / 256 != Od.TEMP_HISTORY)
  let back := s.od.saved.filter (fun e => restoredKey e.1) ++ s.power.tempSaved
  { s with od := { s.od with vals := back.foldl (fun (m : SMap Nat) e => SMap.put m e.1 e.2) kept } }

/-- Volatile entries are at their defaults (Table 12.3). -/
def State.dropVolatile (s : State) : State :=
  { s with od := { s.od with
      vals := s.od.vals.filter (fun e => keyPersist e.1 != 1)
      blobs := s.od.blobs.filter (fun e => keyPersist e.1 != 1)
      answers := [] } }

/-- Stored entries written through the OD are at their defaults (R457). -/
def State.dropStored (s : State) : State :=
  { s with od := { s.od with
      vals := s.od.vals.filter (fun e => !(keyPersist e.1 == 2 && keyWritable e.1))
      blobs := s.od.blobs.filter (fun e => !(keyPersist e.1 == 2 && keyWritable e.1)) } }

/-- Records of the Pocket that are lost: a read of them completes with MEDIA_UNREADABLE, and no earlier version comes back (R91,
R94); their chain links cannot be computed again (R366). -/
def State.losePocket (s : State) (p : Record → Bool) : State :=
  let dead := (s.kv.records.filter (fun r => r.loc == .pocket && p r)).map (·.csn)
  { s with
    kv := { s.kv with records := s.kv.records.map (fun r => if dead.contains r.csn then { r with loc := .lost, bin := none } else r) }
    seals := { s.seals with chains := s.seals.chains.map (fun e =>
      (e.1, { e.2 with links := e.2.links.filter (fun l => !dead.contains l.1) })) } }

/-- A start without a completed Hem finds no Pocket: its records and the journal that was not durable are lost (R75, R91, R366).
(DESIGN CHOICE, log 31) -/
def State.pocketLost (s : State) : State :=
  let s1 := s.losePocket (fun _ => true)
  { s1 with pocket := { s1.pocket with journal := [] } }

/-- The band that holds a valid commit record with the higher CSN_LAST: `some true` for band B (R283). -/
def State.replayBand (s : State) : Option Bool :=
  match s.flash.hemA.commit, s.flash.hemB.commit with
  | none, none => none
  | some _, none => some false
  | none, some _ => some true
  | some a, some b => some (decide (a < b))

/-- Band A or B becomes the active one, erased (R283, R540). -/
def State.activateBand (s : State) (b : Bool) : State :=
  { s with flash := { s.flash with
      bandB := b, hemA := if b then s.flash.hemA else {}, hemB := if b then {} else s.flash.hemB } }

/-- The replayed band is erased once intake has opened (R542). -/
def State.eraseReplayed (s : State) : State :=
  if s.power.hemReplayed then
    { s with flash := { s.flash with hemA := if s.flash.bandB then {} else s.flash.hemA
                                     hemB := if s.flash.bandB then s.flash.hemB else {} }
             power := { s.power with hemReplayed := false } }
  else s

/-- The hem bands, CSNs, nonces and the Pocket after a completed Hem (R76, R283, R386, R396, R527). -/
def State.replayHem (s : State) (f : StartFindings) : State :=
  let s1 := s.activateBand (match s.replayBand with | some b => !b | none => s.flash.bandB)
  let s2 : State := { s1 with power := { s1.power with hemReplayed := true } }
  let s3 := if f.hemIntact then s2 else
    (((s2.losePocket (fun r => Config.entryInGroup s.draws r.csn)).draw.bump Od.CNT_META_TAG_FAIL).setCond 14).raise
      Ev.META_TAG_FAIL [2047]
  s3.raise Ev.HEM_DONE [s.val Od.LAST_HEM_MS, s.val Od.LAST_HEM_ENERGY]

/-- The next CSN is the first of the block above the highest recorded; CSN_LAST stays the highest assigned (R75, R76). -/
def State.skipCsns (s : State) : State :=
  match s.seq.blockHigh with
  | none => s
  | some b => { s with seq := { s.seq with csnFloor := (b + 1) * 2 ^ 20 } }

/-- A start without a completed Hem (R75, R115, R366, R386, R456, R527); a factory-new module has nothing to lose. -/
def State.startWithoutHem (s : State) (factory : Bool) : State :=
  let s1 := ((s.pocketLost.skipCsns).skipNonces).activateBand s.flash.bandB
  if factory then s1
  else (s1.bump Od.CNT_HEM_INCOMPLETE).raise Ev.HEM_INCOMPLETE [if s.flash.bandB then 1 else 0]

/-- The log after a start: the pending buffer of the Hem is written with the numbers it carries, or is lost (R562, R563).
(DESIGN CHOICE, log 36) -/
def State.logAtStart (s : State) (hem : Bool) : State :=
  if hem then (State.seamDeliverAll s.seam.queue.length s).writeLog
  else
    let top := ((s.events.log.getLast?).map (·.seqNo + 1)).getD 0
    { s with
      events := { s.events with pendingRecs := [], nextSeq := if s.events.log.isEmpty && s.events.nextSeq == 0 then 0 else top + 255 }
      seam := { s.seam with queue := [] } }

/-- A new log band is formed from the last-resort records; FAULT stays latched (R568). (DESIGN CHOICE, log 36) -/
def State.formLog (s : State) (formed : Bool) : State :=
  if s.events.mirrorsLost.length = 2 ∧ formed then
    { s with events := { s.events with
        mirrorsLost := [], log := logAppend s.events.log (s.events.nor.map (fun r => { r with fromNor := true })) } }
  else s

/-- The key store at a start (R403, R404). (DESIGN CHOICE, log 34) -/
def State.keyStoreAtStart (s : State) (f : StartFindings) : State :=
  let s1 : State := { s with cipher := { s.cipher with keyCache := [], rootKey := f.pufOk, copyA := f.keyCopyA, copyB := f.keyCopyB } }
  if !f.pufOk then s1.setCond 18
  else
    let s2 := if f.keyCopyA then s1 else s1.raise Ev.KEYSTORE_DEGRADED [0]
    let s3 := if f.keyCopyB then s2 else s2.raise Ev.KEYSTORE_DEGRADED [1]
    if f.keyCopyA && f.keyCopyB then s3.setVal Od.KEYSTORE_STATE 0
    else if f.keyCopyA || f.keyCopyB then s3.setVal Od.KEYSTORE_STATE 1
    else (s3.setVal Od.KEYSTORE_STATE 2).setCond 18

/-- The configuration store at a start (R457). -/
def State.configAtStart (s : State) (f : StartFindings) : State :=
  if f.configA && f.configB then s.setVal Od.CONFIG_STORE_STATE 0
  else if f.configA || f.configB then s.setVal Od.CONFIG_STORE_STATE 1
  else (s.dropStored.setVal Od.CONFIG_STORE_STATE 2).raise Ev.OD_STORE_LOST

/-- Known-answer tests, the Lining and the PHYs at a start (R400, R401, R414). -/
def State.testsAtStart (s : State) (f : StartFindings) : State :=
  let bad := (List.range 10).foldl (fun n k =>
    if !f.coresPass.getLsbD k && s.odGet 0 Od.CIPHER_CORE_STATE (k + 1) == 1 then n + 2 ^ k else n) 0
  let badSha := (List.range 5).foldl (fun n k => if f.shaPass.getLsbD k then n else n + 2 ^ k) 0
  let s1 := { s with cipher := { s.cipher with liningOk := true } }.katRound bad badSha f.liningOk
  let phys := (List.range 7).filter (fun p => !f.physPass.getLsbD p && !s1.health.phyFailed.contains p)
  let s2 : State := { s1 with health := { s1.health with phyFailed := phys ++ s1.health.phyFailed } }
  phys.foldl (fun (t : State) p => (t.holdDown p).raise Ev.MAC_PHY_SELFTEST_FAIL [p]) s2

/-- The patches of the running image are loaded into every store; a unit whose store does not read back is replaced or stops (R585 to
R587). -/
def State.patchesAtStart (s : State) (f : StartFindings) : State :=
  let s0 : State := { s with seq := { s.seq with spoiled := [] } }
  let s1 := s0.applyPatches (s0.patchCheck f.patchSigned f.patchTags f.engPatches f.msqPatches)
  let s2 := ((List.range 36).filter (fun e => f.badOpeStores.getLsbD e && !(s1.engine e).retired)).foldl State.retireOpe s1
  { s2 with flash := { s2.flash with msqStopped := (List.range 16).filter (fun c => f.badMsqStores.getLsbD c) } }

/-- History-dependent algorithms whose stored state is not valid start from factory calibration (R282, R376, R544). -/
def State.historyAtStart (s : State) (bits : BitVec 9) : State :=
  let s1 := s.setVal Od.START_HISTORY_SOURCE bits.toNat
  let s2 := if bits.getLsbD 1 then s1.draw.setVal Od.FREQ_OFFSET (Config.freqOffset s1.draws).toNat else s1
  let s3 : State := if bits.getLsbD 5 then s2.trackersLost
    else { s2 with flash := { s2.flash with trackers := s2.flash.trackersSaved } }
  if bits.getLsbD 6 then s3.sizingLost else s3

/-- A port after the engine has started: held down where it failed or the module is FAILED (R307, R414). -/
def State.portsAtStart (s : State) : State :=
  let failed := s.val Od.HEALTH_STATE = 7
  { s with ports := [0, 1, 2, 3, 4, 5, 6].map (fun p =>
      (p, { heldDown := s.health.phyFailed.contains p || (decide failed && decide (p < 6)) })) }

/-- The scan of a published HOLD resumes in an internal slot, under its CSN, session and tag (R220). -/
def resumeScan (m : SMap Slot) (e : Nat × Slot) : SMap Slot :=
  match ((List.range 64).map (· + 448)).find? (fun n => (SMap.get? m n).isNone) with
  | some n => SMap.put m n { e.2 with ope := none, origin := 7 }
  | none => SMap.put m e.1 { e.2 with ope := none }

/-- A slot holds the scan of a published hold. -/
def scanning (x : Slot) : Bool := match x.routine with | some (.holdScan _) => true | _ => false

/-- The task slots as a start finds them: routines resume, in internal slots; after a fatal error the bound commands, whose slots
have kept their power, are still bound, and their steps restart (R203, R220, R538). (DESIGN CHOICE, log 31) -/
def State.slotsAtStart (s : State) (kind : Nat) : SMap Slot :=
  if kind = 3 then s.boundSlots
  else (s.seq.slots.filter (fun e => decide (e.1 < 448) && scanning e.2)).foldl resumeScan (s.seq.slots.filter (fun e => 448 ≤ e.1))

/-- The seam, the sequencer, the clock and the power state as a start leaves them. -/
def State.engineFresh (s : State) (kind : Nat) : State :=
  { s with
    clock := { ticks := s.clock.ticks, dt := max s.clock.expiry (s.clock.timekeeper.getD 0), te := s.clock.te
               expiry := max s.clock.expiry (s.clock.timekeeper.getD 0), running := true }
    seq := { s.seq with
      slots := s.slotsAtStart kind
      engines := freshEngines s.seq.engines
      stopped := false, ready := [], turn := [], flushing := if kind = 3 then s.seq.flushing.filter (· != everyCsn) else [] }
    kv := { s.kv with loaded := false, rebuilding := [], surplus := [] }
    cipher := { s.cipher with contextKey := Config.contextKey s.draws }
    wkp := { s.wkp with secretNow := Config.cookieSecret s.draws, secretOld := Config.cookieSecret s.draws, helloRate := []
                        staleTo := [], floodTo := [] }
    admin := { s.admin with pauseStage := 0, activation := false }
    power := { s.power with
      phase := .boot, engine := .run, rideThrough := false, startKind := kind, firstOpen := false, latchedWakes := []
      routinesPaused := false, incidentLow := false
      incidentLatched := s.power.incidentLatched.filter (fun h => h.toDt.isSome), rearmSince := none
      ignTimer := false, thermal := false, coolSeconds := 0, overvoltage := false, hemReplayed := false }
    seam := { s.seam with up := !s.seam.orphan || (kind != 3 && kind != 4), attached := false, attachedSe := 0, knownEe := 0, attachSent := true, tags := []
                          partition := [], registers := [] }
    events := { s.events with delivered := [], suppressed := [], perf := [], frozen := false, frozenLost := 0, ovfRaised := false
                              fatal := none } }.mediaAtStart.draw

/-- A power-up also begins the supervisor, the CAN controllers and every volatile entry anew. (DESIGN CHOICE, log 40) -/
def State.supervisorFresh (s : State) : State :=
  let s1 := ((s.dropVolatile).bump Od.SUPERVISOR_EPOCH).canPowerUp
  { s1 with seam := { s1.seam with orphan := false, orphanUnread := false, orphanLong := false } }

/-- The counts of a start and its START record (Table 15.6, Table 16.5, R494). -/
def State.countStart (s : State) (kind : Nat) : State :=
  let s1 := (s.bump Od.ENGINE_EPOCH).bump Od.CNT_STARTS 1 (kind + 1)
  let s2 := if kind = 0 ∨ kind = 1 ∨ kind = 5 then s1.bump Od.POWER_CYCLES else s1
  (s2.setVal Od.LAST_START_KIND kind).record 0x0200
    [kind, s2.val Od.ENGINE_EPOCH, s2.val Od.SUPERVISOR_EPOCH]

/-- WAKE_OUT at a power-up or an exit from DROWSE, and at the end of a thermal stop in mode 2 (R517).
(DESIGN CHOICE, log 32) -/
def State.wakeOutAtStart (s : State) (kind : Nat) : State :=
  let m := s.val Od.WAKE_OUT_MODE
  { s with power := { s.power with wakeOut := if kind = 3 then s.power.wakeOut else m == 2 || (m == 1 && kind != 4) } }

/-- The self-tests of the parts that a start itself has run, while a new image awaits its confirmation; `before`: the ports that had
failed before it. A rejected patch or a port's failure is a failed self-test (R613, R614, Table 18.9). -/
def State.selftestAtStart (s : State) (f : StartFindings) (before : List Nat) : State :=
  if s.fw.phase = .confirming then
    let phyBad := !(s.fw.unchanged.contains 5) && (List.range 7).any (fun p => !f.physPass.getLsbD p && !before.contains p)
    if s.val Od.MCODE_PATCH_STATE = 2 then ((s.decideBack 1 3).backAtStart).loadPatches 0
    else if phyBad then ((s.decideBack 1 5).backAtStart).loadPatches 0
    else s.setVal Od.FW_SELFTEST (s.selftestBits (if s.val Od.CONFIG_STORE_STATE = 0 then 3 else 35))
  else s

/-- A start of the engine, by kind of Table 15.6; `hem` tells whether a completed Hem is replayed. After a fatal error the
Pocket has kept its power (R538). -/
def State.start (s : State) (kind : Nat) (f : StartFindings) (hem : Bool) : State :=
  let s0 := if s.events.dumping.isSome then s.abandonDump else s
  let s1 := s0.engineFresh kind
  let s2 := if kind = 3 ∨ kind = 4 then s1 else s1.supervisorFresh
  let s3 := s2.configAtStart f
  let s4 := if hem then s3.restartSessions else if kind = 1 then s3.restoreSaved.freeAllSessions else s3.freeAllSessions
  let s5 := ((s4.portsAtStart.logAtStart (hem || kind == 3)).formLog f.newMirrorFormed).countStart kind
  let s6 := if hem then s5.replayHem f
    else if kind = 3 then ((s5.skipCsns).skipNonces).activateBand s5.flash.bandB
    else s5.startWithoutHem (kind == 5)
  let s6f := s6.fwAtStart hem
  let s7 := (((s6f.keyStoreAtStart f).historyAtStart (if s6f.engDiffers s6 then f.historyInvalid ||| 96 else f.historyInvalid)).testsAtStart
    f).patchesAtStart f
  let s8 := ((s7.restoreMatcher (hem || kind == 3)).tilesAtStart f.tilesPass).selftestAtStart f s6.health.phyFailed
  let s9 : State := { s8 with power := { s8.power with matcherReady := true, diesWarm := f.diesWarm } }
  (((((s9.setVal Od.TIME_VALID 0).setVal Od.SERVICE_RESET 0).setVal Od.INTAKE_STATE 3).setVal Od.STARTUP_PHASE 2).wakeOutAtStart kind).resumeRoutines.evaluateHealth

/-- The input has become valid: its voltage is measured after this (R509, R521). (PRESUMED, log 30) -/
def State.supplyOn (s : State) : State :=
  { s with power := { s.power with inputValid := true, inputMv := 9000, overvoltage := false } }

/-- A start at power-up (R539); the condition of a lost Seam ends (Table 7.5). -/
def State.powerUp (s : State) (f : StartFindings) : State :=
  let hem := f.hemValid && s.replayBand.isSome
  let kind := if s.val Od.POWER_CYCLES = 0 then 5 else if hem then 0 else 1
  let s1 : State := { s with health := { s.health with conds := s.health.conds &&& 0x77FFF } }
  ((s1.supplyOn).start kind f hem).recap s

/-- INPUT_VALID: power-up; during a ride-through service simply continues; during the Hem the Hem completes first, and one that
cannot complete is found incomplete at this start (R523, R526, R527, R539). (DESIGN CHOICE, log 31) -/
def execInputValid (f : StartFindings) (s : State) : Out :=
  match s.power.phase with
  | .unpowered => .next (s.powerUp f)
  | .hem =>
    if f.hemValid then .next { s.supplyOn with power := { s.supplyOn.power with startNext := some f } }
    else .next (s.powerOff.powerUp f)
  | _ =>
    if s.power.rideThrough then
      .next (({ s.supplyOn with power := { s.supplyOn.power with rideThrough := false } }.bump Od.CNT_RIDE_THROUGH_OK).recap s)
    else .next s

/-- HEM_COMPLETE: bound commands have finished, and the commit record is durable; every domain is switched off (R220, R525).
With the input valid again the module starts (R526); the supervisor runs on when the Hem belongs to a thermal stop and the
input is valid (R528). (DESIGN CHOICE, log 31) -/
def execHemComplete (tenthsMs : BitVec 16) (energyMj : BitVec 16) (s : State) : Out :=
  if s.power.phase = .hem ∧ s.boundWork = false then
    let s1 := s.finishPrograms.commitBand
    let s2 := ((s1.bump Od.CNT_HEMS).setVal Od.LAST_HEM_MS tenthsMs.toNat).setVal Od.LAST_HEM_ENERGY energyMj.toNat
    .next (match s.power.startNext with
      | some f => s2.powerOff.powerUp f
      | none => if s.power.thermal ∧ s.power.inputValid then s2.enterThermalStop else s2.powerOff)
  else .next s

/-- A wake source is enabled (R441, R481, R515). (DESIGN CHOICE, log 32) -/
def State.wakeEnabled (s : State) (w : Wake) : Bool :=
  match w with
  | .ign => s.power.ign
  | .tc10 p => (p.val == 0 && bitOf 0 (s.val Od.TC10_ENABLE)) || (p.val == 2 && bitOf 1 (s.val Od.TC10_ENABLE))
  | .can n => s.odGet 0 Od.CAN_WAKE_ENABLE (n.val + 1) == 1

/-- A detected wake counted (R442, R481). -/
def State.countWake (s : State) (w : Wake) : State :=
  match w with
  | .ign => s
  | .tc10 _ => s.bump Od.CNT_TC10_WAKES
  | .can n => s.bump Od.CNT_CAN_WAKES 1 (n.val + 1)

/-- A wake came in on a TC10 port. -/
def wokenByPort : Wake → Option Nat
  | .tc10 p => some p.val
  | _ => none

/-- The seconds that DROWSE lasted, as the timekeeper has them (0x2188 sub 4). (DESIGN CHOICE, log 32) -/
def State.countDrowse (s : State) : State :=
  s.bump Od.STATE_SECONDS ((s.clock.timekeeper.getD s.clock.dt - s.clock.dt) / 1000000000) 4

/-- The engine leaves DROWSE (R443, R551, R552): MAC_TC10_WAKE for each wake on a port; otherwise the enabled ports pass the
wake on. -/
def State.leaveDrowse (s : State) (ws : List Wake) : State :=
  let ps := ws.filterMap wokenByPort
  let s1 := s.countDrowse.start 2 {} s.replayBand.isSome
  if ps.isEmpty then
    let pulse (t : State) (p bit : Nat) : State :=
      if bitOf bit (t.val Od.TC10_ENABLE) then t.emit (.frame p { bytes := 0, msg := .wakePulse }) else t
    pulse (pulse s1 0 0) 2 1
  else ps.foldl (fun (t : State) p => t.raise Ev.MAC_TC10_WAKE [p]) s1

/-- A wake is recognised: in DROWSE it starts the module, in the second phase of the entry it is latched, in the first it
abandons the entry (R442, R549, R552). -/
def State.wake (s : State) (w : Wake) : State :=
  if s.wakeEnabled w = false then s
  else match s.power.phase with
    | .drowse => (s.countWake w).leaveDrowse [w]
    | .drowse2 =>
      let s1 := s.countWake w
      { s1 with power := { s1.power with latchedWakes := s1.power.latchedWakes ++ [w] } }
    | .drowse1 => (match w with | .can _ => s | .ign => s.abandonDrowse | .tc10 _ => (s.countWake w).abandonDrowse)
    | _ => s

/-- DROWSE_WAKE (R552). -/
def execDrowseWake (source : Wake) (s : State) : Out := .next (s.wake source)

/-- MAC_TC10_WAKE (R442). -/
def execMacTc10Wake (port : Fin 7) (s : State) : Out := .next (s.wake (.tc10 port))

/-- A frame matches a network's wake condition (R481). -/
def State.wakeMatches (s : State) (n : Nat) (ident : BitVec 11) (dlc : Nat) (data : BitVec 64) : Bool :=
  let m := s.odGet 0 Od.CAN_WAKE_ID_MASK (n + 1)
  Nat.land ident.toNat m == Nat.land (s.odGet 0 Od.CAN_WAKE_ID (n + 1)) m
    && dlc == s.odGet 0 Od.CAN_WAKE_DLC (n + 1)
    && Nat.land data.toNat (s.odGet 0 Od.CAN_WAKE_DATA_MASK (n + 1)) != 0

/-- CAN_WAKE_FRAME (R481). -/
def execCanWakeFrame (net : Fin 2) (ident : BitVec 11) (dlc : Fin 9) (data : BitVec 64) (s : State) : Out :=
  if s.wakeMatches net.val ident dlc.val data then .next (s.wake (.can net)) else .next s

/-- DROWSE_COMMIT: bound commands are complete and the hem image is durable; the domains go off, or the module leaves DROWSE at
once for a latched wake (R514, R547 to R549). (DESIGN CHOICE, log 32) -/
def execDrowseCommit (s : State) : Out :=
  if s.power.phase = .drowse2 ∧ s.boundWork = false then
    let s1 := s.finishPrograms.commitBand.countEntry 3
    let s2 : State := { s1 with
      power := { s1.power with phase := .drowse, wakeOut := false }
      clock := { s1.clock with running := false } }
    .next (if s.power.latchedWakes.isEmpty then s2 else s2.leaveDrowse s.power.latchedWakes)
  else .next s

/-- THERMAL_RESUMED: the baseplate has been at +80 °C or below for 60 s; the engine starts as after power-up (R528).
(DESIGN CHOICE, log 31) -/
def execThermalResumed (stoppedSeconds : BitVec 32) (s : State) : Out :=
  if s.power.phase = .thermalStop ∧ 60 ≤ s.power.coolSeconds then
    .next (((s.start 4 {} s.replayBand.isSome).recap s).raise Ev.THERMAL_RESUMED [stoppedSeconds.toNat])
  else .next s

/-- The engine is reset after a fatal error (R538). (DESIGN CHOICE, log 37) -/
def State.fatalReset (s : State) : State := (s.start 3 {} false).recap s

/-- DUMP_TAKEN: the dump completes; one of a fatal error is followed by the reset of the engine (R571, R573).
(DESIGN CHOICE, log 37) -/
def execDumpTaken (lengthKib : BitVec 32) (s : State) : Out :=
  match s.events.dumping with
  | none => .next s
  | some d =>
    let s1 := s.dumpDone d lengthKib.toNat
    .next (if s.power.phase = .fatalStop then s1.fatalReset else s1)

/-- ORPHAN_FATAL_RESET (R571). (DESIGN CHOICE, log 37) -/
def execOrphanFatalReset (s : State) : Out :=
  if s.power.phase = .fatalStop ∧ s.seam.orphan = true then .next s.fatalReset else .next s

/-- The conditions of R540 that hold before intake opens. -/
def State.mayOpen (s : State) : Bool :=
  s.power.phase == .boot && !s.power.firstOpen && decide (s.val Od.HEM_RESERVE ≤ s.power.bankMj) && s.power.matcherReady
    && (!s.noCore || s.cipher.liningOk) && s.power.diesWarm && (if s.flash.bandB then s.flash.hemB else s.flash.hemA).erased

/-- The copy of the key store or of the configuration store that was not valid has been rewritten from the other (R404, R457).
(DESIGN CHOICE, log 34) -/
def State.storesRewritten (s : State) : State :=
  let s1 := if s.val Od.CONFIG_STORE_STATE = 1 then s.setVal Od.CONFIG_STORE_STATE 0 else s
  if s.val Od.KEYSTORE_STATE = 1 then
    { s1 with cipher := { s1.cipher with copyA := true, copyB := true } }.setVal Od.KEYSTORE_STATE 0
  else s1

/-- INTAKE_OPEN (R114, R361, R514, R516, R540, R542). Restart seals carry RESTART, and NO_HEM after a start without one
(Table 9.3); they follow a power-up or an exit from DROWSE. (DEDUCED, log 20) -/
def execIntakeOpen (msSinceT0 : BitVec 32) (s : State) : Out :=
  if s.mayOpen then
    let k := s.power.startKind
    let s1 : State := { s with power := { s.power with phase := .running, firstOpen := true, ignTimer := !s.power.ign } }
    let s2 := ((s1.setVal Od.INTAKE_STATE 0).setVal Od.STARTUP_PHASE 3).setVal Od.T_FIRST_ACCEPT msSinceT0.toNat
    let s3 := if s2.seam.up then s2.canBootAll else s2
    let s4 := if k = 0 ∨ k = 1 ∨ k = 2 ∨ k = 5 then s3.bindSeals (if k = 1 then 12 else 4) 0 else s3
    .next (((s4.startWindows.nextIncident).eraseReplayed).storesRewritten)
  else .next s

/-- DIRECTORY_LOADED: full service, and the second INCIDENT holds that a loss of supply has kept (R256); without a key store the index cannot be loaded (R403, R404, R543). -/
def execDirectoryLoaded (msSinceT0 : BitVec 32) (s : State) : Out :=
  if s.live = true ∧ s.power.firstOpen = true ∧ s.kv.loaded = false ∧ s.val Od.KEYSTORE_STATE ≠ 2
      ∧ s.cipher.rootKey = true then
    let s1 : State := { s with kv := { s.kv with loaded := true, rebuilding := [] } }
    .next ((s1.setVal Od.STARTUP_PHASE 4).setVal Od.T_FULL_SERVICE msSinceT0.toNat).secondsAtLoad
  else .next s

end Sys2Proof.Machine
end

