-- ==== Sys2Proof/Machine/OdRead.lean ====
section
/-! DEFINITION. What a read of an object dictionary entry returns (chapter 12 and the OD tables of every chapter): values
held, values computed from the state, free values measured at the read, and the effects of a read. -/

namespace Sys2Proof.Machine

/-- The bytes of a text. -/
def ascii (t : String) : Bytes := t.toList.map (fun c => BitVec.ofNat 8 c.toNat)

/-- A number in decimal, with at least `w` digits. -/
def decimal (w n : Nat) : Bytes :=
  let d := ascii (toString n)
  List.replicate (w - d.length) (0x30 : Byte) ++ d

/-- A version as "M.m" (R593). -/
def versionText (v : Nat) : Bytes := decimal 1 (v / 65536) ++ ascii "." ++ decimal 1 (v % 65536)

/-- The product code (Table 12.10, 0x1018 sub 2). -/
def productCode (h : Hardware) : Nat := byGrade h.grade 0x00096060 0x00096040 0x00096020 + (if h.extended then 2 ^ 20 else 0)

/-- The capacity grade in TB (Table 0.1). -/
def gradeTb (g : Grade) : Nat := byGrade g 60 40 20

/-- PTP roles as PORT_PTP sub 2 gives them (Table 11.10). -/
def ptpRoleCode : PtpRole → Nat | .disabled => 0 | .master => 1 | .slave => 2 | .passive => 3

/-- PORT_LINK (Table 11.10). -/
def State.portLink (s : State) (p : Nat) : Nat :=
  let po := s.port p
  if s.val (portIndex p 0) = 0 then 8 else if po.heldDown then 7 else if po.asleep then 6
  else if po.linkUp then po.speed else 0

/-- The entry of a transmit time stamp (Table 11.8). -/
def tsqBytes (e : TsqEntry) : Bytes :=
  toBE 8 e.dt ++ toBE 2 e.te ++ toBE 2 e.seqTag ++ toBE 4 e.session.toNat ++ toBE 1 e.kind ++ toBE 1 (if e.lossBefore then 1 else 0)
    ++ toBE 2 e.lossCount ++ [0, 0, 0, 0]

/-- RX_FILL of a port in percent of its receive buffer. -/
def State.rxFillPercent (s : State) (p : Nat) : Nat :=
  let cap := if p = 6 then 2097152 else 4194304
  ((s.port p).rxq.map (fun e => e.2.1)).sum * 100 / cap

/-- A value of a port's block by offset and sub-index. -/
def State.portNum (s : State) (p off sub : Nat) : Option Nat :=
  let po := s.port p
  match off, sub with
  | 2, 0 => some (s.portLink p)
  | 10, 2 => some (ptpRoleCode po.ptpRole)
  | 10, 3 => some (if po.asCapable then 1 else 0)
  | 10, 4 => some (saturate32 po.peerDelay)
  | 11, 0 => some (if p = 6 then 1 else 8)
  | 11, k => some (queueBytes (SMap.getD po.txq (k - 1) []))
  | 14, 0 => some po.takeover
  | 15, 0 => some (s.rxFillPercent p)
  | _, _ => none

/-- Sessions that are not FREE. -/
def State.sessionsUsed (s : State) (p : Session → Bool) : Nat :=
  (s.wkp.sessions.filter (fun e => e.2.state != .free && p e.2)).length

/-- The identity and network entries that are computed (Tables 12.10, 12.11). -/
def State.idNum (s : State) (p inst index sub : Nat) : Option Nat :=
  match index with
  | 0x1001 => some (s.errorRegister inst)
  | 0x1003 => some (if sub = 0 then (s.net inst).errors.length else (s.net inst).errors.getD (sub - 1) 0)
  | 0x1018 => (match sub with
    | 1 => some 0x5A4B0960 | 2 => some (productCode s.hw) | 3 => some (s.runningVersion 6) | 4 => some s.hw.serial | _ => none)
  | 0x1200 => (match sub with
    | 1 => some (0x600 + (s.net inst).node) | 2 => some (0x580 + (s.net inst).node) | _ => none)
  | 0x2002 => some s.hw.serial
  | 0x2005 => some s.hw.manufactureDt
  | 0x2006 => some (gradeTb s.hw.grade)
  | 0x2007 => some (if s.hw.extended then 1 else 0)
  | 0x2010 => some (s.pathLevel p)
  | 0x2024 => if sub = 0 then none else some (s.nmt (sub - 1))
  | 0x2025 => if sub = 0 then none else
      some (if (s.net (sub - 1)).busOff then 2 else if (s.net (sub - 1)).passive then 1 else 0)
  | _ => none

/-- Entries that exist, sub-indices counted: the ports' block stands once in the table; PS has no PORT_PTP and one transmit
queue (0x200D, Table 11.10). -/
def odEntryCount : Nat :=
  let n (r : OdRow) : Nat := (r.hi + 1 - r.lo) * (r.subHi + 1 - r.subLo)
  let block := odRows.filter (fun r => 0x2210 ≤ r.lo && r.lo < 0x2220)
  (odRows.map n).sum + 6 * (block.map n).sum
    - ((block.filter (fun r => r.lo == 0x221A)).map n).sum - 7

/-- The namespace, session, intake and administration entries that are computed (Tables 2.1, 3.14, 5.10). -/
def State.kvNum (s : State) (inst index sub : Nat) : Option Nat :=
  let loaded (n : Nat) : Option Nat := some (if s.kv.loaded then n else 0)
  match index with
  | 0x2509 => loaded (s.usedBytes inst)
  | 0x250A => loaded (s.usedKeys inst)
  | 0x250F => loaded (s.heldBytes inst)
  | 0x2520 => some (if s.kv.loaded then (s.definedNs.filter (fun n => s.odGet n Od.NS_STATE 0 == 1)).length else 0)
  | 0x2521 => loaded s.liveValues.length
  | 0x2523 => some s.seq.csnLast
  | 0x2524 => some s.clock.expiry
  | 0x2525 => some (if s.kv.loaded then s.activeHolds.length else 0)
  | 0x2303 => some (s.sessionsUsed (fun _ => true))
  | 0x2323 => some (s.anchorState inst)
  | 0x233A => some (s.sessionsUsed (fun x => x.version == 2))
  | 0x2403 => some s.pocketUsed
  | 0x2404 => some s.pocketFill
  | 0x2411 => if sub = 0 then none else some ((s.seq.slots.filter (fun e => e.2.origin + 1 == sub)).length)
  | 0x3000 => some ((s.admin.sanitising.map (fun n => 0x5A5A0000 + n)).getD 0)
  | _ => none

/-- The flash, health and matcher entries that are computed (Tables 6.12, 7.7, 8.4). -/
def State.mediaNum (s : State) (inst index sub : Nat) : Option Nat :=
  let b := s.bin inst
  let o := s.openStripeOf? inst
  match index with
  | 0x2605 => some ((s.flash.bins.filter (fun e => e.1 < 32 && e.2.isOpen)).length)
  | 0x2607 => (match sub with
    | 1 => some (if inst < 32 ∧ b.isOpen then b.quantum else 2 ^ 64 - 1)
    | 2 => some (o.getD 0xFFFF)
    | 3 => some ((o.map (fun i => (s.stripe i).latest)).getD 0)
    | 4 => some ((o.map (fun i => (s.stripe i).placed)).getD 0)
    | _ => none)
  | 0x2611 => some (if s.kv.loaded then s.liveBytes else 0)
  | 0x2612 => some (((s.flash.stripes.filter (fun e => e.2.bin == 33 && e.2.state != .free)).map (fun e => e.2.placed)).sum)
  | 0x2613 => some s.freeStripes
  | 0x2616 => some (s.stripesOf 34 * 100 / 44)
  | 0x2044 => some (((List.range 16).filter (fun c => s.odGet 0 Od.SPARE_DIE (c + 1) == 0)).length)
  | 0x2046 => some ((s.planesServing.map (fun k => (s.planeSpare k).toNat)).foldl min 255)
  | 0x2048 => some (if sparePosition s.hw.grade < inst / 4 % 10 then 0xFF else (s.planeSpare inst).toNat)
  | 0x2049 => some (s.plane inst).retired.length
  | 0x2700 => some s.matchEntries
  | 0x2701 => some ((s.matcher.entries.filter (fun e => e.2.valid)).length)
  | 0x2715 => some (((s.listEntries inst).filter (fun e => e.2.valid)).length)
  | 0x2716 => some (s.listBusy inst)
  | _ => none

/-- The seal, time and port entries that are computed (Tables 9.5, 11.9, 11.10). -/
def State.timeNum (s : State) (inst index sub : Nat) : Option Nat :=
  match index with
  | 0x2912 => some (s.chain inst).nextSeq
  | 0x2913 => some (s.chain inst).taken
  | 0x2917 => some s.seals.ledger.length
  | 0x2930 => some (sourceCode s.clock.source)
  | 0x2933 => some s.clock.dt
  | 0x2934 => some s.clock.te
  | _ => if 0x2210 ≤ index ∧ index < 0x2280 then s.portNum ((index - 0x2210) / 16) (index % 16) sub else none

/-- DISCRETE_OUT (Table 14.4). -/
def State.discreteOut (s : State) : Nat :=
  (if s.okAsserted then 1 else 0) + (if s.serviceReqAsserted then 2 else 0) + (if s.power.wakeOut then 4 else 0)
    + (if s.val Od.PPS_OUT_ENABLE = 1 then 8 else 0)

/-- SEAM_STATE (Table 13.6). -/
def State.seamState (s : State) : Nat :=
  if s.seam.orphanUnread then 3 else if !s.seam.up then 0
  else if s.val Od.SEAM_WIDTH = 8 ∨ s.val Od.SEAM_RATE = 8 then 2 else 1

/-- ENGINE_POWER_STATE (Table 15.6). -/
def State.enginePowerState (s : State) : Nat :=
  if s.power.phase = .drowse1 then 3 else match s.power.engine with | .run => 0 | .hush => 1 | .doze => 2

/-- The Seam, supply, power-state and event entries that are computed (Tables 13.6, 14.4, 15.6, 16.11). -/
def State.powerNum (s : State) (index sub : Nat) : Option Nat :=
  match index with
  | 0x2A00 => some s.seamState
  | 0x2A0D => some ((s.seq.slots.filter (fun e => 384 ≤ e.1 && e.1 < 447)).length)
  | 0x2112 => some s.power.bankMj
  | 0x2113 => some (if s.val Od.HOLDUP_ENERGY ≤ s.power.bankMj then 2 else if s.power.bankMj < s.val Od.HEM_RESERVE then 0 else 1)
  | 0x2120 => some (if s.power.ign then 1 else 0)
  | 0x2126 => some s.discreteOut
  | 0x2180 => some s.enginePowerState
  | 0x2185 => some s.drowseDefer
  | 0x2187 => if sub = 2 then some (if s.val Od.DOZE_DEPTH = 1 then 2000 else 300) else none
  | 0x2B13 => some s.events.nextSeq
  | 0x2B14 => some s.recOldest
  | 0x2B16 => some s.events.pendingRecs.length
  | 0x2D01 => if sub = 0 then none else
      some (((s.events.dumps.find? (fun d => (d.seqNo - 1) % 4 + 1 == sub)).map (·.seqNo)).getD 0)
  | 0x2E00 => some Config.mcodeRomId.toNat
  | _ => none

/-- The firmware entries (Table 18.10). -/
def State.fwNum (s : State) (index sub : Nat) : Option Nat :=
  let f := s.fw
  let staged (n : Nat) : Option Nat := some (if f.phase = .empty then 0 else n)
  match index with
  | 0x2F00 => some (fwCode f.phase)
  | 0x2F03 => some ((f.owner.map (fun c => (sessionId c (s.session c).gen).toNat)).getD 0)
  | 0x2F04 => some (match f.phase with
    | .receiving => f.image.length | .received => f.image.length | .verifying => f.image.length | .verified => f.image.length
    | _ => 0)
  | 0x2F05 => some f.imageLen
  | 0x2F20 => if sub = 0 then none else some (s.runningPart sub).version
  | 0x2F21 => if sub = 0 then none else some (s.runningPart sub).compat
  | 0x2F22 => if sub = 0 then none else some (s.runningPart sub).epoch
  | 0x2F23 => if sub = 0 then none else some (f.fuses.getD (sub - 1) 0)
  | 0x2F24 => if sub = 0 then none else staged (partOf f.parts sub).version
  | 0x2F25 => some f.runRelease
  | 0x2F26 => staged f.release
  | _ => none

/-- The groups of Table 15.2: first domain and how many. -/
def domainGroups : List (Nat × Nat) :=
  [(0, 3), (3, 3), (6, 3), (9, 6), (15, 2), (17, 3), (20, 18), (38, 11), (49, 6), (55, 9), (64, 26), (90, 8), (98, 16), (114, 160),
   (274, 7), (281, 2)]

/-- The group, from 1, and the member of a domain. -/
def domainOf (d : Nat) : Nat × Nat :=
  match (List.range 16).find? (fun g => match domainGroups[g]? with | some e => decide (d < e.1 + e.2) | none => false) with
  | some g => (g + 1, d - ((domainGroups[g]?).map (·.1)).getD 0)
  | none => (0, 0)

/-- The matcher tiles that carry a logical tile. -/
def State.tilesUsed (s : State) : List Nat := [1, 2, 3, 4, 5, 6, 7, 8].map (fun k => s.odGet 0 Od.MATCH_TILE_MAP k)

/-- Why a domain is off in every state: unpopulated, retired, spare (Table 15.7, R535). -/
def State.domainMarks (s : State) (g m : Nat) : Bool × Bool × Bool :=
  match g with
  | 7 => let a := s.engine (2 * m)
         let b := s.engine (2 * m + 1)
         (false, !a.inService && !b.inService && (a.retired || b.retired), !a.inService && !b.inService && !a.retired && !b.retired)
  | 8 => let st := s.odGet 0 Od.CIPHER_CORE_STATE (m + 1)
         if m < 10 then (false, st == 2, st == 0) else (false, !s.cipher.liningOk, false)
  | 9 => if m = 0 then (false, false, false)
         else (false, s.cipher.shaRetired.contains (m - 1), m == 5 && s.val Od.SHA_SPARE == 1)
  | 10 => let used := s.tilesUsed.contains m
          let spare := m == 8 && s.val Od.MATCH_SPARE == 1
          (false, !used && !spare, spare)
  | 11 => let taken := s.health.bankFor.any (fun e => e.1 == m)
          let lost := s.health.bankFor.any (fun e => e.2 == m)
          (false, lost, decide (24 ≤ m) && !taken)
  | 12 => (false, (s.val Od.LPDDR_MAPPED_OUT).testBit m, false)
  | 13 => (false, (s.val Od.CHANNELS_LOST).testBit m, false)
  | 14 => let pos := m % 10
          let sp := s.odGet 0 Od.SPARE_DIE (m / 10 + 1)
          if sparePosition s.hw.grade < pos then (true, false, false)
          else if pos = sparePosition s.hw.grade then (false, sp == 3, sp == 0)
          else (false, s.flash.replaced.contains m, false)
  | _ => (false, false, false)

/-- The condition of a group (Table 15.2): 0 off, 1 on, 2 gated, 3 retained, 4 standby, 5 self-refresh. -/
def State.groupState (s : State) (g m : Nat) : Nat :=
  if s.power.phase = .unpowered then 0
  else if s.power.phase = .drowse then (if g = 1 then 1 else 0)
  else if s.power.phase = .thermalStop then (if g ≤ 6 ∨ g = 16 then 1 else 0)
  else match s.power.engine with
    | .run => 1
    | .hush => if g = 6 ∨ g = 7 ∨ g = 8 ∨ g = 9 ∨ g = 13 then 2 else if g = 14 then 4 else 1
    | .doze =>
      if g = 6 then 2 else if g = 7 ∨ g = 8 ∨ g = 9 ∨ g = 10 then 3
      else if g = 11 then (match s.bankRole m with | some r => if 12 ≤ r ∧ r < 18 then 1 else 3 | none => 3)
      else if g = 12 then 5
      else if g = 13 ∨ g = 14 then (if s.power.dozeDepth = 1 then 0 else 4)
      else 1

/-- The state of a domain. -/
def State.domainState (s : State) (d : Nat) : Nat :=
  let (g, m) := domainOf d
  let (un, ret, sp) := s.domainMarks g m
  if un || ret || sp || (g == 15 && s.val (portIndex m 0) == 0) then 0 else s.groupState g m

/-- DOMAIN_INFO (Table 15.7). -/
def State.domainInfo (s : State) (d : Nat) : Nat :=
  let (g, m) := domainOf d
  let (un, ret, sp) := s.domainMarks g m
  g * 2 ^ 24 + m * 2 ^ 16 + s.domainState d * 2 ^ 12 + (if un then 4 else 0) + (if ret then 2 else 0) + (if sp then 1 else 0)

/-- The value of a numeric entry on a path, by object. -/
def State.odNum (s : State) (p inst index sub : Nat) : Nat :=
  if index = 0x21B0 then ((List.range 283).filter (fun d => s.domainState d != 0)).length
  else if index = 0x21B2 then s.domainInfo inst
  else if index = 0x200D then odEntryCount
  else
    match s.idNum p inst index sub with
    | some v => v
    | none => match s.kvNum inst index sub with
      | some v => v
      | none => match s.mediaNum inst index sub with
        | some v => v
        | none => match s.timeNum inst index sub with
          | some v => v
          | none => match s.powerNum index sub with
            | some v => v
            | none => match s.fwNum index sub with
              | some v => v
              | none => s.odGet inst index sub

/-- Entries measured at each read, with the number of their values. (DESIGN CHOICE, log 3) -/
def measuredEntry (index : Nat) : Option Nat :=
  match index with
  | 0x2100 => some (2 ^ 32) | 0x2101 => some (2 ^ 32) | 0x2102 => some (2 ^ 16) | 0x2103 => some (2 ^ 16)
  | 0x2803 => some 101 | 0x2A03 => some (2 ^ 32) | 0x2E06 => some (2 ^ 16) | 0x2E0C => some (2 ^ 32)
  | _ => none

/-- Words of each diagnostic space (Table 12.8). -/
def diagWords : List Nat := [8192, 2304, 4096, 524288, 524288, 2097152, 33554432]

/-- A word of a diagnostic space: of a task slot, of a record of the journal ring, counted from its oldest, or of a bucket directory
entry, bits 127:64 first; the layouts of the others the spec does not give (R8, R482). (PRESUMED, log 43) -/
def State.diagWord (s : State) (space w : Nat) : Nat :=
  match space with
  | 0 => s.slotWords (w / 16) (w % 16)
  | 4 => fieldAt (((s.pocket.journal[w / 8]?).map JRec.bytes).getD []) (8 * (w % 8)) 8
  | 6 => (s.dirEntry (w / 2)).word / 2 ^ (64 - 64 * (w % 2)) % 2 ^ 64
  | _ => (Config.diagWord space w s.draws).toNat

/-- DIAG_DATA: DT, then the words of the selection (R482). -/
def State.diagData (s : State) (p : Nat) : Bytes :=
  let space := s.selection p 0x4000
  let a := s.selection p 0x4001
  let n := min (s.selection p 0x4002) (diagWords.getD space 0 - a)
  toBE 8 s.clock.dt ++ (List.range n).flatMap (fun k => toBE 8 (s.diagWord space (a + k)))

/-- The dump that DUMP_SELECT names on a path. -/
def State.dumpOf? (s : State) (p : Nat) : Option Dump := s.events.dumps.find? (fun d => d.seqNo == s.selection p Od.DUMP_SELECT)

/-- The header of a dump (Table 16.9). -/
def State.dumpHead (s : State) (d : Dump) : Bytes :=
  toBE 4 0x5A4B4450 ++ [1] ++ toBE 1 ((if d.complete then 1 else 0) + (if d.live then 2 else 0)) ++ [8, 0] ++ toBE 4 d.seqNo
    ++ toBE 4 d.fatal ++ toBE 8 d.dt ++ toBE 2 d.te ++ [0, 0] ++ toBE 4 d.epoch ++ toBE 8 d.csnLast ++ toBE 8 (d.kib * 1024)
    ++ toBE 4 (s.runningVersion 2) ++ toBE 4 (s.runningVersion 3) ++ toBE 4 d.cycles ++ toBE 4 d.seconds

/-- The lengths of the sections of a dump (Table 16.10): that of the engine registers and of the translation state is the
engine's own, the others follow from what they hold. -/
def dumpSections (d : Dump) : List Nat :=
  [(Config.dumpRegisters d.seqNo).val, 18432, 32768, 65536, 8388608, 32 * d.records.length, 32 * d.contexts, (Config.dumpFtl d.seqNo).val]

/-- Where a section of a dump starts: the sections follow the header and the directory in order (R574). -/
def dumpOffset (d : Dump) (k : Nat) : Nat := 192 + ((dumpSections d).take k).sum

/-- The directory of a dump: SECTION_ID, reserved, LENGTH and OFFSET of each section (R574). -/
def dumpDirectory (d : Dump) : Bytes :=
  (dumpSections d).zipIdx.flatMap (fun e => toBE 2 (e.2 + 1) ++ [0, 0] ++ toBE 4 e.1 ++ toBE 8 (dumpOffset d e.2))

/-- Byte `k` of a dump before its digest (R574, Table 16.10): the task slots, the journal ring behind the 4 MiB of the key directory,
and the records are laid out by the spec; the rest is free. (DESIGN CHOICE, log 37) -/
def State.dumpByte (s : State) (d : Dump) (k : Nat) : Byte :=
  let free := Config.dumpByte d.seqNo k
  if k < 64 then (s.dumpHead d).getD k 0
  else if k < 192 then (dumpDirectory d).getD (k - 64) 0
  else if dumpOffset d 3 ≤ k ∧ k < dumpOffset d 4 then
    let i := k - dumpOffset d 3
    let words := SMap.getD d.slots (i / 128) []
    (toBE 8 (words.getD (i % 128 / 8) 0)).getD (i % 8) 0
  else if dumpOffset d 4 + 4194304 ≤ k ∧ k < dumpOffset d 5 then
    let i := k - dumpOffset d 4 - 4194304
    (((d.journal[i / 64]?).map JRec.bytes).getD []).getD (i % 64) free
  else if dumpOffset d 5 ≤ k ∧ k < dumpOffset d 6 then
    let i := k - dumpOffset d 5
    (((d.records[i / 32]?).map recBytes).getD []).getD (i % 32) 0
  else free

/-- Bytes of a dump from an offset: the header, the directory, the sections, and the SHA-512 of every byte before it (R574, R575). -/
def State.dumpBytes (s : State) (d : Dump) (off n : Nat) : Bytes :=
  let total := d.kib * 1024
  (List.range n).map (fun i =>
    let k := off + i
    if d.complete ∧ total ≤ k + 64 then
      (toBE 64 (Config.sha512 ((List.range (total - 64)).map (s.dumpByte d))).toNat).getD (k + 64 - total) 0
    else s.dumpByte d k)

/-- The seal that SEAL_NS_SELECT and SEAL_SEQ_SELECT name on a path. -/
def State.sealOf? (s : State) (p : Nat) : Option Seal :=
  (s.chain (s.selection p Od.SEAL_NS_SELECT)).seals.find? (fun x =>
    x.signature.isSome && x.seqNo == s.selection p Od.SEAL_SEQ_SELECT)

/-- A link of a seal's list (R367). -/
def linkBytes (l : Nat × BitVec 512) : Bytes := toBE 8 l.1 ++ toBE 64 l.2.toNat

/-- The texts, byte strings and DOMAINs that are computed, DUMP_DATA apart. -/
def State.odBlob (s : State) (p inst index sub : Nat) : Bytes :=
  match index with
  | 0x1008 => ascii "ZK960"
  | 0x1009 => s.hw.hardwareIssue
  | 0x100A => ascii "SUP " ++ versionText (s.runningVersion 2) ++ ascii " ENG " ++ versionText (s.runningVersion 3)
  | 0x2000 => ascii "Zadaolo ZK960"
  | 0x2001 => ascii "ZK960-" ++ decimal 2 (gradeTb s.hw.grade) ++ ascii "T" ++ (if s.hw.extended then ascii "-X" else [])
  | 0x2003 => ascii "ZK" ++ decimal 10 s.hw.serial
  | 0x2004 => s.hw.hardwareIssue
  | 0x2008 => s.hw.macBase
  | 0x2900 => deviceKeyId
  | 0x2901 => Config.deviceChain
  | 0x2915 => ((s.sealOf? p).map (fun x => x.links.flatMap linkBytes)).getD []
  | 0x2919 => (match s.seals.ledger[inst]? with
    | some x => if x.signature.isSome then sealBytes x else []
    | none => [])
  | 0x2920 => let b := s.blob p index sub; if b.isEmpty then List.replicate 32 (0 : Byte) else b
  | 0x2921 => s.blob p index sub
  | 0x2B12 => (s.recPage p).flatMap recBytes
  | 0x2B19 => s.events.nor.flatMap recBytes
  | 0x2C01 => (s.perfValue sub).2
  | 0x2D03 => ((s.dumpOf? p).map (fun d => s.dumpBytes d 0 192)).getD []
  | 0x2F11 => if s.fw.headerOk then s.fw.image.take 772 else []
  | 0x4003 => s.diagData p
  | _ =>
    if 0x2210 ≤ index ∧ index < 0x2280 then
      let q := (index - 0x2210) / 16
      match index % 16, sub with
      | 3, _ => portMac s.hw q
      | 5, 1 => linkLocal s.hw q
      | 5, k => let b := s.blob 0 index k; if b.isEmpty then List.replicate 16 (0 : Byte) else b
      | 13, _ => (s.port q).tsq.flatMap tsqBytes
      | _, _ => []
    else s.blob inst index sub

/-- What a read leaves behind: a cursor advanced, stamps removed, the orphan flag, a free value drawn (R439, R565, Table
13.6). -/
def State.afterRead (s : State) (p index sub : Nat) : State :=
  if (measuredEntry index).isSome ∨ index = 0x4003 then s.draw
  else if index = Od.SEAM_STATE then { s with seam := { s.seam with orphanUnread := false } }
  else if index = Od.REC_READ then s.recAdvance p
  else if index = Od.PERF_VALUE ∧ sub ≠ 0 then (s.perfValue sub).1
  else if 0x2210 ≤ index ∧ index < 0x2280 ∧ index % 16 = 13 then
    s.setPort ((index - 0x2210) / 16) { s.port ((index - 0x2210) / 16) with tsq := [] }
  else s

/-- The value of an entry in bytes, most significant byte first (R11). (DEDUCED, log 11) -/
def State.odValue (s : State) (p inst index sub : Nat) (ty : OdTy) : Bytes :=
  if odNumeric ty then
    let w := (odWidth ty).getD 0
    match measuredEntry index with
    | some n => toBE w ((Config.measured s.draws).toNat % n)
    | none => toBE w (s.odNum p inst index sub)
  else s.odBlob p inst index sub

/-- The entries that OD_CONFIG_DIGEST covers: stored, and written through the OD (R357). -/
def configRow (r : OdRow) : Bool := r.persist == 2 && r.wr.isSome

/-- The encoding of one entry in the configuration digest (R357). -/
def State.configBytes (s : State) (p index sub : Nat) (ty : OdTy) : Bytes :=
  let b := s.odValue p (s.windowInst p index) index sub ty
  toBE 2 index ++ toBE 1 sub ++ toBE 4 b.length ++ b

/-- The first 256 indices of each range of Table 12.4 that lists entries. -/
def odBlocks : List Nat :=
  [0x10, 0x12, 0x14, 0x16, 0x18, 0x1A, 0x1F, 0x20, 0x21, 0x22, 0x23, 0x24, 0x25, 0x26, 0x27, 0x28, 0x29, 0x2A, 0x2B, 0x2C, 0x2D,
   0x2E, 0x2F, 0x30, 0x40]

/-- The entries of 256 indices whose rows satisfy a test, in increasing index and sub-index order. -/
def blockCells (b : Nat) (p : OdRow → Bool) : List (Nat × Nat × OdRow) :=
  let rs := (odRowsOf (b * 256)).filter p
  (List.range 256).flatMap (fun d =>
    let i := b * 256 + d
    let here := rs.filter (fun r => r.lo ≤ odBase i && odBase i ≤ r.hi)
    (List.range 256).filterMap (fun k =>
      if (odFind i k).toOption.isNone then none else (here.find? (fun r => r.subLo ≤ k && k ≤ r.subHi)).map (fun r => (i, k, r))))

/-- The entries whose rows satisfy a test, in increasing index and sub-index order. -/
def odCells (p : OdRow → Bool) : List (Nat × Nat × OdRow) := odBlocks.flatMap (fun b => blockCells b p)

/-- OD_CONFIG_DIGEST as a path reads it (R357): every covered entry in increasing index and sub-index order.
(DEDUCED, log 20) -/
def State.configDigest (s : State) (p : Nat) : BitVec 512 :=
  Config.sha512 ((odCells configRow).flatMap (fun c => s.configBytes p c.1 c.2.1 c.2.2.ty))

/-- A read of an entry on a path with a level: its full length and the bytes from an offset (R192, R454, R461, R462). A dump
that is not held has no data (R575). -/
def State.odRead (s : State) (p level inst index sub off len : Nat) : State × Except OdRefusal (Nat × Bytes) :=
  match odFind index sub with
  | .error e => (s, .error e)
  | .ok row =>
    match row.rd with
    | none => (s, .error .noRead)
    | some l =>
      if level < l then (s, .error .level)
      else if row.ty ≠ .domain ∧ off ≠ 0 then (s, .error .length)
      else if index = Od.DUMP_DATA ∨ index = Od.DUMP_HEADER then
        (match s.dumpOf? p with
          | none => (s, .error .noEntry)
          | some d =>
            let n := if index = Od.DUMP_DATA then d.kib * 1024 else 192
            (s, .ok (n, s.dumpBytes d off (min len (n - off)))))
      else
        let b := if index = Od.OD_CONFIG_DIGEST then toBE 64 (s.configDigest p).toNat else s.odValue p inst index sub row.ty
        (s.afterRead p index sub, .ok (b.length, (b.drop off).take len))

/-- A part entry of the attestation report: code 0 is the ROM. A part that an image has brought is measured as its DIGEST; what the
parts of manufacture measure the spec does not say (R356, R357, Table 18.3). (PRESUMED, log 43) -/
def State.partReport (s : State) (code : Nat) : Bytes :=
  if code = 0 then [0, 0, 0, 0] ++ toBE 4 0 ++ toBE 4 Config.supRomId.toNat ++ [0, 0, 0, 0] ++ toBE 64 (Config.partMeasurement 0).toNat
  else
    let x := s.runningPart code
    let m := if (s.fw.running.find? (fun p => p.code == code)).isSome then x.digest else (Config.partMeasurement code).toNat
    toBE 1 code ++ toBE 1 x.epoch ++ [0, 0] ++ toBE 4 x.version ++ toBE 4 x.compat ++ [0, 0, 0, 0]
      ++ toBE 64 m

/-- The attestation report before its signature (Table 9.1). -/
def State.reportHead (s : State) (p : Nat) (nonce : Bytes) : Bytes :=
  toBE 4 0x5A4B4154 ++ [1, 7] ++ toBE 1 (s.val Od.HEALTH_STATE) ++ [0] ++ nonce ++ deviceKeyId ++ toBE 8 s.clock.dt
    ++ toBE 2 s.clock.te ++ [0, 0] ++ toBE 4 (s.val Od.POWER_CYCLES) ++ toBE 4 s.seconds ++ [0, 0, 0, 0]
    ++ toBE 8 s.seq.csnLast ++ toBE 8 (s.val Od.OD_CONFIG_WRITES) ++ toBE 64 (s.configDigest p).toNat
    ++ [0, 1, 2, 3, 4, 5, 6].flatMap s.partReport

end Sys2Proof.Machine
end

