-- ==== Sys2Proof/Machine/OdAccess.lean ====
section
/-! DEFINITION. A write of an object dictionary entry: its refusals in the order of Table 12.5, the range of its value (R628),
what the present state refuses, and its effect (R450, R456 to R464, R472 and the OD tables of every chapter). -/

namespace Sys2Proof.Machine

/-- The port of an index in the port blocks. -/
def portOfIndex (index : Nat) : Nat := (index - 0x2210) / 16

/-- The bits `hi` down to `lo` of a value are 0. -/
def zeroBits (hi lo v : Nat) : Bool := bitsOf hi lo v == 0

/-- PORT_PHY_CONFIG's values (Table 11.11, R412). -/
def phyConfigOk (p v : Nat) : Bool :=
  zeroBits 15 12 v && zeroBits 3 0 v && Nat.land v 0xF80 == Nat.land v (portSpeeds p) && bitsOf 6 5 v != 3
    && (bitOf 4 v || bitsOf 6 5 v != 0)

/-- PORT_FLOW's values (Table 11.12, R449). -/
def flowOk (p v : Nat) : Bool :=
  let xoff := bitsOf 15 8 v
  let xon := bitsOf 7 0 v
  bitsOf 31 30 v != 3 && !(p == 6 && bitsOf 31 30 v == 2) && zeroBits 29 24 v && decide (50 ≤ xoff) && decide (xoff ≤ 95)
    && decide (10 ≤ xon) && decide (xon + 10 ≤ xoff)

/-- Transmission types that are served (Table 12.6). -/
def pdoTypeOk (v : Nat) : Bool := decide (v ≤ 240) || v == 254 || v == 255

/-- Whether a value lies in an entry's range (R628). (DESIGN CHOICE, log 17) -/
def State.rangeOk (s : State) (index : Nat) (r : OdRange) (v : Nat) : Bool :=
  match r with
  | .any => true
  | .upTo hi => decide (v ≤ hi)
  | .between lo hi => decide (lo ≤ v) && decide (v ≤ hi)
  | .oneOf values => values.contains v
  | .access => zeroBits 49 48 v && zeroBits 35 32 v && (if index = Od.MATCH_ACCESS then zeroBits 31 2 v else zeroBits 31 12 v)
  | .binIdle => decide (s.val Od.BIN_WIDTH ≤ v) && decide (v ≤ 2592000)
  | .phyConfig => phyConfigOk (portOfIndex index) v
  | .flow => flowOk (portOfIndex index) v
  | .vlan => decide (v ≤ 0xFFE) || v == 0xFFFF
  | .heartbeat => v == 0 || decide (10 ≤ v)
  | .nodeId => (decide (1 ≤ v) && decide (v ≤ 127)) || v == 255
  | .perfEvent => !(decide (100 ≤ v) && decide (v ≤ 103)) && !(decide (192 ≤ v) && decide (v ≤ 254))
  | .cobId => decide (v < 2048)
  | .cobTime => zeroBits 30 11 v
  | .cobEmcy => zeroBits 30 11 v
  | .cobPdo => zeroBits 30 11 v
  | .rpdoType => pdoTypeOk v
  | .tpdoType => pdoTypeOk v

/-- The communication entry of a PDO's mapping or communication entry (Table 12.10). -/
def pdoComm (index : Nat) : Nat := if index < 0x1800 then 0x1400 + index % 16 else 0x1800 + index % 16

/-- A TPDO entry. -/
def isTpdo (index : Nat) : Bool := decide (0x1800 ≤ index)

/-- A mapping entry of a PDO. -/
def isPdoMap (index : Nat) : Bool :=
  (decide (0x1600 ≤ index) && decide (index ≤ 0x1603)) || (decide (0x1A00 ≤ index) && decide (index ≤ 0x1A07))

/-- The transmission type of a PDO. -/
def isPdoType (index sub : Nat) : Bool :=
  sub == 2 && ((decide (0x1400 ≤ index) && decide (index ≤ 0x1403)) || (decide (0x1800 ≤ index) && decide (index ≤ 0x1807)))

/-- Bits of a mapped value (R472, Table 12.1). -/
def mapBitsOf : OdTy → Nat
  | .bool => 1
  | .int n => 8 * n
  | .uint n => 8 * n
  | _ => 0

/-- The entry of a mapping word: index, sub-index and length in bits (R472). -/
def mapWord (w : Nat) : Nat × Nat × Nat := (w / 65536, w / 256 % 256, w % 256)

/-- A mapping word names an entry that a PDO may map (R472): a TPDO what Observers read, an RPDO what the network's level may
write. -/
def mappable (tpdo : Bool) (level w : Nat) : Bool :=
  let (i, k, bits) := mapWord w
  match odFind i k with
  | .ok row => odNumeric row.ty && bits == mapBitsOf row.ty
      && (if tpdo then row.rd == some 0 else match row.wr with | some l => decide (l ≤ level) | none => false)
  | .error _ => false

/-- The mapping words of a PDO in force: sub-indices 1 to its count. -/
def State.mapping (s : State) (inst index : Nat) : List Nat :=
  (List.range (s.odGet inst index 0)).map (fun k => s.odGet inst index (k + 1))

/-- Bits that mapping words take. -/
def mapLength (ws : List Nat) : Nat := (ws.map (fun w => w % 256)).sum

/-- A write to a mapping entry breaks R472. A word of 0 names nothing, and is refused only once it is counted.
(DESIGN CHOICE, log 15) -/
def State.mapRefusal (s : State) (inst index sub v : Nat) : Option OdRefusal :=
  let lv := s.odGet 0 Od.CAN_SDO_LEVEL (inst + 1)
  let t := isTpdo index
  if sub = 0 then
    let ws := (List.range v).map (fun k => s.odGet inst index (k + 1))
    if !(ws.all (mappable t lv)) then some .notMappable
    else if 64 < mapLength ws then some .pdoTooLong else none
  else
    let ws := ((List.range (s.odGet inst index 0)).map (fun k => if k + 1 = sub then v else s.odGet inst index (k + 1)))
    if v ≠ 0 ∧ mappable t lv v = false then some .notMappable
    else if 64 < mapLength ws then some .pdoTooLong else none

/-- The present state refuses a write (R44, R46, R222, R319, R472, R616). NS_STATE and the entries of a request have their own
order. -/
def State.stateRefuses (s : State) (inst index sub : Nat) (row : OdRow) : Bool :=
  let key := odKey inst index sub
  (row.persist == 2 && (s.fw.phase == .activating || s.fw.phase == .confirming) && (SMap.get? s.od.twoFormat key).isSome)
    || (decide (0x2502 ≤ index) && decide (index ≤ 0x250F)
        && (s.odGet inst Od.NS_STATE 0 == 2 || (decide (index ≤ 0x2504) && s.odGet inst Od.NS_STATE 0 == 1)))
    || (decide (0x2712 ≤ index) && decide (index ≤ 0x2714) && s.odGet inst Od.LIST_ID 0 != 0)
    || (index == Od.SERVICE_RESET && s.resetRefused)
    || ((isPdoMap index || isPdoType index sub) && !bitOf 31 (s.odGet inst (pdoComm index) 1))

/-- A write of a port's block takes effect: PORT_ENABLE FALSE and PORT_PHY_CONFIG retrain the link; addresses, VLANs and the MTU
are read by the filters at each frame (R450). (DEDUCED, log 25) -/
def State.portWrite (s : State) (index sub v : Nat) : State :=
  let p := portOfIndex index
  let s1 := s.odPut 0 index sub v
  match index % 16 with
  | 0 => if v = 0 then s1.linkLost p else s1
  | 1 => let s2 := s1.linkLost p; s2.setPort p { s2.port p with removed := [] }
  | _ => s1

/-- The attestation report of a nonce, made from the state at this moment, and its signature (R355, R356). While the DRBG is halted
no signature is made (R407): there is then no report. (DESIGN CHOICE, log 20) -/
def State.attest (s : State) (p : Nat) (nonce : Bytes) : State :=
  let head := s.reportHead p nonce
  let halted := s.val Od.DRBG_STATE == 2
  let report := if halted then [] else head ++ toBE 132 (Config.signature head s.draws).toNat
  let s1 := (s.setBlob p Od.ATTEST_NONCE 0 nonce).setBlob p Od.ATTEST_REPORT 0 report
  let s2 := if halted then s1 else s1.sign
  { s2 with seals := { s2.seals with nonceHot := SMap.put s2.seals.nonceHot p s.clock.ticks } }

/-- A write to ATTEST_NONCE: a second one within 1 s on its path is refused (R355). -/
def State.writeNonce (s : State) (p : Nat) (nonce : Bytes) : Wrote :=
  let hot := match SMap.get? s.seals.nonceHot p with | some t => decide (s.clock.ticks < t + 125000000) | none => false
  if hot = true then notWritten s .moment else wrote (s.attest p nonce)

/-- WAKE_OUT under a new mode (R517). -/
def State.writeWakeMode (s : State) (v : Nat) : State :=
  { s with power := { s.power with wakeOut := decide (v = 2) && s.live } }.setVal Od.WAKE_OUT_MODE v

/-- A write to LIST_ID of a slot: 0 deletes, another value defines (R318, R319). -/
def State.writeListId (s : State) (l v : Nat) : Wrote :=
  match (if v = 0 then s.deleteList l else s.defineList l v) with
  | .ok t => wrote t
  | .error e => notWritten s e

/-- EVENT_ROUTE: EMCY of source 226 and the supervisor interrupt of 138 and 226 stay set (R557). -/
def routeWritten (src v : Nat) : Nat :=
  if src = 226 then Nat.lor v 3 else if src = 138 then Nat.lor v 1 else v

/-- The open time bins close, and BIN_WIDTH takes its value (R249). -/
def State.writeBinWidth (s : State) (v : Nat) : State :=
  ((List.range 32).foldl (fun (t : State) b => if (t.bin b).isOpen then t.closeBin b else t) s).setVal Od.BIN_WIDTH v

/-- The error field of a network is cleared (R478). -/
def State.clearErrors (s : State) (n : Nat) : State := s.setNet n { s.net n with errors := [] }

/-- A request to restore a network's defaults (Table 12.10, 0x1011 sub 2). -/
def State.askRestore (s : State) (n : Nat) : State :=
  if s.od.restoreDefaults.contains n then s
  else { s with od := { s.od with restoreDefaults := n :: s.od.restoreDefaults } }

/-- A numeric value is written: entries whose write does more than to keep the value. `fails`: the step of R603 that fails, for
VRFY. (DEDUCED, log 13; DESIGN CHOICE, log 17) -/
def State.applyNumeric (s : State) (p level inst index sub v : Nat) (fails : Option (Fin 6 × Fin 7)) : Wrote :=
  match index with
  | 0x1003 => wrote (s.clearErrors inst)
  | 0x1010 => if v = 0x65766173 then wrote s else notWritten s .range
  | 0x1011 => if v = 0x64616F6C then wrote (s.askRestore inst) else notWritten s .range
  | 0x2022 => let t := s.odPut 0 index sub v
              wrote (t.setNet (sub - 1) { t.net (sub - 1) with pendNode := some v })
  | 0x2023 => let t := s.odPut 0 index sub v
              wrote (t.setNet (sub - 1) { t.net (sub - 1) with pendRate := some v })
  | 0x2124 => wrote (s.writeWakeMode v)
  | 0x2401 => wrote s.serviceReset
  | 0x2501 => s.defineNs inst v
  | 0x2603 => wrote (s.writeBinWidth v)
  | 0x2703 => wrote (s.setEnable v)
  | 0x2711 => s.writeListId inst v
  | 0x2B02 => wrote (s.odPut inst index sub (routeWritten inst v))
  | 0x2B08 => wrote (s.raise Ev.TEST_EVENT [v])
  | 0x2B15 => wrote (if v = 1 then s.recFreeze level else s.recThaw)
  | 0x2B1A => wrote s.recFaultClear
  | 0x2C00 => wrote (s.perfSelect sub v)
  | 0x2D05 => wrote s.liveDump
  | 0x2F01 => s.fwControl p v fails
  | 0x3000 => s.askSanitise v
  | 0x3008 => s.askFormat v
  | _ =>
    if isPdoMap index then
      (match s.mapRefusal inst index sub v with
        | some r => notWritten s r
        | none => wrote (s.odPut inst index sub v))
    else if 0x2210 ≤ index ∧ index < 0x2280 then wrote (s.portWrite index sub v)
    else wrote (s.odPut inst index sub v)

/-- The bytes of an OCTET_STRING or DOMAIN entry are written. `signed`: the signature of an image header verifies. -/
def State.applyBytes (s : State) (p inst index sub off : Nat) (data : Bytes) (signed : Bool) : Wrote :=
  if index = Od.FW_IMAGE then s.fwImageWrite p off data signed
  else if index = Od.ATTEST_NONCE then s.writeNonce p data
  else wrote (s.setBlob inst index sub data)

/-- The length of the data does not match the type; a whole-valued DOMAIN takes no offset, and a trust anchor at most 2,048
bytes (R462, R464). (DESIGN CHOICE, log 17) -/
def lengthBad (index : Nat) (ty : OdTy) (off : Nat) (data : Bytes) : Bool :=
  if index = Od.FW_IMAGE then false
  else match odWidth ty with
    | some w => off != 0 || data.length != w
    | none => off != 0 || decide (2048 < data.length)

/-- A write is refused, by the rows of Table 12.5 that the entry, the path and the value decide; an entry with an order of its
own is decided by its effect. (DESIGN CHOICE, log 17) -/
def State.odRefusal (s : State) (level inst index sub off : Nat) (data : Bytes) : Except OdRefusal OdRow :=
  match odFind index sub with
  | .error e => .error e
  | .ok row =>
    match row.wr with
    | none => .error .noWrite
    | some l =>
      if level < l then .error .level
      else if lengthBad index row.ty off data then .error .length
      else if odNumeric row.ty ∧ ((row.ty = .bool ∧ 1 < beNat data) ∨ s.rangeOk index row.range (beNat data) = false) then
        .error .range
      else if s.stateRefuses inst index sub row then .error .state
      else .ok row

/-- An applied write to a stored entry is counted, and an update of the configuration store leaves both its copies valid (R404, R457,
R458). -/
def State.configWritten (s : State) : State :=
  let s1 := s.bump Od.OD_CONFIG_WRITES 1 0 64
  if s1.val Od.CONFIG_STORE_STATE = 0 then s1 else s1.setVal Od.CONFIG_STORE_STATE 0

/-- A write to an entry on a path with a level (R192, R458, R462): its refusal, or its effect; applied writes to stored entries are
counted in OD_CONFIG_WRITES. (DESIGN CHOICE, log 17) -/
def State.odWriteWith (s : State) (p level inst index sub off : Nat) (data : Bytes) (signed : Bool) (fails : Option (Fin 6 × Fin 7)) :
    Wrote :=
  match s.odRefusal level inst index sub off data with
  | .error e => notWritten s e
  | .ok row =>
    match (if odNumeric row.ty then s.applyNumeric p level inst index sub (beNat data) fails
           else s.applyBytes p inst index sub off data signed) with
    | (t, none) => wrote (if configRow row then t.configWritten else t)
    | r => r

/-- A write on a path: whether a header's signature and an image verify is the implementation's (R602, R603). -/
def State.odWrite (s : State) (p level inst index sub off : Nat) (data : Bytes) : Wrote :=
  s.odWriteWith p level inst index sub off data (Config.headerSigned ((s.fw.image ++ data).take 772)) (Config.verifyOutcome s.fw.image)

/-- An SDO server answers on a network: powered, reached, Pre-operational or Operational, configured (R468, R470, R480). -/
def State.sdoServed (s : State) (n : Nat) : Bool :=
  s.canLive n && (s.nmt n == 5 || s.nmt n == 0x7F) && s.nodeOf n != 255

/-- An access path is served: not in orphan mode (R193, R470, R503); a session while it is OPEN on 7312 or 7313 and intake is
open. (DESIGN CHOICE, log 9) -/
def State.pathServed (s : State) (p : Path) : Bool :=
  match p with
  | .supervisor => s.canPowered && !s.seam.orphan
  | .sdo n => s.sdoServed n.val
  | .wkp c =>
    let x := s.session c.val
    s.live && !s.seam.orphan && s.seam.attached && s.val Od.INTAKE_STATE == 0 && x.state == .isOpen && (x.udp == 7312 || x.udp == 7313)

/-- What a write came to is answered on its path; that of VRFY, which has begun a verification where there was none, once its steps have
run (R603). A refusal on an SDO server aborts the transfer (0x2033). (DESIGN CHOICE, log 9) -/
def answerWrite (before : FwPhase) (p : Nat) (w : Wrote) : State :=
  match w with
  | (t, none) => if t.fw.phase = .verifying ∧ before ≠ .verifying then t.seatVerify else t.answer p (.ok [])
  | (t, some r) => (if p = 1 ∨ p = 2 then t.bump Od.CNT_SDO_ABORTS 1 p else t).answer p (.refused r)

/-- An OD write on a path that is served; a change of the matcher waits for the queries bound before it.
(DESIGN CHOICE, log 9) -/
def State.pathWriteWith (s : State) (path : Path) (index sub off : Nat) (data : Bytes) (signed : Bool)
    (fails : Option (Fin 6 × Fin 7)) : State :=
  if s.pathServed path && !(matcherEntry index && s.queriesBelow (s.seq.csnLast + 1)) then
    let p := pathCode path
    answerWrite s.fw.phase p (s.odWriteWith p (s.pathLevel p) (s.windowInst p index) index sub off data signed fails)
  else s

/-- An OD write on a path. -/
def State.pathWrite (s : State) (path : Path) (index sub off : Nat) (data : Bytes) : State :=
  s.pathWriteWith path index sub off data (Config.headerSigned ((s.fw.image ++ data).take 772)) (Config.verifyOutcome s.fw.image)

/-- A read of an entry on a path that is served is answered. (DESIGN CHOICE, log 9) -/
def State.pathRead (s : State) (path : Path) (index sub : Nat) : State :=
  if s.pathServed path then
    let p := pathCode path
    match s.odRead p (s.pathLevel p) (s.windowInst p index) index sub 0 (2 ^ 40) with
    | (t, .ok v) => t.answer p (.ok v.2)
    | (t, .error r) => (if p = 1 ∨ p = 2 then t.bump Od.CNT_SDO_ABORTS 1 p else t).answer p (.refused r)
  else s

end Sys2Proof.Machine
end

