-- ==== Sys2Proof/Machine/OdRows.lean ====
section
/-! DEFINITION. Meanings of LIST, OD_READ and OD_WRITE (R192, R463 to R465), of the rows that are a write or a read of one
entry on an access path, and of VALUE_EXPIRY. -/

namespace Sys2Proof.Machine

/-- The namespace-0 status of a refusal (Table 12.5). (DESIGN CHOICE, log 17) -/
def odStatus : OdRefusal → Nat
  | .noEntry => St.NOT_FOUND
  | .noSub => St.NOT_FOUND
  | .noRead => St.NOT_PERMITTED
  | .noWrite => St.NOT_PERMITTED
  | .level => St.NOT_PERMITTED
  | .length => St.MALFORMED
  | .range => St.MALFORMED
  | .state => St.NOT_PERMITTED
  | .moment => St.RETRY_LATER
  | .tooLarge => St.MALFORMED
  | .notMappable => St.MALFORMED
  | .pdoTooLong => St.MALFORMED
  | .timeout => St.MALFORMED
  | .unknownCommand => St.MALFORMED
  | .blockCrc => St.MALFORMED

/-- The access path of a command: its session's, or the supervisor's. -/
def slotPath (x : Slot) : Nat := if x.session = 0 then 0 else 16 + x.context

/-- Index and sub-index of a namespace-0 key (R463). -/
def odKeyOf (key : Bytes) : Nat × Nat := (fieldAt key 0 2, fieldAt key 2 1)

/-- The namespace-0 key of an entry (R463). -/
def odKeyBytes (index sub : Nat) : Bytes := toBE 2 index ++ toBE 1 sub

/-- The current length of an entry's value in bytes (R465). -/
def State.odLength (s : State) (p index sub : Nat) (ty : OdTy) : Nat :=
  match odWidth ty with
  | some w => w
  | none =>
    if index = Od.DUMP_DATA then ((s.dumpOf? p).map (fun d => d.kib * 1024)).getD 0
    else (s.odValue p (s.windowInst p index) index sub ty).length

/-- The object that an OD command's window selects (R461). -/
def State.windowOf (s : State) (x : Slot) (index : Nat) : Nat := x.window.getD (s.windowInst (slotPath x) index)

/-- A selector of a path is about to be written: the commands of the path that are bound with a lower CSN keep the object that their
window selects (R461). -/
def State.keepWindows (s : State) (x : Slot) (index : Nat) : State :=
  if selectors.contains index then
    { s with seq := { s.seq with slots := s.seq.slots.map (fun e =>
        let c := parseCmd (assemble e.2.frags)
        (e.1, if e.2.csn < x.csn ∧ slotPath e.2 = slotPath x ∧ (e.2.state = .bound ∨ e.2.state = .executing)
                ∧ (c.opcode = 0x60 ∨ c.opcode = 0x61) then { e.2 with window := some (s.windowOf e.2 (odKeyOf c.key).1) }
              else e.2)) } }
  else s

/-- A path of a level may read an entry (R459). -/
def OdRow.readableAt (r : OdRow) (level : Nat) : Bool := match r.rd with | some l => decide (l ≤ level) | none => false

/-- The keys of namespace 0 after a position that a LIST finds: the entries that the path may read, by key (R465).
(DESIGN CHOICE, log 17) -/
def State.odEntries (s : State) (x : Slot) (c : Cmd) (after : Option Bytes) : List (Bytes × Bytes) :=
  (odCells (·.readableAt x.level)).filterMap (fun e =>
    let k := odKeyBytes e.1 e.2.1
    if inBounds (c.param 0 1) c.key c.data k && (match after with | none => true | some a => keyLt a k)
    then some (k, listEntry k 0 0 (s.odLength (slotPath x) e.1 e.2.1 e.2.2.ty)) else none)

/-- The keys that a LIST finds after a position, in a user namespace or in namespace 0. -/
def State.entriesAfter (s : State) (x : Slot) (c : Cmd) (after : Option Bytes) : List (Bytes × Bytes) :=
  if c.ns = 0 then s.odEntries x c after else s.userEntries x c after

/-- LIST in a user namespace, or in namespace 0. -/
def listEffect (x : Slot) (c : Cmd) (s : State) : State × Reply := s.listWith x c (s.entriesAfter x c)

/-- LIST (R169 to R172, R465). In namespace 0 the supervisor serves it, which orphan mode keeps from it.
(DEDUCED, log 7; DESIGN CHOICE, log 18) -/
def execList (slot : Fin 512) (s : State) : Out :=
  if isOdOp (parseCmd (assemble (s.slot slot.val).frags)) ∧ s.seam.orphan = true then .next s
  else .next (s.runKv slot.val (isOp 0x07) listEffect)

/-- What OD_READ answers (R192, R459, R462). -/
def odReadEffect (x : Slot) (c : Cmd) (s : State) : State × Reply :=
  let p := slotPath x
  let (i, k) := odKeyOf c.key
  if c.key.length ≠ 3 then (s, .fail St.NOT_FOUND)
  else match s.odRead p x.level (s.windowOf x i) i k (c.param 0 8) (c.param 8 8) with
    | (t, .error e) => (t, .fail (odStatus e))
    | (t, .ok v) => (t, dataReply (toBE 8 v.1) v.2 0)

/-- OD_READ (R192). (DEDUCED, log 7; DESIGN CHOICE, log 18) -/
def execOdRead (slot : Fin 512) (s : State) : Out :=
  if s.seam.orphan = true then .next s else .next (s.runKv slot.val (isOp 0x60) odReadEffect)

/-- The second of R355 of a nonce that came on a path: a nonce that is bound has passed it (R157, R355). -/
def State.pastNonce (s : State) (p index : Nat) : State :=
  if index = Od.ATTEST_NONCE then { s with seals := { s.seals with nonceHot := SMap.erase s.seals.nonceHot p } } else s

/-- What OD_WRITE does and answers (R192, R462 to R464); a write that takes effect is answered again, not executed again
(Table 3.12). (DESIGN CHOICE, log 18) -/
def odWriteEffect (x : Slot) (c : Cmd) (s : State) : State × Reply :=
  let p := slotPath x
  let (i, k) := odKeyOf c.key
  if c.key.length ≠ 3 then (s, .fail St.NOT_FOUND)
  else match ((s.pastNonce p i).keepWindows x i).odWrite p x.level (s.windowOf x i) i k (c.param 0 8) c.data with
    | (t, none) => (t, { effect := some { type := 0x09 } })
    | (t, some e) => (t, .fail (odStatus e))

/-- What an OD_WRITE of VRFY that is accepted comes to: the verification has begun, and goes on in the command's slot (R598,
R603). -/
def State.verifyBegun? (s : State) (x : Slot) (c : Cmd) : Option State :=
  if x.state = .executing ∧ x.retry = none ∧ c.opcode = 0x61 ∧ c.key = odKeyBytes Od.FW_CONTROL 0 ∧ s.fw.phase = .received
      ∧ s.fencesSlot x = none ∧ s.gate x c = none then
    match s.odWrite (slotPath x) x.level 0 Od.FW_CONTROL 0 (c.param 0 8) c.data with
    | (t, none) => if t.fw.phase = .verifying then some { t with fw := { t.fw with verify := t.fw.verify.map (fun v => { v with path := none }) } }
                   else none
    | _ => none
  else none

/-- OD_WRITE (R192, R458, R603); a change of the matcher waits for every TOKEN_QUERY with a lower CSN (R325).
(DEDUCED, log 7; DESIGN CHOICE, log 18) -/
def execOdWrite (slot : Fin 512) (s : State) : Out :=
  let x := s.slot slot.val
  let c := parseCmd (assemble x.frags)
  if s.seam.orphan = true ∨ x.routine ≠ none ∨ (matcherEntry (odKeyOf c.key).1 && s.queriesBelow x.csn) = true then .next s
  else match s.verifyBegun? x c with
    | some t => .next (t.setSlot slot.val { x with routine := some .verify })
    | none => .next (s.runKv slot.val (isOp 0x61) odWriteEffect)

/-- SERVICE_RESET (R222). -/
def execServiceReset (path : Path) (value : Byte) (s : State) : Out := .next (s.pathWrite path Od.SERVICE_RESET 0 0 [value])

/-- BIN_WIDTH_WRITE (R249). -/
def execBinWidthWrite (path : Path) (seconds : BitVec 32) (s : State) : Out :=
  .next (s.pathWrite path Od.BIN_WIDTH 0 0 (toBE 4 seconds.toNat))

/-- PORT_TSQ_READ (R439). -/
def execPortTsqRead (path : Path) (port : Fin 7) (s : State) : Out := .next (s.pathRead path (portIndex port.val 13) 0)

/-- PORT_STATS_CLEAR (R434). -/
def execPortStatsClear (path : Path) (port : Fin 7) (sub : Fin 53) (value : BitVec 32) (s : State) : Out :=
  .next (s.pathWrite path (portIndex port.val 12) sub.val 0 (toBE 4 value.toNat))

/-- PORT_CONFIG_WRITE (R450). -/
def execPortConfigWrite (path : Path) (port : Fin 7) (offset : Fin 16) (sub : Byte) (value : Bytes) (s : State) : Out :=
  .next (s.pathWrite path (portIndex port.val offset.val) sub.toNat 0 value)

/-- REC_FREEZE (R566). -/
def execRecFreeze (path : Path) (s : State) : Out := .next (s.pathWrite path Od.REC_FREEZE 0 0 [1])

/-- REC_THAW (R566). -/
def execRecThaw (path : Path) (s : State) : Out := .next (s.pathWrite path Od.REC_FREEZE 0 0 [0])

/-- REC_READ (R565). -/
def execRecRead (path : Path) (s : State) : Out := .next (s.pathRead path Od.REC_READ 0)

/-- REC_FAULT_CLEAR (R568). -/
def execRecFaultClear (path : Path) (s : State) : Out := .next (s.pathWrite path Od.REC_FAULT_CLEAR 0 0 [1])

/-- EVENT_TEST: TEST_EVENT is raised with the value written (Table 16.11). -/
def execEventTest (path : Path) (value : BitVec 32) (s : State) : Out :=
  .next (s.pathWrite path Od.EVENT_TEST 0 0 (toBE 4 value.toNat))

/-- PERF_SELECT (R569). -/
def execPerfSelect (path : Path) (counter : Fin 65) (event : Byte) (s : State) : Out :=
  .next (s.pathWrite path Od.PERF_SELECT counter.val 0 [event])

/-- DUMP_REQUEST (R572). -/
def execDumpRequest (path : Path) (value : BitVec 32) (s : State) : Out :=
  .next (s.pathWrite path Od.DUMP_REQUEST 0 0 (toBE 4 value.toNat))

/-- NS_DEFINE: 1 is written to NS_STATE of the namespace selected on the path (R43). -/
def execNsDefine (path : Path) (s : State) : Out := .next (s.pathWrite path Od.NS_STATE 0 0 [1])

/-- SANITISE_REQUEST (R231). -/
def execSanitiseRequest (path : Path) (value : BitVec 32) (s : State) : Out :=
  .next (s.pathWrite path Od.SANITISE_REQUEST 0 0 (toBE 4 value.toNat))

/-- FORMAT_REQUEST (R234). -/
def execFormatRequest (path : Path) (value : BitVec 32) (s : State) : Out :=
  .next (s.pathWrite path Od.FORMAT_REQUEST 0 0 (toBE 4 value.toNat))

/-- ATTEST_NONCE (R355). -/
def execAttestNonce (path : Path) (nonce : Bytes) (s : State) : Out := .next (s.pathWrite path Od.ATTEST_NONCE 0 0 nonce)

/-- LIST_DEFINE: a LIST_ID is written to the slot selected on the path (R318). -/
def execListDefine (path : Path) (listId : BitVec 16) (s : State) : Out :=
  .next (s.pathWrite path Od.LIST_ID 0 0 (toBE 2 listId.toNat))

/-- LIST_DELETE: a LIST_ID of 0 is written (R319). -/
def execListDelete (path : Path) (s : State) : Out := .next (s.pathWrite path Od.LIST_ID 0 0 [0, 0])

/-- MATCH_ENABLE_WRITE (R321). -/
def execMatchEnableWrite (path : Path) (value : BitVec 64) (s : State) : Out :=
  .next (s.pathWrite path Od.MATCH_ENABLE 0 0 (toBE 8 value.toNat))

/-- OD_ENTRY_WRITE (R458): the value's bytes, most significant first (R11). -/
def execOdEntryWrite (path : Path) (index : BitVec 16) (sub : Byte) (value : Bytes) (s : State) : Out :=
  .next (s.pathWrite path index.toNat sub.toNat 0 value)

/-- PRE_DEFINED_ERROR_FIELD_CLEAR (R478). -/
def execPreDefinedErrorFieldClear (path : Path) (s : State) : Out :=
  .next (s.pathWrite path Od.PRE_DEFINED_ERROR_FIELD 0 0 [0])

/-- FW_BEGN: BEGN is written to FW_CONTROL (R598). -/
def execFwBegn (path : Path) (s : State) : Out := .next (s.pathWrite path Od.FW_CONTROL 0 0 (toBE 4 0x4245474E))

/-- FW_IMAGE_WRITE (R600 to R602); `signatureOk`: the header's signature verifies. -/
def execFwImageWrite (path : Path) (offset : BitVec 64) (data : Bytes) (signatureOk : Bool) (s : State) : Out :=
  .next (s.pathWriteWith path Od.FW_IMAGE 0 offset.toNat data signatureOk none)

/-- FW_VRFY: VRFY is written; `failStep` is the first step of R603 that fails, with its part (R598, R603). -/
def execFwVrfy (path : Path) (failStep : Option (Fin 6 × Fin 7)) (s : State) : Out :=
  .next (s.pathWriteWith path Od.FW_CONTROL 0 0 (toBE 4 0x56524659) false failStep)

/-- FW_ACTV: ACTV is written (R598, R606). -/
def execFwActv (path : Path) (s : State) : Out := .next (s.pathWrite path Od.FW_CONTROL 0 0 (toBE 4 0x41435456))

/-- FW_CONF: CONF is written (R598, R612). -/
def execFwConf (path : Path) (s : State) : Out := .next (s.pathWrite path Od.FW_CONTROL 0 0 (toBE 4 0x434F4E46))

/-- FW_ABRT: ABRT is written (R598). -/
def execFwAbrt (path : Path) (s : State) : Out := .next (s.pathWrite path Od.FW_CONTROL 0 0 (toBE 4 0x41425254))

/-- SEAM_STATE_READ (Table 13.6). -/
def execSeamStateRead (path : Path) (s : State) : Out := .next (s.pathRead path Od.SEAM_STATE 0)

/-- VALUE_EXPIRY: the expiry clock reaches the expiry time of a key's value (R81); DT has come at least so far (R79).
(DEDUCED, log 21) -/
def execValueExpiry (ns : BitVec 12) (key : Bytes) (s : State) : Out :=
  match s.newest.find? (fun v => v.ns == ns.toNat && v.key == key) with
  | none => .next s
  | some v =>
    match v.expiry with
    | none => .next s
    | some e =>
      if s.clock.running = true ∧ s.clock.expiry < e then .next (s.setDt (max s.clock.dt e)).prune else .next s

end Sys2Proof.Machine
end

