-- ==== Sys2Proof/Machine/Can.lean ====
section
/-! DEFINITION. Meanings of the CAN networks' rows (R466 to R480): NMT, SDO, SYNC, TIME, PDOs, heartbeat, EMCY, the error states
of the controllers and LSS. -/

namespace Sys2Proof.Machine

/-- A network's messages are served, LSS apart: the supervisor reaches it, and its node is configured (R470, R480). -/
def State.canServed (s : State) (n : Nat) : Bool := s.canLive n && s.nodeOf n != 255

/-- An NMT command reaches this node: it names every node (0) or this one. -/
def State.nmtFor (s : State) (n : Nat) (node : Byte) : Bool := s.canServed n && (node == 0 || node.toNat == s.nodeOf n)

/-- CAN_TIME: a TIME message is used for device time, where COB_ID_TIME enables the consumer (R468, R475). -/
def execCanTime (net : Fin 2) (offsetNs : Int) (s : State) : Out :=
  let n := net.val
  if s.sdoServed n ∧ bitOf 31 (s.odGet (s.netEntries n) Od.COB_ID_TIME 0) then .next (s.timeMessage offsetNs) else .next s

/-- NMT_START: Operational (R468). -/
def execNmtStart (net : Fin 2) (node : Byte) (s : State) : Out :=
  if s.nmtFor net.val node then .next ((s.setNmt net.val 5).emcyDrainAll) else .next s

/-- NMT_STOP: Stopped (R468). -/
def execNmtStop (net : Fin 2) (node : Byte) (s : State) : Out :=
  if s.nmtFor net.val node then .next (s.setNmt net.val 4) else .next s

/-- NMT_ENTER_PRE_OPERATIONAL (R468). -/
def execNmtEnterPreOperational (net : Fin 2) (node : Byte) (s : State) : Out :=
  if s.nmtFor net.val node then .next ((s.setNmt net.val 0x7F).emcyDrainAll) else .next s

/-- The volatile counters of a network are cleared (R469). -/
def State.clearCanCounters (s : State) (n : Nat) : State :=
  [Od.CNT_CAN_BUS_OFF, Od.CNT_EMCY_LOST, Od.CNT_RPDO_REFUSED, Od.CNT_SDO_ABORTS].foldl
    (fun (t : State) i => t.odPut 0 i (n + 1) 0) s

/-- NMT_RESET_NODE: as reset communication, and the network's volatile counters are cleared (R469). -/
def execNmtResetNode (net : Fin 2) (node : Byte) (s : State) : Out :=
  let n := net.val
  if s.nmtFor n node then .next ((s.resetNets n).foldl State.clearCanCounters (s.canReset n).emcyDrainAll)
  else .next s

/-- NMT_RESET_COMMUNICATION (R469). -/
def execNmtResetCommunication (net : Fin 2) (node : Byte) (s : State) : Out :=
  let n := net.val
  if s.nmtFor n node then .next (s.canReset n).emcyDrainAll else .next s

/-- A transfer ends with an abort (R471, 0x2033); its refusal is the answer. -/
def State.sdoAbort (s : State) (n : Nat) (r : OdRefusal) : State :=
  ((s.setNet n { s.net n with sdo := none }).bump Od.CNT_SDO_ABORTS 1 (n + 1)).answer (1 + n) (.refused r)

/-- An initiate request aborts the transfer that is active, with 0x08000000 (R471). (DESIGN CHOICE, log 16) -/
def State.sdoBegin (s : State) (n : Nat) : State := if (s.net n).sdo.isSome then s.sdoAbort n .tooLarge else s

/-- A value between the byte order of CAN and most significant byte first (R453). (DEDUCED, log 11) -/
def canOrder (index sub : Nat) (data : Bytes) : Bytes :=
  match odFind index sub with
  | .ok row => if odNumeric row.ty then data.reverse else data
  | .error _ => data

/-- A download is complete: the write takes effect, at the level and on the object of its initiation (R455, R458, R461, R471).
(DESIGN CHOICE, log 16) -/
def State.sdoFinish (s : State) (n : Nat) (t : Sdo) : State :=
  let s1 := s.setNet n { s.net n with sdo := none }
  let sizeBad := match t.size with | some k => k != t.data.length | none => false
  if sizeBad then s1.sdoAbort n .length
  else
    answerWrite s1.fw.phase (1 + n) (s1.odWrite (1 + n) t.level t.key t.index t.sub 0 (canOrder t.index t.sub t.data))

/-- What an initiation alone refuses (R462): the entry, its access, the level. (DESIGN CHOICE, log 16) -/
def initRefusal (upload : Bool) (level index sub : Nat) : Option OdRefusal :=
  match odFind index sub with
  | .error e => some e
  | .ok row =>
    match (if upload then row.rd else row.wr) with
    | none => some (if upload then .noRead else .noWrite)
    | some l => if level < l then some .level else none

/-- SDO_DOWNLOAD_INITIATE (R471); an expedited download is complete at once. A change of the matcher waits for its queries.
(DESIGN CHOICE, log 16) -/
def execSdoDownloadInitiate (net : Fin 2) (index : BitVec 16) (sub : Byte) (size : Option (BitVec 32)) (block : Bool)
    (expedited : Bytes) (s : State) : Out :=
  let n := net.val
  if s.sdoServed n = false ∨ (matcherEntry index.toNat && s.queriesBelow (s.seq.csnLast + 1)) = true then .next s
  else
    let s1 := s.sdoBegin n
    let level := s1.pathLevel (1 + n)
    match initRefusal false level index.toNat sub.toNat with
    | some r => .next (s1.sdoAbort n r)
    | none =>
      let t : Sdo := { upload := false, key := s1.windowInst (1 + n) index.toNat, index := index.toNat, sub := sub.toNat
                       level := level, size := size.map (·.toNat), block := block, data := expedited }
      .next (if expedited = [] then s1.setNet n { s1.net n with sdo := some t } else s1.sdoFinish n t)

/-- SDO_UPLOAD_INITIATE: the value is read now; up to four bytes leave at once (R471). (DESIGN CHOICE, log 16) -/
def execSdoUploadInitiate (net : Fin 2) (index : BitVec 16) (sub : Byte) (s : State) : Out :=
  let n := net.val
  let i := index.toNat
  let k := sub.toNat
  if s.sdoServed n = false then .next s
  else
    let s1 := s.sdoBegin n
    let level := s1.pathLevel (1 + n)
    match s1.odRead (1 + n) level (s1.windowInst (1 + n) i) i k 0 1048576 with
    | (_, .error e) => .next (s1.sdoAbort n e)
    | (t, .ok v) =>
      if 1048576 < v.1 then .next (s1.sdoAbort n .tooLarge)
      else
        let d := canOrder i k v.2
        if d.length ≤ 4 then .next (t.answer (1 + n) (.ok d))
        else .next (t.setNet n { t.net n with sdo := some { upload := true, key := s1.windowInst (1 + n) i, index := i, sub := k
                                                            level := level, size := some v.1, block := false, data := d } })

/-- SDO_SEGMENT: a segment or block of the active transfer; the last one ends it (R458, R471). (DESIGN CHOICE, log 16) -/
def execSdoSegment (net : Fin 2) (data : Bytes) (last crcOk : Bool) (s : State) : Out :=
  let n := net.val
  if s.sdoServed n = false then .next s
  else match (s.net n).sdo with
    | none => .next (s.answer (1 + n) (.refused .unknownCommand))
    | some t =>
      if t.upload then
        .next (if last then (s.setNet n { s.net n with sdo := none }).answer (1 + n) (.ok t.data) else s)
      else
        let t1 := { t with data := t.data ++ data }
        if last = false then .next (s.setNet n { s.net n with sdo := some t1 })
        else if t.block = true ∧ crcOk = false then .next (s.sdoAbort n .blockCrc)
        else if matcherEntry t.index && s.queriesBelow (s.seq.csnLast + 1) then .next s
        else .next (s.sdoFinish n t1)

/-- SDO_ABORT_RECEIVED (R471). -/
def execSdoAbortReceived (net : Fin 2) (s : State) : Out :=
  let n := net.val
  if s.sdoServed n = true ∧ (s.net n).sdo.isSome then
    .next ((s.setNet n { s.net n with sdo := none }).bump Od.CNT_SDO_ABORTS 1 (n + 1))
  else .next s

/-- SDO_TIMEOUT: a transfer idle for 1,000 ms (R471). -/
def execSdoTimeout (net : Fin 2) (s : State) : Out :=
  if (s.net net.val).sdo.isSome then .next (s.sdoAbort net.val .timeout) else .next s

/-- The value of a mapped entry as a PDO carries it: its bits and their number (R472). (DESIGN CHOICE, log 15) -/
def State.mapValue (s : State) (p w : Nat) : Nat × Nat :=
  let (i, k, bits) := mapWord w
  match odFind i k with
  | .ok row => (beNat (s.odValue p (s.windowInst p i) i k row.ty) % 2 ^ bits, bits)
  | .error _ => (0, bits)

/-- Mapped values one after another, the first in the lowest bits (R453). -/
def packBits : List (Nat × Nat) → Nat
  | [] => 0
  | (v, bits) :: l => v + 2 ^ bits * packBits l

/-- The data of a TPDO at one sampling. -/
def State.tpdoData (s : State) (e k : Nat) : Bytes :=
  let ws := s.mapping e (0x1A00 + k)
  toLE (ceilDiv (mapLength ws) 8) (packBits (ws.map (s.mapValue (1 + e))))

/-- A TPDO of a network is valid and maps something, and PDOs are served (R468). -/
def State.tpdoOn (s : State) (n k : Nat) : Bool :=
  let e := s.netEntries n
  s.canServed n && s.nmt n == 5 && !bitOf 31 (s.odGet e (0x1800 + k) 1) && s.odGet e (0x1A00 + k) 0 != 0

/-- A TPDO leaves with the values of one sampling. -/
def State.sendTpdo (s : State) (n k : Nat) : State :=
  let e := s.netEntries n
  let d := s.tpdoData e k
  let s1 := s.canSendBoth n (s.odGet e (0x1800 + k) 1) d
  s1.setNet e { s1.net e with lastSent := SMap.put (s1.net e).lastSent k d, sentAt := SMap.put (s1.net e).sentAt k s1.clock.ticks }

/-- A TPDO's values differ from those last sent. (DESIGN CHOICE, log 15) -/
def State.tpdoChanged (s : State) (e k : Nat) : Bool := SMap.get? (s.net e).lastSent k != some (s.tpdoData e k)

/-- The inhibit time of a TPDO runs: units of 100 µs, 12,500 ticks (R473). (DESIGN CHOICE, log 15) -/
def State.tpdoInhibited (s : State) (e k : Nat) : Bool :=
  match SMap.get? (s.net e).sentAt k with
  | some t => decide (s.clock.ticks < t + 12500 * s.odGet e (0x1800 + k) 3)
  | none => false

/-- A SYNC for one TPDO (R473). -/
def State.syncTpdo (n : Nat) (s : State) (k : Nat) : State :=
  let e := s.netEntries n
  let ty := s.odGet e (0x1800 + k) 2
  if !s.tpdoOn n k || 240 < ty then s
  else if ty = 0 then (if s.tpdoChanged e k then s.sendTpdo n k else s)
  else
    let c := SMap.getD (s.net e).syncs k 0 + 1
    if c < ty then s.setNet e { s.net e with syncs := SMap.put (s.net e).syncs k c }
    else (s.setNet e { s.net e with syncs := SMap.put (s.net e).syncs k 0 }).sendTpdo n k

/-- A write that nobody is answered for: a verification that it has begun takes its slot (R603). -/
def State.seatBegun (s : State) (before : FwPhase) : State :=
  if s.fw.phase = .verifying ∧ before ≠ .verifying then
    let t : State := { s with fw := { s.fw with verify := s.fw.verify.map (fun v => { v with path := none }) } }
    t.seatVerify
  else s

/-- The mapped entries of an RPDO are written one after another; refused values are skipped and counted (R474). -/
def State.writeMapped (s : State) (n : Nat) : List Nat → Nat → State
  | [], _ => s
  | w :: ws, v =>
    let (i, k, bits) := mapWord w
    let p := 1 + n
    let r := s.odWrite p (s.pathLevel p) (s.windowInst p i) i k 0 (toBE (ceilDiv bits 8) (v % 2 ^ bits))
    let s1 := match r.2 with | none => r.1.seatBegun s.fw.phase | some _ => r.1.bump Od.CNT_RPDO_REFUSED 1 (n + 1)
    State.writeMapped s1 n ws (v / 2 ^ bits)

/-- An RPDO is applied. -/
def State.applyRpdo (s : State) (n k : Nat) (data : Bytes) : State :=
  s.writeMapped n (s.mapping (s.netEntries n) (0x1600 + k)) (leNat data)

/-- An RPDO would change the matcher before a query with a lower CSN has finished (R325). (DESIGN CHOICE, log 15) -/
def State.rpdoHeld (s : State) (e k : Nat) : Bool :=
  (s.mapping e (0x1600 + k)).any (fun w => matcherEntry (w / 65536)) && s.queriesBelow (s.seq.csnLast + 1)

/-- An EMCY of one network; in mode 1 it leaves on both (R467). (DEDUCED, log 13) -/
def State.emcyNet (s : State) (n code : Nat) (five : Bytes) : State :=
  if (s.net 1).mode = 1 then s.emcyAll code five else s.emcy n code five

/-- The synchronous RPDOs that wait are applied, in the order of their numbers (R474). -/
def State.applyPending (s : State) (n : Nat) : State :=
  let e := s.netEntries n
  let l := (s.net e).rpdos
  l.foldl (fun (t : State) q => t.applyRpdo n q.1 q.2) (s.setNet e { s.net e with rpdos := [] })

/-- SYNC (R473 to R475): PDOs are served in Operational only. (DESIGN CHOICE, log 15) -/
def execSync (net : Fin 2) (s : State) : Out :=
  let n := net.val
  let e := s.netEntries n
  if s.canServed n = false ∨ s.nmt n ≠ 5 ∨ ((s.net e).rpdos.any (fun q => s.rpdoHeld e q.1)) = true then .next s
  else .next (([0, 1, 2, 3, 4, 5, 6, 7].foldl (State.syncTpdo n) (s.applyPending n)).draw)

/-- RPDO (R474, Table 12.7). -/
def execRpdo (net : Fin 2) (number : Fin 4) (data : Bytes) (s : State) : Out :=
  let n := net.val
  let k := number.val
  let e := s.netEntries n
  let len := mapLength (s.mapping e (0x1600 + k))
  let five : Bytes := [BitVec.ofNat 8 (k + 1), 0, 0, 0, 0]
  if s.canServed n = false ∨ s.nmt n ≠ 5 ∨ bitOf 31 (s.odGet e (0x1400 + k) 1) = true ∨ s.rpdoHeld e k = true then .next s
  else if 8 * data.length < len then .next (s.emcyNet n 0x8210 five)
  else
    let s1 := if 240 < s.odGet e (0x1400 + k) 2 then s.applyRpdo n k data
      else s.setNet e { s.net e with rpdos := SMap.put (s.net e).rpdos k data }
    .next (if ceilDiv len 8 < data.length then s1.emcyNet n 0x8220 five else s1)

/-- A sampling for one TPDO of type 254 or 255 (R473). -/
def State.sampleTpdo (n : Nat) (s : State) (k : Nat) : State :=
  let e := s.netEntries n
  if s.tpdoOn n k && 240 < s.odGet e (0x1800 + k) 2 && s.tpdoChanged e k && !s.tpdoInhibited e k then s.sendTpdo n k else s

/-- TPDO_SAMPLE: every 10 ms (R473). (DESIGN CHOICE, log 15) -/
def execTpdoSample (net : Fin 2) (s : State) : Out :=
  .next (([0, 1, 2, 3, 4, 5, 6, 7].foldl (State.sampleTpdo net.val) s).draw)

/-- TPDO_EVENT_TIMER (R473). (DESIGN CHOICE, log 15) -/
def execTpdoEventTimer (net : Fin 2) (number : Fin 8) (s : State) : Out :=
  let n := net.val
  let k := number.val
  let e := s.netEntries n
  if s.tpdoOn n k && 240 < s.odGet e (0x1800 + k) 2 && s.odGet e (0x1800 + k) 5 != 0 then .next (s.sendTpdo n k).draw else .next s

/-- HEARTBEAT_TIMER (R470). -/
def execHeartbeatTimer (net : Fin 2) (s : State) : Out :=
  let n := net.val
  if s.canServed n ∧ s.nmt n ≠ 0 ∧ s.odGet (s.netEntries n) Od.PRODUCER_HEARTBEAT_TIME 0 ≠ 0 then
    .next (s.canSendBoth n (0x700 + s.nodeOf n) [BitVec.ofNat 8 (s.nmt n)])
  else .next s

/-- EMCY_INHIBIT_EXPIRY: the next queued EMCY leaves (R478). -/
def execEmcyInhibitExpiry (net : Fin 2) (s : State) : Out :=
  let n := net.val
  .next ((s.setNet n { s.net n with inhibited := false }).emcyDrainAll)

/-- CAN_ERROR_PASSIVE (R477, Table 12.7). -/
def execCanErrorPassive (net : Fin 2) (tec rec : Byte) (s : State) : Out :=
  let n := net.val
  if s.canPowered = true ∧ (s.net n).busOff = false then
    .next ((s.setNet n { s.net n with passive := true }).emcyNet n 0x8120 [tec, rec, 0, 0, 0])
  else .next s

/-- CAN_ERROR_ACTIVE: bit 4 clears, and EMCY 0x0000 follows when the register returns to 0 (R476, R477).
(DEDUCED, log 13) -/
def execCanErrorActive (net : Fin 2) (s : State) : Out :=
  let n := net.val
  if s.canPowered = true ∧ (s.net n).busOff = false then
    .next ((s.setNet n { s.net n with passive := false }).emcyClear s n)
  else .next s

/-- CAN_BUS_OFF (R477). -/
def execCanBusOff (net : Fin 2) (s : State) : Out :=
  let n := net.val
  if s.canPowered then .next (s.setNet n { s.net n with busOff := true, passive := false }) else .next s

/-- CAN_BUS_OFF_RECOVERY: the controller rejoins, error active; the EMCYs that waited follow (R479). (DEDUCED, log 13) -/
def execCanBusOffRecovery (net : Fin 2) (s : State) : Out :=
  let n := net.val
  if s.canPowered = true ∧ (s.net n).busOff = true then
    let s1 := (s.setNet n { s.net n with busOff := false }).bump Od.CNT_CAN_BUS_OFF 1 (n + 1)
    let s2 := s1.emcyNet n 0x8140 [BitVec.ofNat 8 (s1.odGet 0 Od.CNT_CAN_BUS_OFF (n + 1)), 0, 0, 0, 0]
    .next ((s2.emcyClear s n).emcyDrainAll)
  else .next s

/-- CAN_RX_OVERRUN (Table 12.7). -/
def execCanRxOverrun (net : Fin 2) (lost : Nat) (s : State) : Out :=
  if s.canPowered then .next (s.emcyNet net.val 0x8110 [BitVec.ofNat 8 (min lost 255), 0, 0, 0, 0]) else .next s

/-- LSS is served on a network in every NMT state; not on CAN2 in mode 1 (R467, R468, R480). (PRESUMED, log 14) -/
def State.lssServed (s : State) (n : Nat) : Bool := s.canLive n && !(n == 1 && (s.net 1).mode == 1)

/-- A word of the LSS address: IDENTITY_OBJECT sub `k` (R480). -/
def State.lssWord (s : State) (n k : Nat) : Nat := s.odNum (1 + n) n Od.IDENTITY_OBJECT k

/-- The LSS state of a network set. -/
def State.setLss (s : State) (n : Nat) (l : LssState) : State := s.setNet n { s.net n with lss := l }

/-- LSS commands that configure are served in the LSS configuration state. -/
def State.lssConfiguring (s : State) (n : Nat) : Bool := s.lssServed n && (s.net n).lss == .configuration

/-- LSS_SWITCH_STATE: globally, or the node with the LSS address named (R480). -/
def execLssSwitchState (net : Fin 2) (configure : Bool) (address : Option (List (BitVec 32))) (s : State) : Out :=
  let n := net.val
  if s.lssServed n = false then .next s
  else match address with
    | none => .next (s.setLss n (if configure then .configuration else .waiting))
    | some a =>
      if a.map (·.toNat) = [s.lssWord n 1, s.lssWord n 2, s.lssWord n 3, s.lssWord n 4] then
        .next ((s.setLss n .configuration).emit (.lss n 0 0))
      else .next s

/-- LSS_CONFIGURE_NODE_ID (R480). -/
def execLssConfigureNodeId (net : Fin 2) (node : Byte) (s : State) : Out :=
  let n := net.val
  let v := node.toNat
  if s.lssConfiguring n = false then .next s
  else if (1 ≤ v ∧ v ≤ 127) ∨ v = 255 then
    .next ((s.setNet n { s.net n with pendNode := some v }).emit (.lss n 0 0))
  else .next (s.emit (.lss n 1 0))

/-- The bit rate of an index of LSS table 0 (R480). (PRESUMED, log 14) -/
def lssRate? (index : Nat) : Option Nat :=
  if index = 0 then some 1000 else if index = 2 then some 500 else if index = 3 then some 250 else if index = 4 then some 125 else none

/-- LSS_CONFIGURE_BIT_TIMING (R480). -/
def execLssConfigureBitTiming (net : Fin 2) (table index : Byte) (s : State) : Out :=
  let n := net.val
  if s.lssConfiguring n = false then .next s
  else match (if table = 0 then lssRate? index.toNat else none) with
    | some r => .next ((s.setNet n { s.net n with pendRate := some r }).emit (.lss n 0 0))
    | none => .next (s.emit (.lss n 1 0))

/-- LSS_ACTIVATE_BIT_TIMING: the configured bit rate is in force (R480). (PRESUMED, log 14) -/
def execLssActivateBitTiming (net : Fin 2) (_delayMs : BitVec 16) (s : State) : Out :=
  let n := net.val
  if s.lssConfiguring n then
    .next (s.setNet n { s.net n with rate := (s.net n).pendRate.getD (s.net n).rate, pendRate := none })
  else .next s

/-- LSS_STORE_CONFIGURATION: CAN1's node-ID and bit rate go to the configuration store (R480). (PRESUMED, log 14) -/
def execLssStoreConfiguration (net : Fin 2) (s : State) : Out :=
  let n := net.val
  let x := s.net 0
  if s.lssConfiguring n then
    .next ((((s.odPut 0 Od.CAN_NODE_ID 1 (x.pendNode.getD x.node)).odPut 0 Od.CAN_BITRATE 1 (x.pendRate.getD x.rate))).emit (.lss n 0 0))
  else .next s

/-- LSS_INQUIRE: 0 to 3 a word of the identity, 4 the node-ID (R480). -/
def execLssInquire (net : Fin 2) (what : Fin 5) (s : State) : Out :=
  let n := net.val
  if s.lssConfiguring n then
    .next (s.emit (.lss n 0 (if what.val < 4 then s.lssWord n (what.val + 1) else (s.net n).pendNode.getD (s.net n).node)))
  else .next s

/-- LSS_FASTSCAN, for an unconfigured node in the waiting state: 0x80 begins anew; a word of the identity is compared from bit 31
down to the bit named, and after its last bit the scan goes on to the next word or ends in the configuration state (R466, R480).
(PRESUMED, log 14) -/
def execLssFastscan (net : Fin 2) (ident : BitVec 32) (bitCheck : Byte) (sub next : Fin 4) (s : State) : Out :=
  let n := net.val
  let b := bitCheck.toNat
  if s.lssServed n = false ∨ (s.net n).lss ≠ .waiting ∨ s.nodeOf n ≠ 255 then .next s
  else if b = 0x80 then .next ((s.setNet n { s.net n with fastscan := 0 }).emit (.lss n 0 0))
  else if b ≤ 31 ∧ sub.val = (s.net n).fastscan ∧ s.lssWord n (sub.val + 1) / 2 ^ b = ident.toNat / 2 ^ b then
    let s1 := if b = 0 then s.setNet n { s.net n with
        fastscan := next.val, lss := if next.val < sub.val then .configuration else .waiting } else s
    .next (s1.emit (.lss n 0 0))
  else .next s

end Sys2Proof.Machine
end

