-- ==== Sys2Proof/Machine/Routines.lean ====
section
/-! DEFINITION. The steps of long routines (R217, R219, R581), those of the verification of a firmware image among them (R603,
R604). -/

namespace Sys2Proof.Machine

/-- LONG_ROUTINE_STEP: a step of a routine in an internal slot ends, a scan step of a HOLD, a step of the verification of an image,
or a step of a command (R217, R219, R603, Table 5.6). -/
def execLongRoutineStep (slot : Fin 512) (s : State) : Out :=
  let n := slot.val
  let x := s.slot n
  if x.state = .executing then
    match x.routine with
    | some (.holdScan k) =>
      if s.kv.loaded = true ∧ s.live = true ∧ s.admin.pauseStage ≤ 2 then
        let s1 := ((s.scanHold k).engineSteps x).setSlot n { x with step := x.step + 1, mchkOn := [] }
        .next (if s1.scanLeft k = 0 then s1.endScan n k else s1)
      else .next s
    | some .verify => if s.backgroundRuns = false then .next s else .next (s.verifyStep n)
    | some _ =>
      if s.backgroundRuns = false then .next s
      else if x.stepsLeft = 1 then .next (s.freeSlot n)
      else .next (s.setSlot n { x with stepsLeft := x.stepsLeft - 1, step := x.step + 1, mchkOn := [] })
    | none => .next ((s.engineSteps x).setSlot n { x with step := x.step + 1, mchkOn := [] })
  else .next s

end Sys2Proof.Machine
end

