-- ==== Sys2Proof/Machine/Dispatch.lean ====
section
/-! DEFINITION. The dispatch: one arm for each command. -/

namespace Sys2Proof.Machine

/-- The effect of a command on everything but the queue. -/
def exec (i : Instr) (s : State) : Host.Outcome State Fault Refusal :=
  match i with
  | .put slot => Sys2Proof.Machine.execPut slot s
  | .cput slot => Sys2Proof.Machine.execCput slot s
  | .get slot badChunk => Sys2Proof.Machine.execGet slot badChunk s
  | .getmeta slot => Sys2Proof.Machine.execGetmeta slot s
  | .delete slot => Sys2Proof.Machine.execDelete slot s
  | .cdelete slot => Sys2Proof.Machine.execCdelete slot s
  | .list slot => Sys2Proof.Machine.execList slot s
  | .xopenRead slot => Sys2Proof.Machine.execXopenRead slot s
  | .xopenWrite slot => Sys2Proof.Machine.execXopenWrite slot s
  | .xwrite slot => Sys2Proof.Machine.execXwrite slot s
  | .xappend slot => Sys2Proof.Machine.execXappend slot s
  | .xread slot badByte => Sys2Proof.Machine.execXread slot badByte s
  | .xpunch slot => Sys2Proof.Machine.execXpunch slot s
  | .xclose slot => Sys2Proof.Machine.execXclose slot s
  | .truncate slot => Sys2Proof.Machine.execTruncate slot s
  | .cadd slot => Sys2Proof.Machine.execCadd slot s
  | .cbadd slot => Sys2Proof.Machine.execCbadd slot s
  | .cread slot => Sys2Proof.Machine.execCread slot s
  | .creadreset slot => Sys2Proof.Machine.execCreadreset slot s
  | .cset slot => Sys2Proof.Machine.execCset slot s
  | .hold slot => Sys2Proof.Machine.execHold slot s
  | .unhold slot => Sys2Proof.Machine.execUnhold slot s
  | .tokenQuery slot => Sys2Proof.Machine.execTokenQuery slot s
  | .tokenEditInsert slot => Sys2Proof.Machine.execTokenEditInsert slot s
  | .tokenEditReplace slot => Sys2Proof.Machine.execTokenEditReplace slot s
  | .tokenEditRemove slot => Sys2Proof.Machine.execTokenEditRemove slot s
  | .sealRead slot => Sys2Proof.Machine.execSealRead slot s
  | .noticeSubscribe slot => Sys2Proof.Machine.execNoticeSubscribe slot s
  | .barrier slot => Sys2Proof.Machine.execBarrier slot s
  | .flush slot => Sys2Proof.Machine.execFlush slot s
  | .fenceClear slot => Sys2Proof.Machine.execFenceClear slot s
  | .ping slot => Sys2Proof.Machine.execPing slot s
  | .odRead slot => Sys2Proof.Machine.execOdRead slot s
  | .odWrite slot => Sys2Proof.Machine.execOdWrite slot s
  | .commandBind slot => Sys2Proof.Machine.execCommandBind slot s
  | .commandDispatch slot ope => Sys2Proof.Machine.execCommandDispatch slot ope s
  | .dispatchAgeExpiry slot => Sys2Proof.Machine.execDispatchAgeExpiry slot s
  | .longRoutineStep slot => Sys2Proof.Machine.execLongRoutineStep slot s
  | .flushDone slot => Sys2Proof.Machine.execFlushDone slot s
  | .parityRetryDone slot verifies => Sys2Proof.Machine.execParityRetryDone slot verifies s
  | .responseHoldExpiry context tag => Sys2Proof.Machine.execResponseHoldExpiry context tag s
  | .frameReceive port f => Sys2Proof.Machine.execFrameReceive port f s
  | .hello rx => Sys2Proof.Machine.execHello rx s
  | .resume rx => Sys2Proof.Machine.execResume rx s
  | .finish rx cert => Sys2Proof.Machine.execFinish rx cert s
  | .commandDatagram rx => Sys2Proof.Machine.execCommandDatagram rx s
  | .ackReceived rx => Sys2Proof.Machine.execAckReceived rx s
  | .closeReceived rx => Sys2Proof.Machine.execCloseReceived rx s
  | .handshakeTimeoutExpiry context => Sys2Proof.Machine.execHandshakeTimeoutExpiry context s
  | .idleTimeoutExpiry context => Sys2Proof.Machine.execIdleTimeoutExpiry context s
  | .resumeWindowExpiry context => Sys2Proof.Machine.execResumeWindowExpiry context s
  | .gapTimeoutExpiry slot => Sys2Proof.Machine.execGapTimeoutExpiry slot s
  | .reassemblyTimeoutExpiry slot => Sys2Proof.Machine.execReassemblyTimeoutExpiry slot s
  | .ackDelayExpiry context => Sys2Proof.Machine.execAckDelayExpiry context s
  | .cookieRotation => Sys2Proof.Machine.execCookieRotation s
  | .cursorIdleExpiry cursor => Sys2Proof.Machine.execCursorIdleExpiry cursor s
  | .creditRecompute => Sys2Proof.Machine.execCreditRecompute s
  | .serviceReset path value => Sys2Proof.Machine.execServiceReset path value s
  | .servicePauseDrained => Sys2Proof.Machine.execServicePauseDrained s
  | .servicePauseReopen pauseUs => Sys2Proof.Machine.execServicePauseReopen pauseUs s
  | .servicePauseOverrun => Sys2Proof.Machine.execServicePauseOverrun s
  | .hushEntry => Sys2Proof.Machine.execHushEntry s
  | .hushExit => Sys2Proof.Machine.execHushExit s
  | .dozeEntry => Sys2Proof.Machine.execDozeEntry s
  | .dozeExit => Sys2Proof.Machine.execDozeExit s
  | .drowsePhase1 => Sys2Proof.Machine.execDrowsePhase1 s
  | .drowsePhase2 => Sys2Proof.Machine.execDrowsePhase2 s
  | .drowseCommit => Sys2Proof.Machine.execDrowseCommit s
  | .drowseWake source => Sys2Proof.Machine.execDrowseWake source s
  | .rowLineProgram bin => Sys2Proof.Machine.execRowLineProgram bin s
  | .rowLineProgrammed stripe failed => Sys2Proof.Machine.execRowLineProgrammed stripe failed s
  | .drainIdleExpiry => Sys2Proof.Machine.execDrainIdleExpiry s
  | .binIdleExpiry bin => Sys2Proof.Machine.execBinIdleExpiry bin s
  | .binWidthWrite path seconds => Sys2Proof.Machine.execBinWidthWrite path seconds s
  | .collectionStart => Sys2Proof.Machine.execCollectionStart s
  | .collectCopyDurable stripe => Sys2Proof.Machine.execCollectCopyDurable stripe s
  | .blockEraseDone stripe failed => Sys2Proof.Machine.execBlockEraseDone stripe failed s
  | .foldStart => Sys2Proof.Machine.execFoldStart s
  | .dirCheckpoint => Sys2Proof.Machine.execDirCheckpoint s
  | .patrolRead die stripe wordline r => Sys2Proof.Machine.execPatrolRead die stripe wordline r s
  | .binSizingRecompute peakBytesPerSecond => Sys2Proof.Machine.execBinSizingRecompute peakBytesPerSecond s
  | .trackerSave => Sys2Proof.Machine.execTrackerSave s
  | .dieResetTimeout die => Sys2Proof.Machine.execDieResetTimeout die s
  | .gussetStripeRebuilt stripe => Sys2Proof.Machine.execGussetStripeRebuilt stripe s
  | .channelLost channel => Sys2Proof.Machine.execChannelLost channel s
  | .healthEvaluation => Sys2Proof.Machine.execHealthEvaluation s
  | .sramRowRepair bank row => Sys2Proof.Machine.execSramRowRepair bank row s
  | .pocketLineUncorrectable group secondLine => Sys2Proof.Machine.execPocketLineUncorrectable group secondLine s
  | .katTimer failedCores failedSha liningOk => Sys2Proof.Machine.execKatTimer failedCores failedSha liningOk s
  | .scapMeasurement capMf esrMohm usableMj => Sys2Proof.Machine.execScapMeasurement capMf esrMohm usableMj s
  | .phaseImbalance rail phase => Sys2Proof.Machine.execPhaseImbalance rail phase s
  | .lpddrError channel e => Sys2Proof.Machine.execLpddrError channel e s
  | .stepTimerOverrun ope => Sys2Proof.Machine.execStepTimerOverrun ope s
  | .opeParityError ope store address => Sys2Proof.Machine.execOpeParityError ope store address s
  | .msqParityError channel address => Sys2Proof.Machine.execMsqParityError channel address s
  | .storeReloadDone unit readsBack => Sys2Proof.Machine.execStoreReloadDone unit readsBack s
  | .incidentAssert => Sys2Proof.Machine.execIncidentAssert s
  | .incidentRelease => Sys2Proof.Machine.execIncidentRelease s
  | .incidentAfterExpiry => Sys2Proof.Machine.execIncidentAfterExpiry s
  | .sealIntervalExpiry ns => Sys2Proof.Machine.execSealIntervalExpiry ns s
  | .sealSigned ns => Sys2Proof.Machine.execSealSigned ns s
  | .ptpSync port offsetNs => Sys2Proof.Machine.execPtpSync port offsetNs s
  | .ptpPdelay port m => Sys2Proof.Machine.execPtpPdelay port m s
  | .pdelayIntervalExpiry port => Sys2Proof.Machine.execPdelayIntervalExpiry port s
  | .ppsEdge offsetNs agreesWithLast => Sys2Proof.Machine.execPpsEdge offsetNs agreesWithLast s
  | .canTime net offsetNs => Sys2Proof.Machine.execCanTime net offsetNs s
  | .holdoverStart => Sys2Proof.Machine.execHoldoverStart s
  | .holdoverLimitExpiry => Sys2Proof.Machine.execHoldoverLimitExpiry s
  | .ppsOutPulse => Sys2Proof.Machine.execPpsOutPulse s
  | .clkRefLost => Sys2Proof.Machine.execClkRefLost s
  | .clkRefRestored holdoverMs => Sys2Proof.Machine.execClkRefRestored holdoverMs s
  | .drbgReseed => Sys2Proof.Machine.execDrbgReseed s
  | .drbgHalt adaptive => Sys2Proof.Machine.execDrbgHalt adaptive s
  | .linkUp port speed => Sys2Proof.Machine.execLinkUp port speed s
  | .linkDown port => Sys2Proof.Machine.execLinkDown port s
  | .macSpeedFallback port speed => Sys2Proof.Machine.execMacSpeedFallback port speed s
  | .speedRemovalExpiry port speed => Sys2Proof.Machine.execSpeedRemovalExpiry port speed s
  | .pauseReceived port quanta => Sys2Proof.Machine.execPauseReceived port quanta s
  | .pfcReceived port vector times => Sys2Proof.Machine.execPfcReceived port vector times s
  | .pauseTimerExpiry port queue => Sys2Proof.Machine.execPauseTimerExpiry port queue s
  | .macPauseWdog port queue => Sys2Proof.Machine.execMacPauseWdog port queue s
  | .rxBufferXoff port prio => Sys2Proof.Machine.execRxBufferXoff port prio s
  | .rxBufferXon port prio => Sys2Proof.Machine.execRxBufferXon port prio s
  | .pauseRepeat port prio => Sys2Proof.Machine.execPauseRepeat port prio s
  | .frameTransmitDone port => Sys2Proof.Machine.execFrameTransmitDone port s
  | .arpRequest port asker ipv6 => Sys2Proof.Machine.execArpRequest port asker ipv6 s
  | .icmpEcho port ipv6 echo => Sys2Proof.Machine.execIcmpEcho port ipv6 echo s
  | .macTc10Wake port => Sys2Proof.Machine.execMacTc10Wake port s
  | .takeoverDelayExpiry port => Sys2Proof.Machine.execTakeoverDelayExpiry port s
  | .takeoverAnnounceRepeat port => Sys2Proof.Machine.execTakeoverAnnounceRepeat port s
  | .takebackDelayExpiry port => Sys2Proof.Machine.execTakebackDelayExpiry port s
  | .tsqAgeExpiry port => Sys2Proof.Machine.execTsqAgeExpiry port s
  | .portTsqRead path port => Sys2Proof.Machine.execPortTsqRead path port s
  | .portStatsClear path port sub value => Sys2Proof.Machine.execPortStatsClear path port sub value s
  | .portConfigWrite path port offset sub value => Sys2Proof.Machine.execPortConfigWrite path port offset sub value s
  | .nmtStart net node => Sys2Proof.Machine.execNmtStart net node s
  | .nmtStop net node => Sys2Proof.Machine.execNmtStop net node s
  | .nmtEnterPreOperational net node => Sys2Proof.Machine.execNmtEnterPreOperational net node s
  | .nmtResetNode net node => Sys2Proof.Machine.execNmtResetNode net node s
  | .nmtResetCommunication net node => Sys2Proof.Machine.execNmtResetCommunication net node s
  | .sdoDownloadInitiate net index sub size block expedited => Sys2Proof.Machine.execSdoDownloadInitiate net index sub size block expedited s
  | .sdoUploadInitiate net index sub => Sys2Proof.Machine.execSdoUploadInitiate net index sub s
  | .sdoSegment net data last crcOk => Sys2Proof.Machine.execSdoSegment net data last crcOk s
  | .sdoAbortReceived net => Sys2Proof.Machine.execSdoAbortReceived net s
  | .sdoTimeout net => Sys2Proof.Machine.execSdoTimeout net s
  | .sync net => Sys2Proof.Machine.execSync net s
  | .rpdo net number data => Sys2Proof.Machine.execRpdo net number data s
  | .tpdoSample net => Sys2Proof.Machine.execTpdoSample net s
  | .tpdoEventTimer net number => Sys2Proof.Machine.execTpdoEventTimer net number s
  | .heartbeatTimer net => Sys2Proof.Machine.execHeartbeatTimer net s
  | .emcyInhibitExpiry net => Sys2Proof.Machine.execEmcyInhibitExpiry net s
  | .canErrorPassive net tec rec => Sys2Proof.Machine.execCanErrorPassive net tec rec s
  | .canBusOffRecovery net => Sys2Proof.Machine.execCanBusOffRecovery net s
  | .canRxOverrun net lost => Sys2Proof.Machine.execCanRxOverrun net lost s
  | .canWakeFrame net ident dlc data => Sys2Proof.Machine.execCanWakeFrame net ident dlc data s
  | .lssSwitchState net configure address => Sys2Proof.Machine.execLssSwitchState net configure address s
  | .lssConfigureNodeId net node => Sys2Proof.Machine.execLssConfigureNodeId net node s
  | .lssConfigureBitTiming net table index => Sys2Proof.Machine.execLssConfigureBitTiming net table index s
  | .lssActivateBitTiming net delayMs => Sys2Proof.Machine.execLssActivateBitTiming net delayMs s
  | .lssStoreConfiguration net => Sys2Proof.Machine.execLssStoreConfiguration net s
  | .lssInquire net what => Sys2Proof.Machine.execLssInquire net what s
  | .lssFastscan net ident bitCheck sub next => Sys2Proof.Machine.execLssFastscan net ident bitCheck sub next s
  | .inputValid f => Sys2Proof.Machine.execInputValid f s
  | .inputLost inputMv => Sys2Proof.Machine.execInputLost inputMv s
  | .rideThroughExpiry => Sys2Proof.Machine.execRideThroughExpiry s
  | .bankAtReserve => Sys2Proof.Machine.execBankAtReserve s
  | .hemComplete tenthsMs energyMj => Sys2Proof.Machine.execHemComplete tenthsMs energyMj s
  | .supplyCapChange inputMv => Sys2Proof.Machine.execSupplyCapChange inputMv s
  | .chargerThreshold bankMj => Sys2Proof.Machine.execChargerThreshold bankMj s
  | .supplyOvervoltage peakMv durationMs => Sys2Proof.Machine.execSupplyOvervoltage peakMv durationMs s
  | .overvoltageTimeout => Sys2Proof.Machine.execOvervoltageTimeout s
  | .supplyReverse pinB otherSupplies depthMv => Sys2Proof.Machine.execSupplyReverse pinB otherSupplies depthMv s
  | .thermalSample baseplate engine supervisor => Sys2Proof.Machine.execThermalSample baseplate engine supervisor s
  | .thermalResumed stoppedSeconds => Sys2Proof.Machine.execThermalResumed stoppedSeconds s
  | .coldStart waitMs => Sys2Proof.Machine.execColdStart waitMs s
  | .humiditySample percent => Sys2Proof.Machine.execHumiditySample percent s
  | .shockDetected tenthsG => Sys2Proof.Machine.execShockDetected tenthsG s
  | .ignChange active => Sys2Proof.Machine.execIgnChange active s
  | .wakeOutPulseEnd => Sys2Proof.Machine.execWakeOutPulseEnd s
  | .intakeOpen msSinceT0 => Sys2Proof.Machine.execIntakeOpen msSinceT0 s
  | .directoryLoaded msSinceT0 => Sys2Proof.Machine.execDirectoryLoaded msSinceT0 s
  | .attachStartTimeout => Sys2Proof.Machine.execAttachStartTimeout s
  | .seamLost => Sys2Proof.Machine.execSeamLost s
  | .attach m lossMs => Sys2Proof.Machine.execAttach m lossMs s
  | .attachRetry => Sys2Proof.Machine.execAttachRetry s
  | .orphanReplace => Sys2Proof.Machine.execOrphanReplace s
  | .seamRegisterAccess a => Sys2Proof.Machine.execSeamRegisterAccess a s
  | .seamSlotSubmit supTag body => Sys2Proof.Machine.execSeamSlotSubmit supTag body s
  | .seamEventMessage => Sys2Proof.Machine.execSeamEventMessage s
  | .seamDegraded lanes8 rate8 => Sys2Proof.Machine.execSeamDegraded lanes8 rate8 s
  | .supWatchdogExpiry => Sys2Proof.Machine.execSupWatchdogExpiry s
  | .supSlotTimeout slot => Sys2Proof.Machine.execSupSlotTimeout slot s
  | .intakeHeartbeatStall => Sys2Proof.Machine.execIntakeHeartbeatStall s
  | .eventRaise source params => Sys2Proof.Machine.execEventRaise source params s
  | .eventRateWindow => Sys2Proof.Machine.execEventRateWindow s
  | .recorderFlushTimer => Sys2Proof.Machine.execRecorderFlushTimer s
  | .recFreeze path => Sys2Proof.Machine.execRecFreeze path s
  | .recThaw path => Sys2Proof.Machine.execRecThaw path s
  | .recFreezeExpiry => Sys2Proof.Machine.execRecFreezeExpiry s
  | .recRead path => Sys2Proof.Machine.execRecRead path s
  | .recMirrorFail mirror die => Sys2Proof.Machine.execRecMirrorFail mirror die s
  | .recFaultClear path => Sys2Proof.Machine.execRecFaultClear path s
  | .eventTest path value => Sys2Proof.Machine.execEventTest path value s
  | .perfSelect path counter event => Sys2Proof.Machine.execPerfSelect path counter event s
  | .perfCounterWrap counter => Sys2Proof.Machine.execPerfCounterWrap counter s
  | .engFatal code => Sys2Proof.Machine.execEngFatal code s
  | .orphanFatalReset => Sys2Proof.Machine.execOrphanFatalReset s
  | .dumpRequest path value => Sys2Proof.Machine.execDumpRequest path value s
  | .dumpTaken lengthKib => Sys2Proof.Machine.execDumpTaken lengthKib s
  | .nsDefine path => Sys2Proof.Machine.execNsDefine path s
  | .sanitiseRequest path value => Sys2Proof.Machine.execSanitiseRequest path value s
  | .sanitiseStep => Sys2Proof.Machine.execSanitiseStep s
  | .formatRequest path value => Sys2Proof.Machine.execFormatRequest path value s
  | .formatStep => Sys2Proof.Machine.execFormatStep s
  | .attestNonce path nonce => Sys2Proof.Machine.execAttestNonce path nonce s
  | .listDefine path listId => Sys2Proof.Machine.execListDefine path listId s
  | .listDelete path => Sys2Proof.Machine.execListDelete path s
  | .matchEnableWrite path value => Sys2Proof.Machine.execMatchEnableWrite path value s
  | .tuckHoleOpen slot => Sys2Proof.Machine.execTuckHoleOpen slot s
  | .tuckCloseUp list => Sys2Proof.Machine.execTuckCloseUp list s
  | .repleat list => Sys2Proof.Machine.execRepleat list s
  | .matchScrub address r => Sys2Proof.Machine.execMatchScrub address r s
  | .matchTileSpared logical => Sys2Proof.Machine.execMatchTileSpared logical s
  | .matchCapacityLost logical => Sys2Proof.Machine.execMatchCapacityLost logical s
  | .odEntryWrite path index sub value => Sys2Proof.Machine.execOdEntryWrite path index sub value s
  | .preDefinedErrorFieldClear path => Sys2Proof.Machine.execPreDefinedErrorFieldClear path s
  | .fwBegn path => Sys2Proof.Machine.execFwBegn path s
  | .fwImageWrite path offset data signatureOk => Sys2Proof.Machine.execFwImageWrite path offset data signatureOk s
  | .fwVrfy path failStep => Sys2Proof.Machine.execFwVrfy path failStep s
  | .fwActv path => Sys2Proof.Machine.execFwActv path s
  | .fwActivationPause failedParts => Sys2Proof.Machine.execFwActivationPause failedParts s
  | .fwConf path => Sys2Proof.Machine.execFwConf path s
  | .fwAbrt path => Sys2Proof.Machine.execFwAbrt path s
  | .fwTimerRecord => Sys2Proof.Machine.execFwTimerRecord s
  | .fwConfirmWindowExpiry => Sys2Proof.Machine.execFwConfirmWindowExpiry s
  | .fwSelftestFail part => Sys2Proof.Machine.execFwSelftestFail part s
  | .valueExpiry ns key => Sys2Proof.Machine.execValueExpiry ns key s
  | .binQuantumEnd bin => Sys2Proof.Machine.execBinQuantumEnd bin s
  | .drbgRestart => Sys2Proof.Machine.execDrbgRestart s
  | .sealLag ns waitMs => Sys2Proof.Machine.execSealLag ns waitMs s
  | .canBusOff net => Sys2Proof.Machine.execCanBusOff net s
  | .canErrorActive net => Sys2Proof.Machine.execCanErrorActive net s
  | .pauseWdogIgnoreEnd port => Sys2Proof.Machine.execPauseWdogIgnoreEnd port s
  | .recMirrorRebuilt newDie => Sys2Proof.Machine.execRecMirrorRebuilt newDie s
  | .lpddrMapOutCopyDone channel => Sys2Proof.Machine.execLpddrMapOutCopyDone channel s
  | .tempHistorySave => Sys2Proof.Machine.execTempHistorySave s
  | .ptpAnnounce port role => Sys2Proof.Machine.execPtpAnnounce port role s
  | .syncIntervalExpiry port => Sys2Proof.Machine.execSyncIntervalExpiry port s
  | .seamStateRead path => Sys2Proof.Machine.execSeamStateRead path s
  | .drowseDeferLimit => Sys2Proof.Machine.execDrowseDeferLimit s

end Sys2Proof.Machine
end

