-- ==== Sys2Proof/Machine/Tick.lean ====
section
/-! DEFINITION. One tick of CLK_TIME (R532): what a step does while no command waits (log 1). -/

namespace Sys2Proof.Machine

/-- Nanoseconds in a tick of CLK_TIME, 125 MHz (Table 15.1, R532). (DESIGN CHOICE, log 1) -/
def tickNs : Nat := 8

/-- What a tick adds to the part of a nanosecond that is slewed, at SLEW_MAX ppm (R373). -/
def State.slewStep (s : State) : Nat := s.clock.slewRem + tickNs * s.val Od.SLEW_MAX

/-- DT moves on by one tick, faster or slower by at most SLEW_MAX while an offset is slewed; it never decreases (R373).
(DESIGN CHOICE, log 1) -/
def State.advanceDt (s : State) : State :=
  if s.clock.slew = 0 then { s.setDt (s.clock.dt + tickNs) with clock := { (s.setDt (s.clock.dt + tickNs)).clock with slewRem := 0 } }
  else
    let r := s.slewStep
    let k : Int := if r < 1000000 then 0 else if 0 < s.clock.slew then 1 else -1
    let s1 := s.setDt (((s.clock.dt + tickNs : Nat) : Int) + k).toNat
    { s1 with clock := { s1.clock with slew := s.clock.slew - k, slewRem := if r < 1000000 then r else r - 1000000 } }

/-- DT while the time base runs, and the DT that the always-on timekeeper carries (R376, R551). (DESIGN CHOICE, log 1) -/
def State.tickClock (s : State) : State :=
  let s1 : State := { s with clock := { s.clock with ticks := s.clock.ticks + 1, timekeeper := s.clock.timekeeper.map (· + tickNs) } }
  if s.clock.running then s1.advanceDt else s1

/-- PAUSED_US of a port that has a held queue (Table 11.7). (DESIGN CHOICE, log 1) -/
def State.tickPaused (s : State) (p : Nat) : State :=
  let x := s.port p
  if x.held = [] then s
  else if x.pausedRem + tickNs < 1000 then s.setPort p { x with pausedRem := x.pausedRem + tickNs }
  else (s.setPort p { x with pausedRem := x.pausedRem + tickNs - 1000 }).portCount p 47

/-- The echo replies of each port are counted anew every second (R421). (DESIGN CHOICE, log 1) -/
def State.tickEcho (s : State) : State :=
  if s.clock.ticks % 125000000 = 0 then
    { s with ports := s.ports.map (fun e => (e.1, { e.2 with echoCount := 0 })) }
  else s

/-- One tick; a session whose packet numbers are used up is closed with it (R139), and a lost directory entry is rebuilt (Table 7.2). (DESIGN CHOICE, log 1) -/
def State.tick (s : State) : State :=
  let s1 := ((s.tickClock.restoreEntries).tickEcho.closeExhausted).rebuildDirectory
  (s1.ports.map (·.1)).foldl State.tickPaused s1

end Sys2Proof.Machine
end

