-- ==== Sys2Proof/Safety.lean ====
section
/-! DEFINITION. What counts as a safe run, in the terms that claims use: a command answers a next state; the module stops for no
other reason than a supply beyond its absolute maximum; the supervisor partition keeps its canonical form; what a step leaves as
it was. -/

namespace Sys2Proof.Machine

/-- A command answers a next state of which `P` holds. -/
def Answers (o : Out) (P : State → Prop) : Prop := ∃ t, o = .next t ∧ P t

/-- A command would take a supply beyond Table 19.1 to the connector (R619). -/
def beyondMaximum (c : Instr) : Bool :=
  match c with
  | .supplyOvervoltage peakMv _ => decide (58000 < peakMv.toNat)
  | .supplyReverse _ _ depthMv => decide (36000 < depthMv.toNat)
  | _ => false

/-- The words of the supervisor partition in their one form: word numbers strictly rising, and no word that is 0 listed (R20,
R493). -/
def partitionWf (m : SMap (BitVec 64)) : Bool := SMap.rising m && m.all (fun e => e.2 != 0)

/-- The supervisor partition of a state has its canonical form. -/
def State.partitionCanonical (s : State) : Prop := partitionWf s.seam.partition = true

/-- The groups of the state. -/
inductive Group where
  | hw | od | clock | seq | kv | pocket | wkp | ports | flash | matcher | seals | cipher | can | power | health | seam
  | events | fw | admin | pending | draws | sent
deriving DecidableEq, Repr

/-- Two states agree on a group. -/
def State.agree (g : Group) (s t : State) : Prop :=
  match g with
  | .hw => t.hw = s.hw
  | .od => t.od = s.od
  | .clock => t.clock = s.clock
  | .seq => t.seq = s.seq
  | .kv => t.kv = s.kv
  | .pocket => t.pocket = s.pocket
  | .wkp => t.wkp = s.wkp
  | .ports => t.ports = s.ports
  | .flash => t.flash = s.flash
  | .matcher => t.matcher = s.matcher
  | .seals => t.seals = s.seals
  | .cipher => t.cipher = s.cipher
  | .can => t.can = s.can
  | .power => t.power = s.power
  | .health => t.health = s.health
  | .seam => t.seam = s.seam
  | .events => t.events = s.events
  | .fw => t.fw = s.fw
  | .admin => t.admin = s.admin
  | .pending => t.pending = s.pending
  | .draws => t.draws = s.draws
  | .sent => t.sent = s.sent

/-- From `s` to `t` no group changes but those named. -/
def OnlyGroups (gs : List Group) (s t : State) : Prop := ∀ g, g ∉ gs → State.agree g s t

/-- From `s` to `t` no numeric entry of the dictionary changes but those at the named indices. -/
def OnlyEntries (xs : List Nat) (s t : State) : Prop :=
  ∀ i x j, x < 65536 → j < 256 → x ∉ xs → t.odGet i x j = s.odGet i x j

/-- What the report of an event or of a frame sent may change: its counts, queues and records, and which session's key is at hand. -/
def reporting : List Group := [.od, .wkp, .ports, .can, .seam, .events, .sent, .cipher]

/-- The cipher engine as another, but for which keys its cache holds (R405). -/
def cacheLike (x y : CipherState) : Prop := y = { x with keyCache := y.keyCache }

/-- The entries that the report of an event or of a frame sent may change: the counts of the sources, of what is lost, REC_FREEZE,
the misses of the key cache, and the counters of the ports. -/
def eventEntries : List Nat :=
  [Od.EVENT_COUNT, Od.EVENT_LAST_DT, Od.EVENT_SUPPRESSED, Od.CNT_EMCY_LOST, Od.SEAM_EVENTS_LOST, Od.REC_PENDING_LOST, Od.REC_FREEZE,
   Od.KEY_CACHE_MISSES] ++ (List.range 7).map (fun p => portIndex p 12)

/-- From `s` to `t` no group and no entry changes but those named, and what reports of events change. -/
def Reports (gs : List Group) (xs : List Nat) (s t : State) : Prop :=
  OnlyGroups (gs ++ reporting) s t ∧ OnlyEntries (xs ++ eventEntries) s t ∧ (.cipher ∈ gs ∨ cacheLike s.cipher t.cipher)

/-- From `s` to `t` no group and no entry changes but those named. -/
def Only (gs : List Group) (xs : List Nat) (s t : State) : Prop := OnlyGroups gs s t ∧ OnlyEntries xs s t

/-- A counter of 32 bits has advanced by one. -/
def counted (x : Nat) (s t : State) (sub : Nat := 0) : Prop := t.odGet 0 x sub = (s.odGet 0 x sub + 1) % 2 ^ 32

/-- An access path is served, and its level is at least `l` (Table 12.2). -/
def State.admits (s : State) (path : Path) (l : Nat) : Prop := s.pathServed path = true ∧ l ≤ s.pathLevel (pathCode path)

/-- What an access path was last answered. -/
def State.answered (s : State) (path : Path) : Option OdAnswer := SMap.get? s.od.answers (pathCode path)

/-- A write on a path takes effect and is acknowledged. -/
def Takes (s : State) (i : Instr) (path : Path) (P : State → Prop) : Prop :=
  Answers (exec i s) (fun t => t.answered path = some (.ok []) ∧ P t)

/-- A write on a path is refused, and changes nothing but the count of aborted transfers. -/
def TurnedDown (s : State) (i : Instr) (path : Path) (r : OdRefusal) : Prop :=
  Answers (exec i s) (fun t => t.answered path = some (.refused r) ∧ Only [.od] [Od.CNT_SDO_ABORTS] s t)

/-- The entries whose write does more than to keep a value. -/
def actsOnWrite : List Nat :=
  [Od.PRE_DEFINED_ERROR_FIELD, 0x1010, 0x1011, 0x2022, 0x2023, Od.WAKE_OUT_MODE, Od.SERVICE_RESET, Od.NS_STATE, Od.BIN_WIDTH,
   Od.MATCH_ENABLE, Od.LIST_ID, Od.EVENT_ROUTE, Od.EVENT_TEST, Od.REC_FREEZE, Od.REC_FAULT_CLEAR, Od.PERF_SELECT,
   Od.DUMP_REQUEST, Od.FW_CONTROL, Od.SANITISE_REQUEST, Od.FORMAT_REQUEST]

/-- An entry whose write keeps its value and does no more. -/
def plainEntry (index : Nat) : Bool :=
  !actsOnWrite.contains index && !isPdoMap index && !(decide (0x2210 ≤ index) && decide (index < 0x2280))

/-- A raise of a source reaches the supervisor at once: its route says so, and for the engine's own sources the Seam is up and
nothing waits before it (R556, R560, R492). -/
def State.tells (s : State) (src : Nat) : Prop :=
  (severity? src).isSome = true ∧ bitOf 0 (s.odGet src Od.EVENT_ROUTE 0) = true
    ∧ (engineSource src = false ∨ (s.seam.up = true ∧ s.seam.queue = []))

/-- A source has been raised once: its count and the time of its last raise (R556). -/
def told (src : Nat) (s t : State) : Prop :=
  t.odGet src Od.EVENT_COUNT 0 = (s.odGet src Od.EVENT_COUNT 0 + 1) % 2 ^ 32 ∧ t.odGet src Od.EVENT_LAST_DT 0 = s.clock.dt

/-- A bin that names a stripe is the bin of that stripe. -/
def State.binsOwn (s : State) : Prop := ∀ b i, (s.bin b).stripe = some i → (s.stripe i).bin = b

/-- No stored entry is held in two formats by an activation (R616). -/
def State.settled (s : State) : Prop :=
  (s.fw.phase ≠ .activating ∧ s.fw.phase ≠ .confirming) ∨ s.od.twoFormat = []

/-- A session as another, but for what sending to it advances: its packet number, the acknowledgment it carries, its notices. -/
def sentLike (x y : Session) : Prop :=
  y = { x with noticeSeq := y.noticeSeq, txPn := y.txPn, ackDue := y.ackDue }

/-- A network as another, but for its EMCY queue, its error field and its inhibit time. -/
def emcyLike (x y : CanNet) : Prop := y = { x with emcy := y.emcy, inhibited := y.inhibited, errors := y.errors }

/-- A port as another, but for what waits to be sent. -/
def queueLike (x y : Port) : Prop :=
  y = { x with txq := y.txq, inFlight := y.inFlight, started := y.started, control := y.control }

/-- The command that a slot holds. -/
def State.cmdOf (s : State) (n : Nat) : Cmd := parseCmd (assemble (s.slot n).frags)

/-- The value that the command of a slot finds at its key. -/
def State.target (s : State) (n : Nat) : Option Version :=
  s.valueAt (s.cmdOf n).ns (s.cmdOf n).key (s.slot n).csn (s.slot n).bindClock

/-- The command of a slot runs: it is executing, no fence stops it, and the checks common to all commands pass (R96, R164). -/
def State.runs (s : State) (n : Nat) (accepts : Cmd → Bool) : Prop :=
  (s.slot n).state = .executing ∧ (s.slot n).retry = none ∧ accepts (s.cmdOf n) = true
    ∧ s.fencesSlot (s.slot n) = none ∧ s.gate (s.slot n) (s.cmdOf n) = none

/-- A command completes: its effect leaves `u`, and it retires from its slot with the reply `r`. -/
def Completes (s : State) (i : Instr) (n : Nat) (P : State → Reply → Prop) : Prop :=
  ∃ u r, exec i s = .next (u.retire n (s.slot n) (s.cmdOf n) r) ∧ P u r

/-- The command of a slot is later than every version of its key. -/
def State.latest (s : State) (n : Nat) : Prop :=
  ∀ v ∈ s.kv.versions, v.ns = (s.cmdOf n).ns → v.key = (s.cmdOf n).key → v.stamp.csn < (s.slot n).csn

/-- What a write of a slot's command leaves of the other keys. -/
def State.otherKeysKept (s u : State) (n : Nat) : Prop :=
  ∀ ns key k, (ns ≠ (s.cmdOf n).ns ∨ key ≠ (s.cmdOf n).key) → u.versionAt ns key k = s.versionAt ns key k

/-- The command of a slot finds a counter of value `k` and mode `m`, or creates one that holds 0 (R68, R69). -/
def State.counterAt (s : State) (n : Nat) (k : Int) (m : CtrMode) : Prop :=
  match s.target n with
  | some v => v.payload = .counter k m ∧ s.heldAt (s.slot n).csn v.stamp.csn = false ∧ s.lost v = false
  | none => bitOf 2 (s.slot n).params.kinds = true ∧ k = 0 ∧ m = newMode (s.slot n) (s.cmdOf n)

/-- The version of a counter after a command of slot `n` stores `k`: a new one takes its times from the command, another keeps
them (R56, R81, R177). -/
def State.counterAfter (s : State) (n : Nat) (k : Int) (m : CtrMode) : Version :=
  match s.target n with
  | some v => { v with stamp := slotStamp (s.slot n), payload := .counter k m }
  | none => { ns := (s.cmdOf n).ns, key := (s.cmdOf n).key, stamp := slotStamp (s.slot n), createCsn := (s.slot n).csn
              ingress := slotIngress (s.slot n), expiry := (s.slot n).expiryDt, payload := .counter k m }

/-- A FILLED slot meets every binding condition, and is the first of those that do (R202). -/
def State.bindable (s : State) (n : Nat) : Prop := s.readySlots.head? = some n

/-- The key-value command that a constructor stands for: its slot, and which commands it runs. -/
def kvRow : Instr → Option (Fin 512 × (Cmd → Bool))
  | .put n => some (n, isOp 0x01)
  | .cput n => some (n, isOp 0x02)
  | .get n none => some (n, isOp 0x03)
  | .getmeta n => some (n, isOp 0x04)
  | .delete n => some (n, isOp 0x05)
  | .cdelete n => some (n, isOp 0x06)
  | .xopenRead n => some (n, fun c => c.opcode == 0x10 && c.param 0 1 != 1)
  | .xopenWrite n => some (n, fun c => c.opcode == 0x10 && c.param 0 1 == 1)
  | .xwrite n => some (n, isOp 0x11)
  | .xappend n => some (n, isOp 0x12)
  | .xread n none => some (n, isOp 0x13)
  | .xpunch n => some (n, isOp 0x14)
  | .xclose n => some (n, isOp 0x15)
  | .truncate n => some (n, isOp 0x16)
  | .cadd n => some (n, isOp 0x20)
  | .cbadd n => some (n, isOp 0x21)
  | .cread n => some (n, isOp 0x22)
  | .creadreset n => some (n, isOp 0x23)
  | .cset n => some (n, isOp 0x24)
  | .unhold n => some (n, isOp 0x31)
  | .tokenQuery n => some (n, isOp 0x38)
  | .sealRead n => some (n, isOp 0x40)
  | .noticeSubscribe n => some (n, isOp 0x41)
  | .barrier n => some (n, isOp 0x50)
  | .flush n => some (n, isOp 0x51)
  | .fenceClear n => some (n, isOp 0x52)
  | .ping n => some (n, isOp 0x53)
  | _ => none

end Sys2Proof.Machine
end

