-- ==== Sys2Proof/WellFormed.lean ====
section
/-! DEFINITION. When a command is well formed: what its operands must be for the spec to give such a command at all. A command
that is not describes nothing that can reach the module; exec gives it a meaning all the same. -/

namespace Sys2Proof

/-- A slot that carries client or supervisor work, or the INCIDENT hold's, 447 (Table 5.1). -/
def clientSlot (n : Fin 512) : Bool := decide (n.val < 447)

/-- A user namespace: 16 to 4095 (Table 2.1). -/
def userNs (n : BitVec 12) : Bool := decide (16 ≤ n.toNat)

/-- A port's partner in a takeover pair, or the port itself (R445). -/
def carriesFor (physical port : Fin 7) : Bool :=
  physical == port || (physical.val == 1 && port.val == 0) || (physical.val == 3 && port.val == 2)

/-- A datagram arrives on the port it counts for, or on the port that covers it (R447). -/
def Rx.wf (rx : Rx) : Bool := carriesFor rx.physical rx.port

/-- The type of a datagram (Table 3.6). -/
def Rx.isType (rx : Rx) (t : Byte) : Bool := rx.wf && rx.dg.type == t

/-- A datagram that the parser takes as COMMAND_DATAGRAM: one of no other row's type, so that a type that is not valid is
discarded there (R110). -/
def Rx.isCommand (rx : Rx) : Bool := rx.wf && !([1, 4, 6, 0x12, 0x1E].contains rx.dg.type.toNat)

/-- A node that an NMT command names: 0 for all, or 1 to 127 (R468). -/
def nmtNode (n : Byte) : Bool := decide (n.toNat ≤ 127)

/-- Well-formed commands. -/
def Instr.wf : Instr → Bool
  | .put n => clientSlot n
  | .cput n => clientSlot n
  | .get n _ => clientSlot n
  | .getmeta n => clientSlot n
  | .delete n => clientSlot n
  | .cdelete n => clientSlot n
  | .list n => clientSlot n
  | .xopenRead n => clientSlot n
  | .xopenWrite n => clientSlot n
  | .xwrite n => clientSlot n
  | .xappend n => clientSlot n
  | .xread n _ => clientSlot n
  | .xpunch n => clientSlot n
  | .xclose n => clientSlot n
  | .truncate n => clientSlot n
  | .cadd n => clientSlot n
  | .cbadd n => clientSlot n
  | .cread n => clientSlot n
  | .creadreset n => clientSlot n
  | .cset n => clientSlot n
  | .hold n => decide (n.val ≤ 447)
  | .unhold n => clientSlot n
  | .tokenQuery n => clientSlot n
  | .tokenEditInsert n => clientSlot n
  | .tokenEditReplace n => clientSlot n
  | .tokenEditRemove n => clientSlot n
  | .sealRead n => clientSlot n
  | .noticeSubscribe n => clientSlot n
  | .barrier n => clientSlot n
  | .flush n => clientSlot n
  | .fenceClear n => clientSlot n
  | .ping n => clientSlot n
  | .odRead n => clientSlot n
  | .odWrite n => clientSlot n
  | .commandBind n => clientSlot n
  | .commandDispatch _ _ => true
  | .dispatchAgeExpiry _ => true
  | .longRoutineStep _ => true
  | .flushDone n => clientSlot n
  | .parityRetryDone n _ => clientSlot n
  | .responseHoldExpiry _ tag => tag != 0
  | .frameReceive _ f => decide (f.pcp.val = 0) || f.tagged
  | .hello rx => rx.isType 1
  | .resume rx => rx.isType 6
  | .finish rx _ => rx.isType 4
  | .commandDatagram rx => rx.isCommand
  | .ackReceived rx => rx.isType 0x12
  | .closeReceived rx => rx.isType 0x1E
  | .handshakeTimeoutExpiry _ => true
  | .idleTimeoutExpiry _ => true
  | .resumeWindowExpiry _ => true
  | .gapTimeoutExpiry n => clientSlot n
  | .reassemblyTimeoutExpiry n => clientSlot n
  | .ackDelayExpiry _ => true
  | .cookieRotation => true
  | .cursorIdleExpiry cursor => cursor != 0
  | .creditRecompute => true
  | .serviceReset _ _ => true
  | .servicePauseDrained => true
  | .servicePauseReopen _ => true
  | .servicePauseOverrun => true
  | .hushEntry => true
  | .hushExit => true
  | .dozeEntry => true
  | .dozeExit => true
  | .drowsePhase1 => true
  | .drowsePhase2 => true
  | .drowseCommit => true
  | .drowseWake _ => true
  | .rowLineProgram _ => true
  | .rowLineProgrammed _ _ => true
  | .drainIdleExpiry => true
  | .binIdleExpiry _ => true
  | .binWidthWrite _ _ => true
  | .collectionStart => true
  | .collectCopyDurable _ => true
  | .blockEraseDone _ _ => true
  | .foldStart => true
  | .dirCheckpoint => true
  | .patrolRead _ _ _ _ => true
  | .binSizingRecompute _ => true
  | .trackerSave => true
  | .dieResetTimeout _ => true
  | .gussetStripeRebuilt _ => true
  | .channelLost _ => true
  | .healthEvaluation => true
  | .sramRowRepair _ _ => true
  | .pocketLineUncorrectable _ _ => true
  | .katTimer _ _ _ => true
  | .scapMeasurement cap esr _ => cap.length == 6 && esr.length == 6
  | .phaseImbalance _ _ => true
  | .lpddrError _ _ => true
  | .stepTimerOverrun _ => true
  | .opeParityError _ _ _ => true
  | .msqParityError _ _ => true
  | .storeReloadDone _ _ => true
  | .incidentAssert => true
  | .incidentRelease => true
  | .incidentAfterExpiry => true
  | .sealIntervalExpiry ns => userNs ns
  | .sealSigned ns => userNs ns
  | .ptpSync _ _ => true
  | .ptpPdelay _ _ => true
  | .pdelayIntervalExpiry _ => true
  | .ppsEdge _ _ => true
  | .canTime _ _ => true
  | .holdoverStart => true
  | .holdoverLimitExpiry => true
  | .ppsOutPulse => true
  | .clkRefLost => true
  | .clkRefRestored _ => true
  | .drbgReseed => true
  | .drbgHalt _ => true
  | .linkUp _ speed => speed.val != 0
  | .linkDown _ => true
  | .macSpeedFallback _ speed => speed.val != 0
  | .speedRemovalExpiry _ speed => speed.val != 0
  | .pauseReceived _ _ => true
  | .pfcReceived _ _ times => times.length == 8
  | .pauseTimerExpiry _ _ => true
  | .macPauseWdog _ _ => true
  | .rxBufferXoff _ _ => true
  | .rxBufferXon _ _ => true
  | .pauseRepeat _ _ => true
  | .frameTransmitDone _ => true
  | .arpRequest _ _ _ => true
  | .icmpEcho _ _ _ => true
  | .macTc10Wake port => port.val == 0 || port.val == 2
  | .takeoverDelayExpiry port => port.val == 1 || port.val == 3
  | .takeoverAnnounceRepeat port => decide (port.val < 4)
  | .takebackDelayExpiry port => port.val == 0 || port.val == 2
  | .tsqAgeExpiry _ => true
  | .portTsqRead _ _ => true
  | .portStatsClear _ _ sub _ => sub.val != 0
  | .portConfigWrite _ _ _ _ _ => true
  | .nmtStart _ node => nmtNode node
  | .nmtStop _ node => nmtNode node
  | .nmtEnterPreOperational _ node => nmtNode node
  | .nmtResetNode _ node => nmtNode node
  | .nmtResetCommunication _ node => nmtNode node
  | .sdoDownloadInitiate _ _ _ _ _ expedited => decide (expedited.length ≤ 4)
  | .sdoUploadInitiate _ _ _ => true
  | .sdoSegment _ _ _ _ => true
  | .sdoAbortReceived _ => true
  | .sdoTimeout _ => true
  | .sync _ => true
  | .rpdo _ _ data => decide (data.length ≤ 8)
  | .tpdoSample _ => true
  | .tpdoEventTimer _ _ => true
  | .heartbeatTimer _ => true
  | .emcyInhibitExpiry _ => true
  | .canErrorPassive _ _ _ => true
  | .canBusOffRecovery _ => true
  | .canRxOverrun _ lost => lost != 0
  | .canWakeFrame _ _ _ _ => true
  | .lssSwitchState _ configure address => match address with | none => true | some a => configure && a.length == 4
  | .lssConfigureNodeId _ _ => true
  | .lssConfigureBitTiming _ _ _ => true
  | .lssActivateBitTiming _ _ => true
  | .lssStoreConfiguration _ => true
  | .lssInquire _ _ => true
  | .lssFastscan _ _ bitCheck _ _ => bitCheck.toNat == 0x80 || decide (bitCheck.toNat ≤ 31)
  | .inputValid _ => true
  | .inputLost _ => true
  | .rideThroughExpiry => true
  | .bankAtReserve => true
  | .hemComplete _ _ => true
  | .supplyCapChange _ => true
  | .chargerThreshold _ => true
  | .supplyOvervoltage _ _ => true
  | .overvoltageTimeout => true
  | .supplyReverse _ _ _ => true
  | .thermalSample _ _ _ => true
  | .thermalResumed _ => true
  | .coldStart _ => true
  | .humiditySample percent => decide (percent.toNat ≤ 100)
  | .shockDetected _ => true
  | .ignChange _ => true
  | .wakeOutPulseEnd => true
  | .intakeOpen _ => true
  | .directoryLoaded _ => true
  | .attachStartTimeout => true
  | .seamLost => true
  | .attach _ _ => true
  | .attachRetry => true
  | .orphanReplace => true
  | .seamRegisterAccess a => a.address.toNat % 8 == 0
  | .seamSlotSubmit _ body => decide (12 ≤ body.length)
  | .seamEventMessage => true
  | .seamDegraded lanes8 rate8 => lanes8 || rate8
  | .supWatchdogExpiry => true
  | .supSlotTimeout n => decide (384 ≤ n.val) && decide (n.val < 447)
  | .intakeHeartbeatStall => true
  | .eventRaise _ params => decide (params.length ≤ 3)
  | .eventRateWindow => true
  | .recorderFlushTimer => true
  | .recFreeze _ => true
  | .recThaw _ => true
  | .recFreezeExpiry => true
  | .recRead _ => true
  | .recMirrorFail _ _ => true
  | .recFaultClear _ => true
  | .eventTest _ _ => true
  | .perfSelect _ counter _ => counter.val != 0
  | .perfCounterWrap counter => counter.val != 0
  | .engFatal _ => true
  | .orphanFatalReset => true
  | .dumpRequest _ _ => true
  | .dumpTaken _ => true
  | .nsDefine _ => true
  | .sanitiseRequest _ _ => true
  | .sanitiseStep => true
  | .formatRequest _ _ => true
  | .formatStep => true
  | .attestNonce _ nonce => nonce.length == 32
  | .listDefine _ listId => listId != 0
  | .listDelete _ => true
  | .matchEnableWrite _ _ => true
  | .tuckHoleOpen n => clientSlot n
  | .tuckCloseUp _ => true
  | .repleat _ => true
  | .matchScrub _ _ => true
  | .matchTileSpared _ => true
  | .matchCapacityLost _ => true
  | .odEntryWrite _ _ _ _ => true
  | .preDefinedErrorFieldClear _ => true
  | .fwBegn _ => true
  | .fwImageWrite _ _ data _ => !data.isEmpty
  | .fwVrfy _ failStep => match failStep with | none => true | some f => decide (f.1.val < 5) && f.2.val != 0
  | .fwActv _ => true
  | .fwActivationPause _ => true
  | .fwConf _ => true
  | .fwAbrt _ => true
  | .fwTimerRecord => true
  | .fwConfirmWindowExpiry => true
  | .fwSelftestFail part => part.val != 0
  | .valueExpiry ns key => userNs ns && decide (1 ≤ key.length) && decide (key.length ≤ 255)
  | .binQuantumEnd _ => true
  | .drbgRestart => true
  | .sealLag ns _ => userNs ns
  | .canBusOff _ => true
  | .canErrorActive _ => true
  | .pauseWdogIgnoreEnd _ => true
  | .recMirrorRebuilt _ => true
  | .lpddrMapOutCopyDone _ => true
  | .tempHistorySave => true
  | .ptpAnnounce _ _ => true
  | .syncIntervalExpiry _ => true
  | .seamStateRead _ => true
  | .drowseDeferLimit => true

end Sys2Proof
end

