-- ==== Sys2Proof/Certificates/Slice0/Obligations.lean ====
section
/-! DEFINITION. The statements about the module: what each command does, for every state and operands. -/

open Sys2Proof Sys2Proof.Machine

/-! ## Key-value commands -/

/-- R57, R58, R164: PUT and CPUT write the value, with the stamp of the command, CREATE_CSN kept from the value they
replace; nothing but the store, the chain of a sealed namespace and HOST_BYTES changes before the command retires. -/
def Obligations.PutStoresValue : Prop :=
  ∀ (s : State) (n : Fin 512) (cond : Bool),
    let x := s.slot n
    let c := s.cmdOf n
    let fresh := s.countsAsNew c (s.target n)
    s.runs n (isOp (if cond then 0x02 else 0x01)) →
    (∀ v ∈ s.target n, payloadKind v.payload = 1 ∧ s.heldAt x.csn v.stamp.csn = false) →
    (s.target n = none → bitOf 0 x.params.kinds = true) →
    s.restricted x = false →
    (cond = true → c.param 8 8 = ((s.target n).map (·.stamp.csn)).getD 0) →
    (x.params.writeOnce = true → s.target n = none) →
    s.roomFor x c fresh (byteGrowth c (if fresh then none else s.target n) c.dataLen) = none →
    s.latest n →
    Completes s (if cond then .cput n else .put n) n (fun u r =>
      r.status = St.DONE ∧ r.rflags = (if s.target n = none then 8 else 0)
        ∧ u.versionAt c.ns c.key (x.csn + 1) = some
            { ns := c.ns, key := c.key, stamp := slotStamp x, createCsn := ((s.target n).map (·.createCsn)).getD x.csn
              ingress := slotIngress x, expiry := x.expiryDt, payload := .plain c.data }
        ∧ s.otherKeysKept u n ∧ u.kv.holds = s.kv.holds ∧ u.kv.writers = s.kv.writers
        ∧ OnlyGroups [.kv, .od, .seals] s u ∧ OnlyEntries [Od.HOST_BYTES] s u)

/-- R58, R86, R95, R164, R167, R281: DELETE and CDELETE put a tombstone in the key's place and take its entry out of the index,
unless the value is held, protected or its object has a writer; of an absent key they are NOT_FOUND. -/
def Obligations.DeleteLeavesTombstone : Prop :=
  ∀ (s : State) (n : Fin 512) (cond : Bool),
    let x := s.slot n
    let c := s.cmdOf n
    let i : Instr := if cond then .cdelete n else .delete n
    s.runs n (isOp (if cond then 0x06 else 0x05)) → s.restricted x = false →
    (s.target n = none → Completes s i n (fun u r => u = s ∧ r.status = St.NOT_FOUND))
    ∧ (∀ v, s.target n = some v → s.heldAt x.csn v.stamp.csn = false → x.params.writeOnce = false →
        (cond = true → c.param 0 8 = v.stamp.csn) → s.writerOf? x.csn v = none → s.latest n →
        Completes s i n (fun u r => r.status = St.DONE
          ∧ u.versionAt c.ns c.key (x.csn + 1) = some { v with stamp := slotStamp x, payload := .tomb, expiry := none }
          ∧ u.valueAt c.ns c.key (x.csn + 1) x.bindClock = none
          ∧ (∀ e, e ∈ u.flash.index ↔ e ∈ s.flash.index ∧ ¬ (e.ns = c.ns ∧ e.key = c.key))
          ∧ s.otherKeysKept u n ∧ OnlyGroups [.kv, .seq, .flash] s u))

/-- R72, R91, R159, R168, R177, R391: GET, GETMETA and CREAD answer the value of their key as it stood at their CSN, and change
nothing but the cache of namespace keys and its counts when it lies on flash; of a value lost beyond parity they tell so. A GET
that meets a chunk whose tag fails waits for the rebuild. -/
def Obligations.ReadsAnswerAndChangeNothing : Prop :=
  ∀ (s : State) (n : Fin 512),
    let x := s.slot n
    let c := s.cmdOf n
    let unreadable (i : Instr) (P : Reply → Prop) : Prop := Completes s i n (fun u r => P r
      ∧ u.val Od.CNT_UNREADABLE = min (s.val Od.CNT_UNREADABLE + 1) (2 ^ 32 - 1) ∧ Only [.od] [Od.CNT_UNREADABLE] s u)
    (∀ d v chunk, s.runs n (isOp 0x03) → s.target n = some v → v.payload = .plain d →
      let m := if c.wantMeta then s.metaBlock x.csn v else []
      (s.getFailsOn n chunk = none → s.lost v = false → Completes s (.get n chunk) n (fun u r =>
          r.status = St.DONE ∧ r.data = d ∧ r.rparams = m ∧ r.trailer = (if d = [] then none else some (St.DONE, d.length))
          ∧ (s.stripeOf? v.stamp.csn = none → u = s) ∧ Only [.cipher, .od, .events] [Od.KEY_CACHE_MISSES] s u))
      ∧ (s.lost v = true → unreadable (.get n chunk) (fun r =>
          r.status = St.DONE ∧ r.rparams = m ∧ r.trailer = some (St.MEDIA_UNREADABLE, 0)))
      ∧ (∀ k, s.getFailsOn n chunk = some k → Answers (exec (.get n chunk) s) (fun t =>
          t.slot n = { x with retry := some (.parity k) } ∧ counted Od.CNT_CHUNK_TAG_FAIL s t
          ∧ Only [.seq, .od] [Od.CNT_CHUNK_TAG_FAIL] s t)))
    ∧ (∀ v, s.runs n (isOp 0x04) → s.target n = some v →
      (s.lost v = false → Completes s (.getmeta n) n (fun u r =>
          u = s ∧ r.status = St.DONE ∧ r.rparams = s.metaBlock x.csn v ∧ r.data = []))
      ∧ (s.lost v = true → unreadable (.getmeta n) (fun r => r.status = St.MEDIA_UNREADABLE)))
    ∧ (∀ v k m, s.runs n (isOp 0x22) → s.target n = some v → v.payload = .counter k m →
      (s.lost v = false → Completes s (.cread n) n (fun u r => u = s ∧ r.status = St.DONE ∧ r.rparams = counterParams k k))
      ∧ (s.lost v = true → unreadable (.cread n) (fun r => r.status = St.MEDIA_UNREADABLE)))
    ∧ (s.target n = none →
      (s.runs n (isOp 0x03) → Completes s (.get n none) n (fun u r => u = s ∧ r.status = St.NOT_FOUND))
      ∧ (s.runs n (isOp 0x04) → Completes s (.getmeta n) n (fun u r => u = s ∧ r.status = St.NOT_FOUND))
      ∧ (s.runs n (isOp 0x22) → Completes s (.cread n) n (fun u r => u = s ∧ r.status = St.NOT_FOUND)))

/-- R68 to R72, R177, R178: CADD adds by the counter's mode, CBADD within its bounds, CSET stores, CREADRESET stores 0 and
answers what it read; the mode stays, the key's stamp is the command's. COUNTER_BOUND changes nothing. A counter lost beyond
parity is MEDIA_UNREADABLE (the model's choice where R91 names reads alone, log 28). -/
def Obligations.CountersCount : Prop :=
  ∀ (s : State) (n : Fin 512) (k : Int) (m : CtrMode),
    s.counterAt n k m → s.restricted (s.slot n) = false → s.latest n →
    s.roomFor (s.slot n) (s.cmdOf n) (s.target n).isNone (byteGrowth (s.cmdOf n) (s.target n) 8) = none →
    let became (i : Instr) (stored shown : Int) (saturated : Nat) : Prop := Completes s i n (fun u r =>
      r.status = St.DONE ∧ r.rflags = saturated + (if s.target n = none then 8 else 0) ∧ r.rparams = counterParams shown k
        ∧ u.versionAt (s.cmdOf n).ns (s.cmdOf n).key ((s.slot n).csn + 1) = some (s.counterAfter n stored m)
        ∧ s.otherKeysKept u n ∧ OnlyGroups [.kv] s u)
    let bound (i : Instr) : Prop := Completes s i n (fun u r =>
      u = s ∧ r.status = St.COUNTER_BOUND ∧ r.rparams = counterParams k k)
    let d := (s.cmdOf n).paramInt 8
    (s.runs n (isOp 0x20) →
      (counterFits (k + d) = true → became (.cadd n) (k + d) (k + d) 0)
      ∧ (counterFits (k + d) = false → m = .wrap →
          became (.cadd n) (signed 64 (unsigned 64 (k + d))) (signed 64 (unsigned 64 (k + d))) 0)
      ∧ (counterFits (k + d) = false → m = .saturate →
          became (.cadd n) (if 0 ≤ k + d then 2 ^ 63 - 1 else -(2 ^ 63)) (if 0 ≤ k + d then 2 ^ 63 - 1 else -(2 ^ 63)) 1)
      ∧ (counterFits (k + d) = false → m = .refuse → bound (.cadd n)))
    ∧ (s.runs n (isOp 0x21) →
      ((s.cmdOf n).paramInt 16 ≤ k + d ∧ k + d ≤ (s.cmdOf n).paramInt 24 → became (.cbadd n) (k + d) (k + d) 0)
      ∧ (¬ ((s.cmdOf n).paramInt 16 ≤ k + d ∧ k + d ≤ (s.cmdOf n).paramInt 24) → bound (.cbadd n)))
    ∧ (s.runs n (isOp 0x24) → became (.cset n) d d 0)
    ∧ (s.runs n (isOp 0x23) → (s.target n).isSome → Completes s (.creadreset n) n (fun u r =>
        r.status = St.DONE ∧ r.rparams = counterParams 0 k
          ∧ u.versionAt (s.cmdOf n).ns (s.cmdOf n).key ((s.slot n).csn + 1) = some (s.counterAfter n 0 m)
          ∧ s.otherKeysKept u n ∧ OnlyGroups [.kv] s u))

/-- R60 to R62, R86, R173, R176: XOPEN MODE 0 answers the length of the object; MODE 1 takes the object's one writer handle,
creating the object at an absent key, answers the handle again to the session that holds it, and is OBJECT_BUSY to another;
XCLOSE releases the handle, and closes the object for good in a write-once namespace. -/
def Obligations.ObjectsOpenAndClose : Prop :=
  ∀ (s : State) (n : Fin 512),
    let x := s.slot n
    let c := s.cmdOf n
    let taken (object h : Nat) : Writer := { session := x.session, ns := c.ns, key := c.key, handle := h, object := object
                                             csn := x.csn, released := if s.sessionLives x then none else some x.csn }
    (∀ v e, s.runs n (fun c => c.opcode == 0x10 && c.param 0 1 != 1) → s.target n = some v → v.extent? = some e →
      Completes s (.xopenRead n) n (fun u r => u = s ∧ r.status = St.DONE ∧ r.rparams = openParams 0 e.length))
    ∧ (∀ v e, s.runs n (fun c => c.opcode == 0x10 && c.param 0 1 == 1) → s.target n = some v → v.extent? = some e →
        s.heldAt x.csn v.stamp.csn = false → e.closed = none →
        (s.writerOf? x.csn v = none → s.val Od.HEALTH_STATE ≠ 6 →
          Completes s (.xopenWrite n) n (fun u r => ∃ h, 0 < h ∧ h < 2 ^ 32 ∧ r.status = St.DONE ∧ r.rparams = openParams h e.length
            ∧ u.kv = { s.kv with writers := s.kv.writers ++ [taken v.createCsn h] } ∧ OnlyGroups [.kv, .draws] s u))
        ∧ (∀ w, s.writerOf? x.csn v = some w → Completes s (.xopenWrite n) n (fun u r => u = s
            ∧ (w.session = x.session → r.status = St.DONE ∧ r.rparams = openParams w.handle e.length)
            ∧ (w.session ≠ x.session → r.status = St.OBJECT_BUSY))))
    ∧ (s.runs n (fun c => c.opcode == 0x10 && c.param 0 1 == 1) → s.target n = none →
        bitOf 1 x.params.kinds = true → s.restricted x = false → s.roomFor x c true c.key.length = none → s.latest n →
        Completes s (.xopenWrite n) n (fun u r => ∃ h w, 0 < h ∧ h < 2 ^ 32 ∧ r.status = St.DONE ∧ r.rflags = 8
          ∧ r.rparams = openParams h 0
          ∧ u.versionAt c.ns c.key (x.csn + 1) = some w ∧ w.extent? = some {}
          ∧ w.createCsn = x.csn ∧ w.expiry = x.expiryDt ∧ u.kv.writers = s.kv.writers ++ [taken x.csn h]
          ∧ s.otherKeysKept u n ∧ OnlyGroups [.kv, .draws] s u))
    ∧ (∀ v e, s.runs n (isOp 0x15) → s.target n = some v → v.extent? = some e → s.holdsHandle x c v = true →
        Completes s (.xclose n) n (fun u r => r.status = St.DONE ∧ r.rparams = toBE 8 e.length
          ∧ u.kv.writers = s.kv.writers.map (fun w => if w.openOn x.csn v then { w with released := some x.csn } else w)
          ∧ (x.params.writeOnce = false → u.kv.versions = s.kv.versions)
          ∧ (x.params.writeOnce = true → ∃ w f, u.versionAt c.ns c.key x.csn = some w ∧ w.extent? = some f
              ∧ w.stamp = v.stamp ∧ f.cells = e.cells ∧ f.length = e.length ∧ f.closed = some x.csn)
          ∧ s.otherKeysKept u n ∧ OnlyGroups [.kv] s u))

/-- R63 to R65, R174: XWRITE and XAPPEND by the holder of the handle place their bytes in the object, which grows to hold them;
every other byte of the object keeps its value. -/
def Obligations.ObjectWritesPlaceBytes : Prop :=
  ∀ (s : State) (n : Fin 512) (append : Bool) (v : Version) (e : Extent),
    let x := s.slot n
    let c := s.cmdOf n
    let off := if append then e.length else c.param 8 8
    let mapped := (e.cells.filter (fun k => off ≤ k.addr && k.addr < off + c.dataLen)).length
    let cells := writeCells e.cells x.csn off c.data
    s.runs n (isOp (if append then 0x12 else 0x11)) → s.target n = some v → v.extent? = some e →
    s.restricted x = false → s.heldAt x.csn v.stamp.csn = false → s.holdsHandle x c v = true →
    (x.params.writeOnce = true → mapped = 0) →
    s.roomFor x c false ((c.dataLen : Int) - mapped) = none →
    (cells.length ≤ 1048576 ∨ extentRuns cells ≤ 1048576) → s.latest n →
    Completes s (if append then .xappend n else .xwrite n) n (fun u r =>
      r.status = St.DONE
        ∧ r.rparams = (if append then toBE 8 off else []) ++ toBE 8 (max e.length (off + c.data.length))
        ∧ (∃ w f, u.versionAt c.ns c.key (x.csn + 1) = some w ∧ w.extent? = some f
          ∧ w.stamp = slotStamp x ∧ w.createCsn = v.createCsn ∧ w.expiry = v.expiry
          ∧ f.length = max e.length (off + c.data.length) ∧ f.closed = e.closed
          ∧ ∀ a, cellByte f.cells a =
              if off ≤ a ∧ a < off + c.data.length then c.data.getD (a - off) 0 else cellByte e.cells a)
        ∧ s.otherKeysKept u n ∧ u.kv.writers = s.kv.writers ∧ OnlyGroups [.kv, .od] s u ∧ OnlyEntries [Od.HOST_BYTES] s u)

/-- R66, R67, R91, R159, R175: XPUNCH makes its range read as zeros and keeps the length, TRUNCATE sets the length and leaves
nothing at or beyond it; XREAD answers the bytes of its range below the length, those before a lost fragment when one is lost, and
waits for the rebuild where a chunk fails its tag. -/
def Obligations.ObjectRangesReadAndDiscard : Prop :=
  ∀ (s : State) (n : Fin 512) (v : Version) (e : Extent), s.target n = some v → v.extent? = some e →
    let x := s.slot n
    let c := s.cmdOf n
    let discards (i : Instr) (len : Nat) (gone : Nat → Prop) : Prop := Completes s i n (fun u r =>
      r.status = St.DONE
        ∧ (∃ w f, u.versionAt c.ns c.key (x.csn + 1) = some w ∧ w.extent? = some f
          ∧ w.stamp = slotStamp x ∧ f.length = len ∧ f.closed = e.closed
          ∧ ∀ a, (gone a → cellByte f.cells a = 0) ∧ (¬ gone a → cellByte f.cells a = cellByte e.cells a))
        ∧ s.otherKeysKept u n ∧ u.kv.writers = s.kv.writers ∧ OnlyGroups [.kv, .seq] s u)
    let unchanged (i : Instr) : Prop := Completes s i n (fun u r => u = s ∧ r.status = St.DONE)
    (x.params.writeOnce = false → s.restricted x = false → s.heldAt x.csn v.stamp.csn = false →
      s.holdsHandle x c v = true → s.latest n →
      (s.runs n (isOp 0x14) →
        (0 < c.param 16 8 → discards (.xpunch n) e.length (fun a => c.param 8 8 ≤ a ∧ a < c.param 8 8 + c.param 16 8))
        ∧ (c.param 16 8 = 0 → unchanged (.xpunch n)))
      ∧ (s.runs n (isOp 0x16) →
        (c.param 8 8 ≠ e.length → discards (.truncate n) (c.param 8 8) (fun a => c.param 8 8 ≤ a))
        ∧ (c.param 8 8 = e.length → unchanged (.truncate n))))
    ∧ ∀ byte, s.runs n (isOp 0x13) →
      let d := xreadBytes e (c.param 0 8) (c.param 8 8)
      let lost (k : ExtCell) : Prop := c.param 0 8 ≤ k.addr ∧ k.addr < c.param 0 8 + d.length ∧ s.fragLost k.frag = true
      (s.xreadFailsOn n byte = none → (∀ k ∈ e.cells, ¬ lost k) → Completes s (.xread n byte) n (fun u r =>
          r.status = St.DONE ∧ r.data.length = min (c.param 8 8) (e.length - c.param 0 8)
          ∧ (∀ k, k < r.data.length → r.data.getD k 0 = cellByte e.cells (c.param 0 8 + k))
          ∧ Only [.cipher, .od, .events] [Od.KEY_CACHE_MISSES] s u))
      ∧ (s.xreadFailsOn n byte = none → (∃ k ∈ e.cells, lost k) → Completes s (.xread n byte) n (fun u r =>
          ∃ k ∈ e.cells, lost k ∧ r.status = St.DONE ∧ r.trailer = some (St.MEDIA_UNREADABLE, k.addr - c.param 0 8)
          ∧ Only [.od] [Od.CNT_UNREADABLE] s u))
      ∧ (∀ k, s.xreadFailsOn n byte = some k → Answers (exec (.xread n byte) s) (fun t =>
          t.slot n = { x with retry := some (.parity k) } ∧ counted Od.CNT_CHUNK_TAG_FAIL s t
          ∧ Only [.seq, .od] [Od.CNT_CHUNK_TAG_FAIL] s t))

/-- R82, R84, R85, R179 to R181, Table 5.6: HOLD pins the values it names: of MODE 0 at once, of MODE 1 and 2 it places the hold and
its scan steps follow; at 4,096 holds it is refused. UNHOLD releases a hold that covers the namespace and no namespace its session may
not release. -/
def Obligations.HoldsPinAndRelease : Prop :=
  ∀ (s : State) (n : Fin 512), (s.slot n).incident = none → (s.slot n).routine = none →
    let x := s.slot n
    let c := s.cmdOf n
    let pins := (s.heldBy x c).map (·.stamp.csn)
    let placed (k : Nat) := { s.kv with holds := s.kv.holds ++ [{ csn := x.csn, covers := [c.ns], pinned := pins, counted := k }] }
    (s.runs n (isOp 0x30) → s.activeHolds.length < 4096 →
      (c.param 0 1 = 0 → Completes s (.hold n) n (fun u r => r.status = St.DONE
          ∧ r.rparams = toBE 8 pins.length ∧ u.kv = placed pins.length ∧ OnlyGroups [.kv] s u))
      ∧ (c.param 0 1 ≠ 0 → Answers (exec (.hold n) s) (fun t =>
          t.kv = placed 0 ∧ t.slot n = { x with routine := some (.holdScan x.csn), tsPublish := s.clock.dt }
          ∧ (s.val Od.HEALTH_STATE ≠ 6 → s.val Od.CIPHER_CORES ≠ 0 →
              t.pocket = { s.pocket with journal := s.pocket.journal ++ [jrecOf x c (holdRecord x.csn pins.length) 0] })
          ∧ OnlyGroups [.kv, .seq, .pocket, .events] s t)))
    ∧ (s.runs n (isOp 0x30) → 4096 ≤ s.activeHolds.length → Completes s (.hold n) n (fun u r => u = s ∧ r.status = St.NO_CONTEXT))
    ∧ (∀ h, s.runs n (isOp 0x31) → s.activeHolds.find? (fun k => k.csn == c.param 0 8) = some h → h.covers.contains c.ns = true →
        h.covers.all (fun ns => s.holdGranted x ns) = true →
        Completes s (.unhold n) n (fun u r => r.status = St.DONE
          ∧ u.kv = { s.kv with holds := s.kv.holds.map (fun k => if k.csn = h.csn then { k with released := some x.csn } else k) }
          ∧ OnlyGroups [.kv] s u))
    ∧ (s.runs n (isOp 0x31) → (∀ h ∈ s.activeHolds, h.csn ≠ c.param 0 8) →
        Completes s (.unhold n) n (fun u r => u = s ∧ r.status = St.NOT_FOUND))

/-- R169 to R172, R183, R191, R465: LIST answers the next keys within its bounds as one page, with a cursor while more of them
follow: in a user namespace its values, in namespace 0 the entries that the path may read; with a cursor it goes on after the last
key of the page before. SEAL_READ answers signed seals from a sequence number on; PING answers ECHO with the states found at its
binding. -/
def Obligations.ListsSealsAndPing : Prop :=
  ∀ (s : State) (n : Fin 512),
    let x := s.slot n
    let c := s.cmdOf n
    (∀ old, s.runs n (isOp 0x07) → (c.ns ≠ 0 ∨ s.seam.orphan = false) →
      (if c.param 8 8 = 0 then old = none else s.cursorOf? x c = old ∧ old.isSome = true) →
      let found := s.entriesAfter x c (old.map (·.last))
      let page := found.take (c.param 4 4)
      let others := s.kv.cursors.filter (fun k => !(some k == old))
      (found.length ≤ c.param 4 4 → Completes s (.list n) n (fun u r => r.status = St.DONE ∧ r.rflags = 0
          ∧ r.rparams = listParams 0 found.length ∧ r.data = found.flatMap (·.2)
          ∧ u.kv = { s.kv with cursors := others } ∧ OnlyGroups [.kv] s u))
      ∧ (∀ k, c.param 4 4 < found.length → old = some k → Completes s (.list n) n (fun u r => r.status = St.DONE ∧ r.rflags = 4
          ∧ r.rparams = listParams k.ident (c.param 4 4) ∧ r.data = page.flatMap (·.2)
          ∧ u.kv = { s.kv with cursors := others ++ [{ k with last := (page.getLast?.map (·.1)).getD [] }] } ∧ OnlyGroups [.kv] s u))
      ∧ (c.param 4 4 < found.length → old = none → s.sessionLives x = true →
          (s.kv.cursors.filter (fun k => k.session == x.session)).length < 16 → s.kv.cursors.length < 65536 →
          Completes s (.list n) n (fun u r => ∃ i, 0 < i ∧ i < 2 ^ 64 ∧ r.status = St.DONE ∧ r.rflags = 4
            ∧ r.rparams = listParams i (c.param 4 4) ∧ r.data = page.flatMap (·.2)
            ∧ u.kv = { s.kv with cursors := s.kv.cursors ++ [
                { ident := i, session := x.session, ns := c.ns, mode := c.param 0 1, lower := c.key, upper := c.data
                  last := (page.getLast?.map (·.1)).getD [] }] }
            ∧ OnlyGroups [.kv, .draws] s u)))
    ∧ (s.runs n (isOp 0x07) → (c.ns ≠ 0 ∨ s.seam.orphan = false) → c.param 8 8 ≠ 0 → s.cursorOf? x c = none →
        Completes s (.list n) n (fun u r => u = s ∧ r.status = St.NOT_FOUND))
    ∧ (∀ last, let vs := s.listed c.ns x.csn x.bindClock (c.param 0 1) c.key c.data last
        (∀ v, v ∈ vs ↔ v ∈ s.kv.versions ∧ v.ns = c.ns ∧ inBounds (c.param 0 1) c.key c.data v.key = true
          ∧ (∀ k, last = some k → keyLt k v.key = true) ∧ s.valueAt c.ns v.key x.csn x.bindClock = some v)
        ∧ vs.Pairwise (fun v w => keyLt w.key v.key = false))
    ∧ (∀ last e, e ∈ s.odEntries x c last → ∃ i j row, (i, j, row) ∈ odCells (·.readableAt x.level) ∧ e.1 = odKeyBytes i j
        ∧ inBounds (c.param 0 1) c.key c.data e.1 = true ∧ ∀ k, last = some k → keyLt k e.1 = true)
    ∧ (let seals := ((s.chain c.ns).seals.filter (fun y => y.signature.isSome && c.param 0 8 ≤ y.seqNo)).take (c.param 8 4)
       s.runs n (isOp 0x40) →
        (x.params.isSealed = true → seals ≠ [] → Completes s (.sealRead n) n (fun u r => u = s ∧ r.status = St.DONE
          ∧ r.data = seals.flatMap sealBytes ∧ r.rparams = toBE 8 (c.param 0 8 + seals.length) ++ toBE 4 seals.length ++ [0, 0, 0, 0]))
        ∧ ((x.params.isSealed = false ∨ seals = []) → Completes s (.sealRead n) n (fun u r => u = s ∧ r.status = St.NOT_FOUND)))
    ∧ (s.runs n (isOp 0x53) → Completes s (.ping n) n (fun u r => u = s ∧ r.status = St.DONE
        ∧ r.rparams = c.params.take 8 ++ toBE 1 x.pinged.1 ++ toBE 1 x.pinged.2 ++ [0, 0, 0, 0, 0, 0]))

/-- R184, R186 to R188: NOTICE_SUBSCRIBE replaces the session's subscription, BARRIER completes, FLUSH completes once every entry
below its CSN is durable and waits until then, FLUSH_DONE completes it, FENCE_CLEAR lifts the fence it names. What a session's end
leaves of its subscription and its fence, its commands still bound do not change. -/
def Obligations.SessionCommandsComplete : Prop :=
  ∀ (s : State) (n : Fin 512),
    let y := s.session (s.slot n).context
    (s.runs n (isOp 0x41) → s.sessionLives (s.slot n) = true →
        (beNat (s.cmdOf n).params % 2 ^ 256 = 0 ∨ (s.subscribers.filter (fun k => k != (s.slot n).context)).length < 256) →
      Completes s (.noticeSubscribe n) n (fun u r => r.status = St.DONE
        ∧ u.session (s.slot n).context = { y with noticeMask := BitVec.ofNat 256 (beNat (s.cmdOf n).params) }
        ∧ (∀ c, c ≠ (s.slot n).context → u.session c = s.session c) ∧ OnlyGroups [.wkp] s u))
    ∧ (s.runs n (isOp 0x41) → s.sessionLives (s.slot n) = false →
        Completes s (.noticeSubscribe n) n (fun u r => u = s ∧ r.status = St.DONE))
    ∧ (s.runs n (isOp 0x50) → Completes s (.barrier n) n (fun u r => u = s ∧ r.status = St.DONE))
    ∧ (s.runs n (isOp 0x51) → s.flushedBelow (s.slot n).csn = true →
        Completes s (.flush n) n (fun u r => r.status = St.DONE ∧ OnlyGroups [.events] s u))
    ∧ (s.runs n (isOp 0x51) → s.flushedBelow (s.slot n).csn = false → Answers (exec (.flush n) s) (fun t =>
        t.seq.flushing.contains (s.slot n).csn = true ∧ t.slot n = s.slot n ∧ OnlyGroups [.seq] s t))
    ∧ (s.runs n (isOp 0x51) → s.seq.flushing.contains (s.slot n).csn = true → s.flushedBelow (s.slot n).csn = true →
        Completes s (.flushDone n) n (fun u r => r.status = St.DONE
          ∧ u.seq.flushing.contains (s.slot n).csn = false ∧ OnlyGroups [.events, .seq] s u))
    ∧ (∀ f, s.runs n (isOp 0x52) → s.sameSession (s.slot n) = true → y.fence = some f → f.1 = (s.cmdOf n).param 0 4 →
        Completes s (.fenceClear n) n (fun u r => r.status = St.DONE
          ∧ r.rparams = toBE 4 f.1 ++ toBE 2 f.2 ++ [0, 0] ++ toBE 4 y.fencedCount ++ [0, 0, 0, 0]
          ∧ u.session (s.slot n).context =
              { y with fence := none, clearedAt := some (s.slot n).tag.toNat, lastFence := f, fencedCount := 0 }
          ∧ (∀ c, c ≠ (s.slot n).context → u.session c = s.session c) ∧ OnlyGroups [.wkp] s u))
    ∧ (s.runs n (isOp 0x52) → (s.sameSession (s.slot n) = false ∨ ∀ f, y.fence = some f → f.1 ≠ (s.cmdOf n).param 0 4) →
        Completes s (.fenceClear n) n (fun u r => u = s ∧ r.status = St.NOT_FOUND))

/-! ## Matcher -/

/-- R312, R314, R320, R324: TOKEN_QUERY answers the matching entry of the lowest address with its action and the generation, or
NOT_FOUND when none matches, which does not fence. -/
def Obligations.QueryAnswersLowestMatch : Prop :=
  ∀ (s : State) (n : Fin 512), s.runs n (isOp 0x38) → (s.slot n).denied = false → SMap.rising s.matcher.entries = true →
    let key := searchKey ((s.cmdOf n).param 0 16) ((s.cmdOf n).param 16 2) ((s.cmdOf n).param 18 2)
    let hit (e : MatchEntry) : Prop := entryHit (s.val Od.MATCH_ENABLE) key e = true
    (∀ a e, SMap.get? s.matcher.entries a = some e → hit e →
        (∀ b f, SMap.get? s.matcher.entries b = some f → hit f → a ≤ b) →
      Completes s (.tokenQuery n) n (fun u r => r.status = St.DONE
        ∧ r.rparams = toBE 4 a ++ toBE 4 (s.val Od.MATCH_GENERATION) ++ toBE 8 e.action.toNat
        ∧ OnlyGroups [.od] s u ∧ OnlyEntries [Od.CNT_MATCH_HITS] s u))
    ∧ ((∀ b f, SMap.get? s.matcher.entries b = some f → ¬ hit f) →
      Completes s (.tokenQuery n) n (fun u r => u = s ∧ r.status = St.NOT_FOUND
        ∧ failsFence (s.cmdOf n).opcode r.status = false))

/-- R315, R323, R325, R326, R329, R330, R332, R333, R335: TOKEN_EDIT writes its entry at the address it answers, the later entries one
place higher; replaces the action of the entry it names; or clears that entry, which begins a close-up in a Tuck list and moves the later
entries of its segment in a Pleat list. Each change that takes effect advances MATCH_GENERATION by one. One that MATCH_ACCESS did not
grant is NOT_FOUND; one held by a query with a lower CSN stays as it is. -/
def Obligations.TokenEditsChangeTheirEntry : Prop :=
  ∀ (s : State) (n : Fin 512),
    let c := s.cmdOf n
    let addressed (i : Instr) (p : Nat → Bool) : Prop := s.runs n (isEdit p) →
      (s.editHeld n = false → (s.slot n).denied = true → Completes s i n (fun u r => r.status = St.NOT_FOUND
          ∧ counted Od.CNT_MATCH_REFUSED s u ∧ Reports [] [Od.CNT_MATCH_REFUSED] s u))
      ∧ (s.editHeld n = true → exec i s = .next s)
    addressed (.tokenEditInsert n) (fun op => op != 2 && op != 3)
    ∧ addressed (.tokenEditReplace n) (fun op => op == 2) ∧ addressed (.tokenEditRemove n) (fun op => op == 3)
    ∧ (s.editHeld n = false → (s.slot n).denied = false → s.val Od.HEALTH_STATE ≠ 6 →
      let edited (i : Instr) (a : Nat) (P : State → Prop) : Prop := Completes s i n (fun u r => r.status = St.DONE
        ∧ u.val Od.MATCH_GENERATION = (s.val Od.MATCH_GENERATION + 1) % 2 ^ 32
        ∧ r.rparams = toBE 4 a ++ toBE 4 (u.val Od.MATCH_GENERATION) ∧ P u
        ∧ OnlyGroups [.matcher, .od, .pocket, .events, .seq] s u ∧ OnlyEntries [Od.MATCH_GENERATION, Od.CNT_MATCH_CHANGES] s u)
      (∀ l, s.runs n (isEdit (fun op => op != 2 && op != 3)) → s.listOf? (editList c) = some l →
        c.param 4 4 ≤ (s.listEntries l).length → (s.listEntries l).length < s.listRoom l →
        let here := s.listBase l + c.param 4 4
        let stop := s.listBase l + (s.listEntries l).length
        let seg := s.targetSegment l (c.param 4 4)
        let place := s.insertAddress l (c.param 4 4)
        (∀ a, s.isPleat l = false → SMap.get? s.matcher.holes l = some a → edited (.tokenEditInsert n) a (fun u =>
            u.matcher.entries = SMap.put s.matcher.entries a (editEntry c l) ∧ u.listBusy l = 0
            ∧ SMap.get? u.matcher.holes l = none))
        ∧ (s.isPleat l = false → SMap.get? s.matcher.holes l = none → edited (.tokenEditInsert n) here (fun u =>
            u.matcher.entries = SMap.put (moveUp (s.listEntries l).length s.matcher.entries stop here).1 here (editEntry c l)))
        ∧ (s.isPleat l = true → edited (.tokenEditInsert n) place (fun u =>
            u.matcher.entries = SMap.put (moveUp 16 s.matcher.entries (seg + s.segCount l seg) place).1 place (editEntry c l))))
      ∧ (∀ l k e, s.runs n (isEdit (fun op => op == 2)) → s.editTarget? c = some (l, k, e) →
        edited (.tokenEditReplace n) (c.param 4 4) (fun u =>
          u.matcher.entries = SMap.put s.matcher.entries (c.param 4 4) { e with action := BitVec.ofNat 64 (c.param 48 8) }))
      ∧ (∀ l k e, s.runs n (isEdit (fun op => op == 3)) → s.editTarget? c = some (l, k, e) →
        let left := SMap.erase s.matcher.entries (c.param 4 4)
        let next := (SMap.get? left (c.param 4 4 + 1)).isSome && decide (c.param 4 4 + 1 < s.listBase l + s.listSize l)
        edited (.tokenEditRemove n) (c.param 4 4) (fun u =>
          (s.isPleat l = false → u.matcher.entries = left
            ∧ (next = true → u.listBusy l = 2 ∧ SMap.get? u.matcher.holes l = some (c.param 4 4))
            ∧ (next = false → u.matcher.busy = s.matcher.busy ∧ u.matcher.holes = s.matcher.holes))
          ∧ (s.isPleat l = true → u.matcher.entries =
              (moveDown 16 left (c.param 4 4) (segBase (s.listBase l) (c.param 4 4) + 16)).1))))

/-- R332, R333, R336, R337: the moves that open a hole or close a list up keep the entries and their order, leave the table in its
canonical form, and carry the free place; a step of a hole, a close-up or a re-pleat carries the free place of its list, and tells
in LIST_BUSY what runs on the list. -/
def Obligations.MatcherRoutinesStep : Prop :=
  (∀ (k : Nat) (m : SMap MatchEntry) (gap limit : Nat), SMap.rising m = true → SMap.get? m gap = none →
    ((moveUp k m gap limit).1.map (·.2) = m.map (·.2) ∧ SMap.rising (moveUp k m gap limit).1 = true
      ∧ SMap.get? (moveUp k m gap limit).1 (moveUp k m gap limit).2.1 = none ∧ (moveUp k m gap limit).2.2 ≤ k)
    ∧ ((moveDown k m gap limit).1.map (·.2) = m.map (·.2) ∧ SMap.rising (moveDown k m gap limit).1 = true
      ∧ SMap.get? (moveDown k m gap limit).1 (moveDown k m gap limit).2.1 = none ∧ (moveDown k m gap limit).2.2 ≤ k))
  ∧ ∀ (s : State),
    (∀ (n : Fin 512) l, s.opensHole n (s.slot n) (s.cmdOf n) = some l →
      let gap := (SMap.get? s.matcher.holes l).getD (s.listBase l + (s.listEntries l).length)
      let target := s.listBase l + (s.cmdOf n).param 4 4
      Answers (exec (.tuckHoleOpen n) s) (fun t =>
        t.matcher.entries = (moveUp 1024 s.matcher.entries gap target).1
          ∧ SMap.get? t.matcher.holes l = some (moveUp 1024 s.matcher.entries gap target).2.1 ∧ t.listBusy l = 1
          ∧ (t.slot n).hole = (if (moveUp 1024 s.matcher.entries gap target).2.1 ≤ target then 2 else 1)
          ∧ OnlyGroups [.matcher, .seq, .events] s t))
    ∧ (∀ (l : Fin 64) gap, SMap.get? s.matcher.holes l = some gap → (s.listBusy l = 2 ∨ s.holeOwned l = false) →
      let moves := moveDown 1024 s.matcher.entries gap (s.listBase l + s.listSize l)
      Answers (exec (.tuckCloseUp l) s) (fun t =>
        t.matcher.entries = moves.1
          ∧ (moves.2.2 < 1024 → t.listBusy l = 0 ∧ SMap.get? t.matcher.holes l = none)
          ∧ (1024 ≤ moves.2.2 → t.listBusy l = s.listBusy l ∧ SMap.get? t.matcher.holes l = some moves.2.1)
          ∧ OnlyGroups [.matcher, .seq, .events] s t))
    ∧ (∀ (l : Fin 64), s.listBusy l = 3 → Answers (exec (.repleat l) s) (fun t =>
        (s.fullSegments l = [] → t.listBusy l = 0 ∧ t.matcher.entries = s.matcher.entries)
          ∧ (∀ b, ((s.fullSegments l).filter (s.roomAfter l)).getLast? = some b →
              t.matcher.entries = (s.repleatLater l b).matcher.entries)
          ∧ (∀ b, (s.fullSegments l).filter (s.roomAfter l) = [] → (s.fullSegments l).head? = some b → s.listBase l < b →
              t.matcher.entries = (s.repleatEarlier l b).matcher.entries)
          ∧ (t.listBusy l = 0 ↔ t.fullSegments l = []) ∧ (t.listBusy l = 0 ∨ t.listBusy l = 3) ∧ OnlyGroups [.matcher, .seq, .events] s t))

/-! ## The sequencer -/

/-- R46, R73, R77, R157, R202 to R206: the first of the bindable commands takes the next CSN and the present DT, TE and parameters of its
namespace; an ordered command of a fenced session retires at once with FENCED, one of an unknown opcode with MALFORMED; one that step 1
of R164 refuses leaves without a CSN; one that does not meet the conditions, or is not the first, stays as it is. The last CSN is below
2^64 - 1 in the first clause: what follows the last one the spec does not say (the model's choice, log 12). -/
def Obligations.BindingStampsCommand : Prop :=
  ∀ (s : State) (n : Fin 512),
    (s.bindable n → s.fenceAtBind (s.slot n) = none → (opInfo? (s.cmdOf n).opcode).isSome = true → s.nextCsn < 2 ^ 64 →
      Answers (exec (.commandBind n) s) (fun t =>
        (t.slot n).state = .bound ∧ (t.slot n).csn = s.nextCsn ∧ t.seq.csnLast = s.nextCsn ∧ s.seq.csnLast < t.seq.csnLast
          ∧ (t.slot n).tsBind = s.clock.dt ∧ (t.slot n).te = s.clock.te ∧ (t.slot n).frags = (s.slot n).frags
          ∧ (t.slot n).expiryDt = s.resolveExpiry (s.cmdOf n) ∧ (t.slot n).params = s.nsParams (s.cmdOf n).ns
          ∧ (t.slot n).bindClock = s.clock.expiry
          ∧ (∀ m, m ≠ n.val → t.slot m = s.slot m)
          ∧ OnlyGroups [.seq, .wkp, .od, .events] s t ∧ OnlyEntries [Od.CNT_MATCH_QUERIES] s t))
    ∧ (∀ f, s.bindable n → s.fenceAtBind (s.slot n) = some f → s.nextCsn < 2 ^ 64 →
        ∃ u : State, exec (.commandBind n) s = .next (u.retire n (u.slot n) (s.cmdOf n) (fencedReply f))
          ∧ u.seq.csnLast = s.nextCsn ∧ (u.slot n).csn = s.nextCsn ∧ u.kv = s.kv)
    ∧ (s.bindable n → s.fenceAtBind (s.slot n) = none → opInfo? (s.cmdOf n).opcode = none → s.nextCsn < 2 ^ 64 →
        ∃ u : State, exec (.commandBind n) s = .next (u.retire n (u.slot n) (s.cmdOf n) (.fail St.MALFORMED))
          ∧ u.seq.csnLast = s.nextCsn ∧ (u.slot n).csn = s.nextCsn ∧ u.kv = s.kv)
    ∧ (∀ st, s.inTurn n (s.slot n) = true → s.unboundRefusal (s.slot n) (s.cmdOf n) = some st →
        Answers (exec (.commandBind n) s) (fun t => (t.slot n).state = .free ∧ t.seq.csnLast = s.seq.csnLast
          ∧ (∀ m, m ≠ n.val → t.slot m = s.slot m) ∧ OnlyGroups (.seq :: .draws :: reporting) s t))
    ∧ (s.inTurn n (s.slot n) = false → exec (.commandBind n) s = .next s)
    ∧ (s.unboundRefusal (s.slot n) (s.cmdOf n) = none → ¬ s.bindable n → exec (.commandBind n) s = .next s)

/-- R90, R96, R164, R188, R201, R213: whatever a command of the store would do, a fenced one completes with FENCED and the tag and
status of the fence, and one that fails the common checks completes with their status; neither changes anything before it retires. A
command that retires leaves its slot FREE and its op engine idle, its record in the journal when it has one, and a supervisor's
command its outcome beside its tag; an ordered one that fails fences its open session. -/
def Obligations.ChecksComeFirstAndRetiringFreesSlot : Prop :=
  (∀ (s : State) (i : Instr) (n : Fin 512) (acc : Cmd → Bool), kvRow i = some (n, acc) →
    (s.slot n).state = .executing → (s.slot n).retry = none → acc (s.cmdOf n) = true →
    (∀ f, s.fencesSlot (s.slot n) = some f →
      exec i s = .next (s.retire n (s.slot n) (s.cmdOf n) { status := St.FENCED, rparams := toBE 4 f.1 ++ toBE 2 f.2 ++ [0, 0] }))
    ∧ (∀ st, s.fencesSlot (s.slot n) = none → s.gate (s.slot n) (s.cmdOf n) = some st →
      exec i s = .next (s.retire n (s.slot n) (s.cmdOf n) { status := st })))
  ∧ ∀ (s : State) (n : Fin 512) (x : Slot) (c : Cmd) (r : Reply),
    let t := s.retire n x c r
    (t.slot n).state = .free
      ∧ (∀ e, x.ope = some e → (t.engine e).slot = none)
      ∧ (∀ j, retireRecord x c r = some j → s.val Od.HEALTH_STATE ≠ 6 → s.val Od.CIPHER_CORES ≠ 0 →
          t.pocket = { s.pocket with journal := s.pocket.journal ++ [j] })
      ∧ (retireRecord x c r = none → t.pocket = s.pocket)
      ∧ (∀ k, x.session = 0 → x.supTag = some k → t.seam.tags = ((k, r.final) :: s.seam.tags).take 4096)
      ∧ (x.session ≠ 0 → x.ordered = true → failsFence c.opcode r.final = true → r.final ≠ St.FENCED → s.sameSession x = true →
          (s.session x.context).fence = none → (s.session x.context).state = .isOpen →
          (t.session x.context).fence = some (x.tag.toNat, r.final))
      ∧ (∀ v ∈ t.kv.versions, v ∈ s.kv.versions)

/-- R133, R134, R138, R207, R208, R217, R219, R230, R578: a slot whose interlock is free and that no other precedes goes to a free op
engine, which begins at the entry of its routine; age raises it; the step of a routine or of a command is counted, a scan step counts
some of the values held; an expired wait frees its slot and is counted, an expired response is released. -/
def Obligations.SlotsAdvance : Prop :=
  ∀ (s : State) (n : Fin 512) (o : Fin 36),
    (s.dispatchable n (s.slot n) = true → (s.slot n).mchkOn.contains o.val = false →
      s.seq.slots.any (fun p => p.1 != n.val && goesBefore p.2 (s.slot n) && s.dispatchable p.1 p.2) = false →
      (s.engine o).inService = true → (s.engine o).retired = false → (s.engine o).reloading = false → (s.engine o).slot = none →
      s.seq.stopped = false → s.power.engine = .run → Answers (exec (.commandDispatch n o) s) (fun t =>
        t.slot n = { s.slot n with state := .executing, retry := none, ope := some o.val, tsDispatch := s.clock.dt }
          ∧ (t.engine o).slot = some n.val
          ∧ ((s.slot n).state = .bound →
              (t.engine o).pc = Config.routineEntry (BitVec.ofNat 8 (slotOp (s.slot n))) ∧ (t.engine o).calls = [])
          ∧ (∀ m, m ≠ n.val → t.slot m = s.slot m)
          ∧ Only [.seq, .flash, .cipher, .od, .events] [Od.KEY_CACHE_MISSES] s t))
    ∧ (s.dispatchable n (s.slot n) = false ∨ (s.engine o).slot ≠ none ∨ s.power.engine ≠ .run →
        exec (.commandDispatch n o) s = .next s)
    ∧ ((s.slot n).state = .bound → Answers (exec (.dispatchAgeExpiry n) s) (fun t =>
        t.slot n = { s.slot n with aged := true } ∧ slotRank (t.slot n) = 7 ∧ OnlyGroups [.seq] s t))
    ∧ (∀ r k, (s.slot n).state = .executing → (s.slot n).routine = some r → (∀ h, r ≠ .holdScan h) → r ≠ .verify →
        s.backgroundRuns = true → (s.slot n).stepsLeft = k + 1 → Answers (exec (.longRoutineStep n) s) (fun t =>
          (k = 0 → (t.slot n).state = .free) ∧ (0 < k → (t.slot n).stepsLeft = k ∧ (t.slot n).step = (s.slot n).step + 1)
            ∧ OnlyGroups [.seq] s t))
    ∧ (∀ k, (s.slot n).state = .executing → (s.slot n).routine = some (.holdScan k) → s.kv.loaded = true → s.live = true →
        s.admin.pauseStage ≤ 2 → ∃ u : State,
          exec (.longRoutineStep n) s = .next (if u.scanLeft k = 0 then u.endScan n k else u)
          ∧ u.kv = { s.kv with holds := s.kv.holds.map (fun h => if h.csn = k then
                { h with counted := min h.pinned.length (h.counted + 1 + (Config.scanBatch s.draws).toNat) } else h) }
          ∧ (u.slot n).step = (s.slot n).step + 1 ∧ (∀ m, m ≠ n.val → u.slot m = s.slot m)
          ∧ OnlyGroups [.kv, .seq, .draws] s u)
    ∧ ((s.slot n).state = .executing → (s.slot n).routine = none → Answers (exec (.longRoutineStep n) s) (fun t =>
        t.slot n = { s.slot n with step := (s.slot n).step + 1, mchkOn := [] } ∧ OnlyGroups [.seq] s t))
    ∧ ((s.slot n).state = .filled → slotComplete (s.slot n) = true → s.waitsForTag n (s.slot n) = true →
        Answers (exec (.gapTimeoutExpiry n) s) (fun t => (t.slot n).state = .free
          ∧ t.val Od.CNT_GAP_DROPS = (s.val Od.CNT_GAP_DROPS + 1) % 2 ^ 32
          ∧ OnlyGroups [.seq, .od] s t ∧ OnlyEntries [Od.CNT_GAP_DROPS] s t))
    ∧ ((s.slot n).state = .filled → slotComplete (s.slot n) = false →
        Answers (exec (.reassemblyTimeoutExpiry n) s) (fun t => (t.slot n).state = .free
          ∧ t.val Od.CNT_REASSEMBLY_DROPS = (s.val Od.CNT_REASSEMBLY_DROPS + 1) % 2 ^ 32
          ∧ OnlyGroups [.seq, .od] s t ∧ OnlyEntries [Od.CNT_REASSEMBLY_DROPS] s t))
    ∧ (∀ (k : Fin 32768) tag, Answers (exec (.responseHoldExpiry k tag) s) (fun t =>
        (t.session k).replays.all (fun r => !(r.tag == tag.toNat && r.held)) = true
          ∧ (∀ r ∈ (s.session k).replays, r.tag ≠ tag.toNat → r.held = true → r ∈ (t.session k).replays)
          ∧ OnlyGroups [.wkp] s t))

/-! ## Sessions -/

/-- R113, R117 to R121, R143, R150: a HELLO with a cookie that the module made opens a FREE context with the next generation, half open
when it is secured, with its grant out of the limits in force; one without is answered with a cookie, and one that is refused with a
CLOSE: neither keeps any state but the count of its source's HELLOs. -/
def Obligations.HelloOpensContext : Prop :=
  ∀ (s : State) (rx : Rx),
    let h := parseHello false rx.dg.payload
    s.wkpServed = true → s.headerValid rx 0x01 = true → wholeMessage rx.dg = true → bitOf 1 rx.dg.flags.toNat = false →
    helloBodyValid false (rx.dg.version == 2) rx.dg.payload = true → s.hellosFrom rx.src < s.val Od.HELLO_RATE_PER_SOURCE →
    s.admin.pauseStage = 0 → s.duplicateOf rx = none →
    (s.cookieValid rx h = false → Answers (exec (.hello rx) s) (fun t =>
      t.val Od.CNT_COOKIES_SENT = (s.val Od.CNT_COOKIES_SENT + 1) % 2 ^ 32 ∧ t.hellosFrom rx.src = s.hellosFrom rx.src + 1
        ∧ (∀ k, sentLike (s.session k) (t.session k)) ∧ OnlyGroups reporting s t))
    ∧ (∀ st, s.cookieValid rx h = true → s.helloRefusal rx h = some st → Answers (exec (.hello rx) s) (fun t =>
        t.hellosFrom rx.src = s.hellosFrom rx.src + 1
          ∧ (∀ k, sentLike (s.session k) (t.session k)) ∧ OnlyGroups reporting s t))
    ∧ (∀ c, s.cookieValid rx h = true → s.helloRefusal rx h = none →
        firstFree 0 32768 (Config.contextPick s.draws).val (fun k => (s.session k).state == .free) = some c →
        Answers (exec (.hello rx) s) (fun t =>
          (t.session c).state = (if h.secured then .halfOpen false else .isOpen)
            ∧ (t.session c).gen = (if (s.session c).gen = 16383 then 1 else (s.session c).gen + 1)
            ∧ (t.session c).secured = h.secured ∧ (t.session c).ordered = h.ordered ∧ (t.session c).src = rx.src
            ∧ (t.session c).slotLimit = s.val Od.SLOTS_PER_SESSION
            ∧ (t.session c).creditUnits = throttled s.pocketFill (s.val Od.POCKET_THROTTLE) (s.val Od.CREDIT_BYTES_MAX) 4100
            ∧ (t.session c).creditCmds = throttled s.pocketFill (s.val Od.POCKET_THROTTLE) (s.val Od.CREDIT_CMDS_MAX) 1
            ∧ (t.session c).seenTags = [] ∧ (t.session c).fence = none
            ∧ (∀ k, k ≠ c → sentLike (s.session k) (t.session k)) ∧ OnlyGroups (.draws :: reporting) s t))

/-- R112, R114, R122, R125 to R129: a RESUME with the latest token continues its context, with its tags, its fence and its generation; the
fragments of a FINISH are gathered; one whose certificate and signature are accepted opens its session with the group of its anchor,
and any other ends it. -/
def Obligations.HandshakesOpenSessions : Prop :=
  ∀ (s : State) (rx : Rx), s.wkpServed = true →
    let h := parseHello true rx.dg.payload
    let c := contextOf h.oldSession
    let old := s.session c
    let k := contextOf rx.dg.session
    let half (z : SessState) : Bool := z == .halfOpen true || z == .halfOpen false
    let frags := insertFrag (bitsOf 24 0 rx.dg.frag.toNat) rx.dg.payload (s.session k).gathered
    let body := assemble frags
    let whole : Prop := (s.session k).gatherLen.all (· == rx.dg.msgLen.toNat) = true ∧ body.length = rx.dg.msgLen.toNat
    (s.headerValid rx 0x06 = true → wholeMessage rx.dg = true → bitOf 1 rx.dg.flags.toNat = false →
      helloBodyValid true false rx.dg.payload = true →
      s.hellosFrom rx.src < s.val Od.HELLO_RATE_PER_SOURCE → s.admin.pauseStage = 0 → s.duplicateOf rx = none →
      s.cookieValid rx h = true → (s.staleReason? h.oldSession = none ∨ s.staleReason? h.oldSession = some 1) →
      (old.state = .dormant ∨ old.state = .isOpen) → old.hasToken = true → old.tokenDigest = tokenDigestOf h.token →
      h.secured = old.secured → (old.secured = true → s.securedUnreachable = false ∧ s.val Od.DRBG_STATE ≠ 2) →
      Answers (exec (.resume rx) s) (fun t =>
        (t.session c).state = (if old.secured then .halfOpen true else .isOpen) ∧ (t.session c).gen = old.gen
          ∧ (t.session c).seenTags = old.seenTags ∧ (t.session c).highTag = old.highTag ∧ (t.session c).fence = old.fence
          ∧ (t.session c).ordered = old.ordered ∧ (t.session c).src = rx.src
          ∧ (∀ j, j ≠ c → sentLike (s.session j) (t.session j)) ∧ OnlyGroups (.draws :: reporting) s t))
    ∧ (∀ cert, s.verdict rx 0x04 half = .accept → (s.session k).gatherLen.all (· == rx.dg.msgLen.toNat) = true →
        body.length ≠ rx.dg.msgLen.toNat → Answers (exec (.finish rx cert) s) (fun t =>
          (t.session k).gathered = frags ∧ (t.session k).state = (s.session k).state
            ∧ (∀ j, j ≠ k → sentLike (s.session j) (t.session j)) ∧ OnlyGroups reporting s t))
    ∧ (∀ cert g, s.verdict rx 0x04 half = .accept → whole → s.securedUnreachable = false → s.anchorGroup? cert rx = some g →
        finishFormed body = true → s.certAccepted cert = true → ((s.session k).state = .halfOpen true →
          (s.session k).group = g ∧ (s.session k).serviceAnchor = cert.serviceAnchor) →
        cert.signs = finishDigest (s.session k) body →
        Answers (exec (.finish rx cert) s) (fun t =>
          (t.session k).state = .isOpen ∧ (t.session k).group = g ∧ (t.session k).hasToken = true
            ∧ (t.session k).tokenDigest = tokenDigestOf (Config.resumeToken s.draws)
            ∧ (∀ j, j ≠ k → sentLike (s.session j) (t.session j)) ∧ OnlyGroups (.draws :: reporting) s t))
    ∧ (∀ cert, s.verdict rx 0x04 half = .accept → whole → s.securedUnreachable = false → (s.session k).state = .halfOpen false →
        (s.anchorGroup? cert rx = none ∨ finishFormed body = false ∨ s.certAccepted cert = false
          ∨ cert.signs ≠ finishDigest (s.session k) body) →
        Answers (exec (.finish rx cert) s) (fun t =>
          (t.session k).state = .free ∧ (t.session k).gen = (s.session k).gen
            ∧ t.val Od.CNT_AUTH_REFUSED = (s.val Od.CNT_AUTH_REFUSED + 1) % 2 ^ 32 ∧ t.kv.versions = s.kv.versions))

/-- R113, R114, R135, R138, R144: how a session ends. CLOSE leads to CLOSING, or to FREE when none of its commands is bound; an
idle one goes to FREE; a handshake entered by HELLO goes to FREE and a resumed one back to DORMANT; DORMANT goes to FREE when its
window ends. An acknowledgment releases the responses that it covers. -/
def Obligations.SessionsEnd : Prop :=
  ∀ (s : State),
    let released (sid : BitVec 32) := s.kv.writers.map (fun w =>
      if w.session = sid ∧ w.released = none then { w with released := some s.seq.csnLast } else w)
    (∀ (c : Fin 32768), (s.session c).state = .isOpen → Answers (exec (.idleTimeoutExpiry c) s) (fun t =>
      (t.session c).state = .free ∧ (t.session c).gen = (s.session c).gen
        ∧ t.kv.writers = released (sessionId c (s.session c).gen)
        ∧ t.kv.cursors = s.kv.cursors.filter (fun w => w.session != sessionId c (s.session c).gen)
        ∧ t.kv.versions = s.kv.versions))
    ∧ (∀ (c : Fin 32768), (s.session c).state = .halfOpen true → Answers (exec (.handshakeTimeoutExpiry c) s) (fun t =>
        t.session c = { s.session c with
            state := .dormant, windowRuns := true, helloBody := [], replyBody := [], transcript := 0, keyCd := 0, keyDc := 0
            gathered := [], gatherLen := none }
          ∧ (∀ j, j ≠ c.val → t.session j = s.session j) ∧ OnlyGroups [.wkp] s t))
    ∧ (∀ (c : Fin 32768), (s.session c).state = .halfOpen false → Answers (exec (.handshakeTimeoutExpiry c) s) (fun t =>
        (t.session c).state = .free ∧ (t.session c).gen = (s.session c).gen ∧ t.kv.versions = s.kv.versions))
    ∧ (∀ (c : Fin 32768), (s.session c).state = .dormant → (s.session c).windowRuns = true →
        Answers (exec (.resumeWindowExpiry c) s) (fun t =>
          (t.session c).state = .free ∧ (t.session c).gen = (s.session c).gen
            ∧ t.kv.writers = released (sessionId c (s.session c).gen) ∧ t.kv.versions = s.kv.versions))
    ∧ (∀ rx, s.wkpServed = true → s.verdict rx 0x1E (fun z => z == .isOpen) = .accept →
        let c := contextOf rx.dg.session
        let left := (s.sessionSlots (sessionId c (s.session c).gen)).filter (fun e => e.2.state != .filled)
        Answers (exec (.closeReceived rx) s) (fun t =>
          (t.session c).state = (if left.isEmpty then .free else .closing) ∧ (t.session c).gen = (s.session c).gen
            ∧ t.kv.versions = s.kv.versions))
    ∧ (∀ rx, s.wkpServed = true → s.verdict rx 0x12 (fun z => z == .isOpen || z == .closing) = .accept →
        let c := contextOf rx.dg.session
        Answers (exec (.ackReceived rx) s) (fun t =>
          (t.session c).replays = releaseAcked rx.dg (s.session c).replays ∧ (t.session c).state = (s.session c).state
            ∧ (∀ j, j ≠ c → sentLike (s.session j) (t.session j)) ∧ OnlyGroups reporting s t))

/-- R131, R134, R141, R142, R197 to R199: the first datagram of a new command within its credit takes a FREE slot of its origin,
which keeps what it carries and where and when it came; a later one adds its fragment. -/
def Obligations.DatagramsFillSlots : Prop :=
  ∀ (s : State) (rx : Rx), s.wkpServed = true → s.verdict rx 0x10 (fun z => z == .isOpen) = .accept →
    let d := rx.dg
    let c := contextOf d.session
    let t := extTag (s.session c).highTag d.tag.toNat
    d.tag ≠ 0 →
    (∀ n x, s.slotOfTag? d.session d.tag = some (n, x) → x.msgLen = d.msgLen.toNat → x.state = .filled → slotComplete x = false →
        windowBase (max (s.session c).highTag t) ≤ t →
      Answers (exec (.commandDatagram rx) s) (fun u =>
        u.slot n = { x with frags := insertFrag (bitsOf 24 0 d.frag.toNat) d.payload x.frags }
          ∧ (∀ m, m ≠ n → u.slot m = s.slot m) ∧ OnlyGroups (.seq :: reporting) s u))
    ∧ (s.slotOfTag? d.session d.tag = none → s.lengthDiffers c t d = false → windowBase (max (s.session c).highTag t) ≤ t →
        (windowTo (acceptDatagram (s.session c) rx) t).replays.find? (fun r => r.tag == d.tag.toNat) = none →
        s.exceedsGrant c d = false → s.admin.pauseStage = 0 →
        (s.sessionSlots (sessionId c (s.session c).gen)).length < (s.session c).slotLimit →
        (∃ m, (originSlots rx).1 ≤ m ∧ m < (originSlots rx).1 + (originSlots rx).2 ∧ (s.slot m).state = .free) →
        (reservationOf d = 0 ∨ s.valueAreaUsed + reservationOf d ≤ 83886080) →
      Answers (exec (.commandDatagram rx) s) (fun u => ∃ n,
        (originSlots rx).1 ≤ n ∧ n < (originSlots rx).1 + (originSlots rx).2 ∧ (s.slot n).state = .free
          ∧ (u.slot n).state = .filled ∧ (u.slot n).session = d.session ∧ (u.slot n).tag = d.tag
          ∧ (u.slot n).frags = [(bitsOf 24 0 d.frag.toNat, d.payload)] ∧ (u.slot n).reserved = reservationOf d
          ∧ (u.slot n).tsFirst = s.clock.dt ∧ (u.slot n).port = rx.port.val ∧ (u.slot n).csn = 0
          ∧ (∀ m, m ≠ n → u.slot m = s.slot m) ∧ OnlyGroups (.seq :: .draws :: .power :: reporting) s u))

/-- R118, R135, R143, R172, R214: what time does to sessions. A due acknowledgment leaves; the cookie secret is replaced and the
one before stays; an idle cursor goes; the grants follow the fill of the Pocket. -/
def Obligations.SessionTimersAct : Prop :=
  ∀ (s : State),
    (∀ (c : Fin 32768), (s.session c).ackDue = true → (s.session c).state = .isOpen →
      numbersUsed (s.session c) = false →
      Answers (exec (.ackDelayExpiry c) s) (fun t =>
        t.session c = { s.session c with ackDue := false, txPn := (s.session c).txPn + 1 }
          ∧ (∀ j, j ≠ c.val → t.session j = s.session j) ∧ OnlyGroups reporting s t))
    ∧ (s.live = true → Answers (exec .cookieRotation s) (fun t =>
        t.wkp = { s.wkp with secretNow := Config.cookieSecret s.draws, secretOld := s.wkp.secretNow } ∧ t.draws = s.draws + 1
          ∧ OnlyGroups [.wkp, .draws] s t))
    ∧ (∀ k, Answers (exec (.cursorIdleExpiry k) s) (fun t =>
        t.kv = { s.kv with cursors := s.kv.cursors.filter (fun x => x.ident != k.toNat) } ∧ OnlyGroups [.kv] s t))
    ∧ (∀ c, (s.session c).state ≠ .free → Answers (exec .creditRecompute s) (fun t =>
        (t.session c).creditUnits = throttled s.pocketFill (s.val Od.POCKET_THROTTLE) (s.session c).unitLimit 4100
        ∧ (t.session c).creditCmds = throttled s.pocketFill (s.val Od.POCKET_THROTTLE) (s.session c).cmdLimit 1
        ∧ (t.pocket.throttled = true ↔ s.val Od.POCKET_THROTTLE < s.pocketFill)
        ∧ OnlyGroups (.pocket :: reporting) s t))

/-! ## Pause, power states and supply -/

/-- R222, R223, Table 5.7: a service reset closes intake and frees FILLED slots, or joins the pause that runs; drained, OPEN sessions
become DORMANT with what they acknowledged; reopened, their RESUME_WINDOW starts. -/
def Obligations.ServicePauseRunsItsStages : Prop :=
  ∀ (s : State),
    (∀ path, s.admits path 2 → s.resetRefused = false → s.admin.pauseStage = 0 → Takes s (.serviceReset path 1) path (fun t =>
      t.admin = { s.admin with pauseStage := 1, activation := false
                               slotsFreed := (s.seq.slots.filter (fun e => e.2.state == .filled)).length }
        ∧ t.val Od.INTAKE_STATE = 1 ∧ t.val Od.SERVICE_RESET = 1
        ∧ t.seq.slots = s.seq.slots.filter (fun e => e.2.state != .filled) ∧ OnlyGroups [.od, .seq, .admin, .power] s t))
    ∧ (∀ path, s.admits path 2 → s.resetRefused = false → s.admin.pauseStage ≠ 0 →
        Takes s (.serviceReset path 1) path (fun t => Only [.od] [] s t))
    ∧ (∀ path, s.admits path 2 → s.resetRefused = true → TurnedDown s (.serviceReset path 1) path .state)
    ∧ (s.admin.pauseStage = 1 → s.boundWork = false → Answers (exec .servicePauseDrained s) (fun t =>
        t.admin.pauseStage = 3 ∧ t.val Od.LAST_RESET_CSN = s.seq.csnLast ∧ t.kv.versions = s.kv.versions
          ∧ (SMap.rising s.wkp.sessions = true → s.admin.formatRuns = false → ∀ c,
            ((s.session c).state = .isOpen → (s.session c).version ≠ 2 → (t.session c).state = .dormant
              ∧ (t.session c).gen = (s.session c).gen ∧ (t.session c).seenTags = (s.session c).seenTags
              ∧ (t.session c).fence = (s.session c).fence)
            ∧ ((s.session c).state = .isOpen → (s.session c).version = 2 → (t.session c).state = .free)
            ∧ ((s.session c).state = .closing → (t.session c).state = .free))))
    ∧ (∀ us, s.admin.pauseStage = 3 → s.admin.activation = false → s.admin.formatRuns = false →
        Answers (exec (.servicePauseReopen us) s) (fun t =>
          t.admin = { s.admin with pauseStage := 0, activation := false } ∧ t.val Od.INTAKE_STATE = 0 ∧ t.val Od.SERVICE_RESET = 0
            ∧ t.val Od.SERVICE_PAUSE_MAX = max (s.val Od.SERVICE_PAUSE_MAX) us.toNat
            ∧ (∀ c, (s.session c).state = .dormant → (t.session c).windowRuns = true)
            ∧ Reports [.admin] [Od.INTAKE_STATE, Od.SERVICE_RESET, Od.SERVICE_PAUSE_MAX] s t))

/-- R225, R228, R545, R546, Table 5.8: an idle engine enters HUSH, and with an empty Pocket DOZE; entries are counted; with a slot in
use it enters neither. -/
def Obligations.EnginePowerStatesFollowLoad : Prop :=
  ∀ (s : State),
    let entered (sub : Nat) (t : State) : Prop :=
      t.odGet 0 Od.CNT_STATE_ENTRIES sub = (s.odGet 0 Od.CNT_STATE_ENTRIES sub + 1) % 2 ^ 64
        ∧ Only [.power, .od] [Od.CNT_STATE_ENTRIES] s t
    (s.power.phase = .running → s.power.engine = .run → s.seq.slots = [] → s.mediaQuiet = true →
      Answers (exec .hushEntry s) (fun t =>
        t.power = { s.power with engine := .hush, enteredAt := s.clock.ticks } ∧ entered 1 t))
    ∧ (s.power.engine = .hush → Answers (exec .hushExit s) (fun t =>
        t.power = { s.power with engine := .run } ∧ OnlyGroups [.power] s t))
    ∧ (s.power.phase = .running → s.power.engine ≠ .doze → s.seq.slots = [] → s.pocketUsed = 0 → s.mediaQuiet = true →
        s.power.firstOpen = true →
        Answers (exec .dozeEntry s) (fun t =>
          t.power = { s.power with engine := .doze, enteredAt := s.clock.ticks, dozeDepth := s.val Od.DOZE_DEPTH } ∧ entered 2 t))
    ∧ (s.power.engine = .doze → Answers (exec .dozeExit s) (fun t =>
        t.power = { s.power with engine := .run } ∧ OnlyGroups [.power] s t))
    ∧ (s.seq.slots ≠ [] → exec .hushEntry s = .next s ∧ exec .dozeEntry s = .next s)

/-- R227, R441, R547, R550, R551: the first phase of DROWSE asks for everything to be flushed and saved; the second, once the
Pocket is flushed, stops the ports, closes intake and gives DT to the timekeeper; at the commit the hem image is durable and the domains are off. A reason to defer holds
the entry, and a Gusset, SANITISE or FORMAT that defers too long is paused. -/
def Obligations.DrowseIsEnteredInTwoPhases : Prop :=
  ∀ (s : State),
    (s.power.phase = .running → s.power.firstOpen = true → s.power.ignTimer = true → s.power.rideThrough = false →
      s.drowseDefer = 0 → s.admin.pauseStage = 0 → s.noCommands = true → Answers (exec .drowsePhase1 s) (fun t =>
        t.power = { s.power with phase := .drowse1, engine := .run } ∧ t.seq.flushing.contains everyCsn = true
          ∧ t.flash.trackersSaved = s.flash.trackers ∧ t.seq.csnLast = s.seq.csnLast
          ∧ (s.kv.loaded = true → t.pocket.checkpoint = s.pocket.checkpoint + 1 ∧ t.od.saved = s.od.vals)
          ∧ OnlyGroups [.power, .seq, .flash, .pocket, .od, .matcher, .events, .draws] s t))
    ∧ (s.drowseDefer ≠ 0 → exec .drowsePhase1 s = .next s)
    ∧ (s.power.phase = .drowse1 → s.pocketFlushed = true → Answers (exec .drowsePhase2 s) (fun t =>
        t.power = { s.power with phase := .drowse2 } ∧ t.val Od.INTAKE_STATE = 2
          ∧ t.clock = { s.clock with timekeeper := some s.clock.dt }
          ∧ t.seq.slots = s.seq.slots.filter (fun e => e.2.state != .filled)
          ∧ t.seq.flushing.contains everyCsn = false
          ∧ (∀ p, p < 7 → (t.port p).linkUp = false ∧ (t.port p).txq = [])
          ∧ Only [.power, .clock, .seq, .ports, .od, .sent] [Od.INTAKE_STATE] s t))
    ∧ (s.pocketFlushed = false → exec .drowsePhase2 s = .next s)
    ∧ (s.power.phase = .drowse2 → s.boundWork = false → s.power.latchedWakes = [] → Answers (exec .drowseCommit s) (fun t =>
        t.power.phase = .drowse ∧ t.power.wakeOut = false ∧ t.clock.running = false
          ∧ (if s.flash.bandB then t.flash.hemB else t.flash.hemA).commit = some s.seq.csnLast
          ∧ t.kv.versions = s.kv.versions ∧ t.seq.csnLast = s.seq.csnLast))
    ∧ (s.boundWork = true → exec .drowseCommit s = .next s)
    ∧ (s.power.ignTimer = true → (s.drowseDefer = 1 ∨ s.drowseDefer = 2) → Answers (exec .drowseDeferLimit s) (fun t =>
        t.power = { s.power with routinesPaused := true }
          ∧ t.val Od.GUSSET_STATE = (if s.val Od.GUSSET_STATE = 1 then 2 else s.val Od.GUSSET_STATE)
          ∧ Only [.power, .od] [Od.GUSSET_STATE] s t))

/-- R441, R442, R481, R515, R517, R549, R552: an enabled wake starts a module in DROWSE; in the first phase of the entry IGN or a
TC10 wake abandons it, in the second a wake is latched. IGN is taken over in every powered state.
The figures of the start itself are not among the settings that change format (R615). -/
def Obligations.WakesStartTheModule : Prop :=
  ∀ (s : State), (∀ e ∈ s.od.twoFormat,
      e.1 ∉ [odKey 0 Od.LAST_START_KIND 0, odKey 0 Od.CNT_TC10_WAKES 0, odKey 0 Od.STATE_SECONDS 4]) →
    let started (t : State) : Prop := t.power.phase = .boot ∧ t.val Od.LAST_START_KIND = 2 ∧ t.val Od.INTAKE_STATE = 3
      ∧ t.clock.running = true ∧ t.clock.te = s.clock.te ∧ t.clock.dt = max s.clock.expiry (s.clock.timekeeper.getD 0)
      ∧ t.kv.loaded = false ∧ t.odGet 0 Od.STATE_SECONDS 4 =
          (s.odGet 0 Od.STATE_SECONDS 4 + (s.clock.timekeeper.getD s.clock.dt - s.clock.dt) / 1000000000) % 2 ^ 32
      ∧ (s.replayBand.isSome = true → t.seq.csnLast = s.seq.csnLast)
    let latched (w : Wake) (t : State) : Prop := t.power = { s.power with latchedWakes := s.power.latchedWakes ++ [w] }
      ∧ Only [.power, .od] [Od.CNT_TC10_WAKES, Od.CNT_CAN_WAKES] s t
    let abandoned (t : State) : Prop := t.power.phase = .running ∧ counted Od.CNT_ENTRY_ABANDONED s t
    (∀ w, s.wakeEnabled w = true → s.power.phase = .drowse → Answers (exec (.drowseWake w) s) started)
    ∧ (∀ w, s.wakeEnabled w = true → s.power.phase = .drowse2 → Answers (exec (.drowseWake w) s) (latched w))
    ∧ (∀ w, s.wakeEnabled w = false → exec (.drowseWake w) s = .next s)
    ∧ (s.wakeEnabled .ign = true → s.power.phase = .drowse1 → Answers (exec (.drowseWake .ign) s) abandoned)
    ∧ (∀ p, s.wakeEnabled (.tc10 p) = true →
        (s.power.phase = .drowse → Answers (exec (.macTc10Wake p) s) (fun t => started t ∧ counted Od.CNT_TC10_WAKES s t))
        ∧ (s.power.phase = .drowse2 → Answers (exec (.macTc10Wake p) s) (latched (.tc10 p)))
        ∧ (s.power.phase = .drowse1 → Answers (exec (.macTc10Wake p) s) abandoned))
    ∧ (∀ (net : Fin 2) ident dlc data, s.wakeEnabled (.can net) = true → s.wakeMatches net.val ident dlc.val data = true →
        (s.power.phase = .drowse → Answers (exec (.canWakeFrame net ident dlc data) s) started)
        ∧ (s.power.phase = .drowse2 → Answers (exec (.canWakeFrame net ident dlc data) s) (latched (.can net))))
    ∧ (∀ active, s.power.phase ≠ .unpowered → s.power.phase ≠ .drowse1 → Answers (exec (.ignChange active) s) (fun t =>
        t.power = { s.power with ign := active, ignTimer := !active && s.power.firstOpen
                                 routinesPaused := s.power.routinesPaused && !active }
          ∧ ((active && s.power.routinesPaused) = false → OnlyGroups [.power] s t)
          ∧ ((active && s.power.routinesPaused) = true → t.val Od.GUSSET_STATE = (if s.val Od.GUSSET_STATE = 2 then 1 else s.val Od.GUSSET_STATE)
              ∧ Only [.power, .od] [Od.GUSSET_STATE] s t)))
    ∧ (s.power.phase = .drowse1 → Answers (exec (.ignChange true) s) (fun t => abandoned t ∧ t.power.ign = true))
    ∧ (s.val Od.WAKE_OUT_MODE = 1 → Answers (exec .wakeOutPulseEnd s) (fun t =>
        t.power = { s.power with wakeOut := false } ∧ OnlyGroups [.power] s t))

/-- R523, R525, R542, Table 14.3: every loss of input is counted; it begins a ride-through, or the Hem when the bank is below its reserve; a
ride-through ends with the Hem, which frees FILLED slots, stops the ports and keeps what is stored; the Hem ends unpowered, with
CSN_LAST in the commit record of the active band. -/
def Obligations.LossOfInputEndsInTheHem : Prop :=
  ∀ (s : State),
    let hem (t : State) : Prop := t.power.phase = .hem ∧ t.power.rideThrough = false ∧ t.val Od.INTAKE_STATE = 3
      ∧ t.val Od.SUPPLY_STATE = 3 ∧ t.seq.slots = s.seq.slots.filter (fun e => e.2.state != .filled)
      ∧ t.seq.csnLast = s.seq.csnLast ∧ t.kv = s.kv ∧ (∀ p, (t.port p).linkUp = false)
    (∀ mv, s.power.phase = .running → s.power.inputValid = true → s.val Od.HEM_RESERVE ≤ s.power.bankMj →
      Answers (exec (.inputLost mv) s) (fun t =>
        t.power = { s.power with inputValid := false, inputMv := mv.toNat, rideThrough := true } ∧ t.val Od.SUPPLY_STATE = 2
          ∧ counted Od.CNT_DROPOUTS s t ∧ Reports [.power] [Od.CNT_DROPOUTS, Od.SUPPLY_STATE] s t))
    ∧ (∀ mv, s.power.phase = .running → s.power.inputValid = true → s.power.bankMj < s.val Od.HEM_RESERVE →
        s.power.firstOpen = true → Answers (exec (.inputLost mv) s) (fun t => hem t ∧ counted Od.CNT_DROPOUTS s t))
    ∧ (∀ mv, s.power.phase ≠ .unpowered → s.power.inputValid = true → Answers (exec (.inputLost mv) s) (fun t =>
        t.power.inputValid = false ∧ counted Od.CNT_DROPOUTS s t))
    ∧ (s.power.rideThrough = true → s.power.firstOpen = true → Answers (exec .rideThroughExpiry s) (fun t =>
        hem t ∧ Only [.power, .ports, .seq, .od] [Od.INTAKE_STATE, Od.SUPPLY_STATE] s t))
    ∧ (s.power.rideThrough = true → s.power.firstOpen = true → Answers (exec .bankAtReserve s) (fun t =>
        hem t ∧ t.power.bankMj = s.val Od.HEM_RESERVE
          ∧ Only [.power, .ports, .seq, .od] [Od.INTAKE_STATE, Od.SUPPLY_STATE] s t))
    ∧ (s.power.rideThrough = true → s.power.firstOpen = false → Answers (exec .rideThroughExpiry s) (fun t =>
        t.power.phase = .unpowered ∧ t.kv = s.kv ∧ t.clock.running = false))
    ∧ (∀ ms mj, s.power.phase = .hem → s.boundWork = false → s.power.startNext = none →
        (s.power.thermal = false ∨ s.power.inputValid = false) → Answers (exec (.hemComplete ms mj) s) (fun t =>
          t.power.phase = .unpowered ∧ t.val Od.LAST_HEM_MS = ms.toNat ∧ t.val Od.LAST_HEM_ENERGY = mj.toNat
            ∧ counted Od.CNT_HEMS s t ∧ (if s.flash.bandB then t.flash.hemB else t.flash.hemA).commit = some s.seq.csnLast
            ∧ t.kv.versions = s.kv.versions ∧ t.seq.csnLast = s.seq.csnLast))
    ∧ (∀ ms mj, s.power.phase = .hem → s.boundWork = true → exec (.hemComplete ms mj) s = .next s)

/-- R509, R510, R512, R513, R521, R619: a supply in its range sets POWER_CAP; a surge is counted and, when it lasts, the input is
disconnected; a reversed supply is counted, and the input stays while another pin carries it. Beyond the absolute maximum the machine
stops with a fault: the spec gives no behaviour there. -/
def Obligations.SupplyCapsAndFaults : Prop :=
  ∀ (s : State),
    (∀ mv, s.power.inputValid = true → Answers (exec (.supplyCapChange mv) s) (fun t =>
      t.power = { s.power with inputMv := mv.toNat, overvoltage := s.power.overvoltage && decide (36000 < mv.toNat) }
        ∧ t.val Od.POWER_CAP = t.powerCap ∧ t.val Od.POWER_CAP ≤ 720
        ∧ Reports [.power] [Od.POWER_CAP, Od.SUPPLY_STATE] s t))
    ∧ (∀ mj, s.power.phase ≠ .unpowered → s.power.phase ≠ .drowse → Answers (exec (.chargerThreshold mj) s) (fun t =>
        t.power = { s.power with bankMj := mj.toNat } ∧ t.val Od.POWER_CAP = t.powerCap
          ∧ Reports [.power] [Od.POWER_CAP, Od.SUPPLY_STATE] s t))
    ∧ (∀ peak ms, s.power.inputValid = true → 36000 < peak.toNat → peak.toNat ≤ 58000 →
        Answers (exec (.supplyOvervoltage peak ms) s) (fun t =>
          t.power = { s.power with overvoltage := true, inputMv := peak.toNat } ∧ counted Od.CNT_OVERVOLTAGE s t
            ∧ Reports [.power] [Od.CNT_OVERVOLTAGE] s t))
    ∧ (∀ peak ms, 58000 < peak.toNat → exec (.supplyOvervoltage peak ms) s = .fault .beyondAbsoluteMaximum)
    ∧ (s.power.overvoltage = true → s.power.phase = .running → s.power.inputValid = true → s.val Od.HEM_RESERVE ≤ s.power.bankMj →
        Answers (exec .overvoltageTimeout s) (fun t =>
          t.power = { s.power with overvoltage := false, inputValid := false, rideThrough := true }
            ∧ t.val Od.SUPPLY_STATE = 2 ∧ counted Od.CNT_DROPOUTS s t))
    ∧ (∀ pinB depth, s.power.inputValid = true → depth.toNat ≤ 36000 →
        Answers (exec (.supplyReverse pinB true depth) s) (fun t =>
          counted Od.CNT_REVERSE s t ∧ t.power = s.power ∧ Reports [] [Od.CNT_REVERSE] s t))
    ∧ (∀ pinB depth, s.power.inputValid = true → depth.toNat ≤ 36000 → s.power.phase = .running →
        s.val Od.HEM_RESERVE ≤ s.power.bankMj → Answers (exec (.supplyReverse pinB false depth) s) (fun t =>
          counted Od.CNT_REVERSE s t ∧ t.power = { s.power with inputValid := false, inputMv := 0, rideThrough := true }))
    ∧ (∀ pinB other depth, 36000 < depth.toNat → exec (.supplyReverse pinB other depth) s = .fault .beyondAbsoluteMaximum)

/-- R309, R528, R529, R530: temperatures are recorded with their extremes and their histogram, and one beyond its limit stops the
engine; humidity and shock are recorded, and reported above their thresholds; a cold start tells how long it waited. -/
def Obligations.SamplesAreKept : Prop :=
  ∀ (s : State), s.canPowered = true →
    let within (x : Int) : Prop := -32768 ≤ x ∧ x < 32768
    let sampled (b e p : Int) (t : State) : Prop := signed 16 (t.val Od.BASEPLATE_TEMP) = b ∧ signed 16 (t.val Od.ENGINE_TEMP) = e
      ∧ signed 16 (t.val Od.SUPERVISOR_TEMP) = p ∧ b ≤ signed 16 (t.val Od.TEMP_MAX) ∧ signed 16 (t.val Od.TEMP_MIN) ≤ b
    (∀ b e p, within b → within e → within p → s.power.phase ≠ .thermalStop → b < 1000 → e < 1150 → p < 1150 →
      Answers (exec (.thermalSample b e p) s) (fun t => sampled b e p t ∧ t.power = s.power
        ∧ counted Od.TEMP_HISTORY s t (if b < -400 then 1 else min 15 ((b + 400) / 100).toNat + 1)
        ∧ Reports [] [Od.TEMP_HISTORY, Od.TEMP_MAX, Od.TEMP_MIN, Od.BASEPLATE_TEMP, Od.ENGINE_TEMP, Od.SUPERVISOR_TEMP
            , Od.POWER_CAP, Od.SUPPLY_STATE] s t))
    ∧ (∀ b e p, within b → within e → within p → s.power.phase ≠ .thermalStop → s.power.firstOpen = true →
        (1000 ≤ b ∨ 1150 ≤ e ∨ 1150 ≤ p) → Answers (exec (.thermalSample b e p) s) (fun t => sampled b e p t
          ∧ t.power.phase = .hem ∧ t.power.thermal = true ∧ counted Od.CNT_THERMAL_STOPS s t ∧ t.val Od.INTAKE_STATE = 3
          ∧ t.kv = s.kv))
    ∧ (∀ b e p, s.power.phase = .thermalStop → Answers (exec (.thermalSample b e p) s) (fun t =>
        t.power = { s.power with coolSeconds := if b ≤ 800 then s.power.coolSeconds + 1 else 0 } ∧ OnlyGroups [.od, .power] s t))
    ∧ Answers (exec .tempHistorySave s) (fun t =>
        t.power = { s.power with tempSaved := s.od.vals.filter (fun e => e.1 / 256 == Od.TEMP_HISTORY) } ∧ OnlyGroups [.power] s t)
    ∧ (∀ ms, s.power.phase = .boot → s.power.diesWarm = false → Answers (exec (.coldStart ms) s) (fun t =>
        t.power = { s.power with diesWarm := true } ∧ t.val Od.COLD_START_MS = ms.toNat
          ∧ Reports [.power] [Od.COLD_START_MS] s t))
    ∧ (∀ h, Answers (exec (.humiditySample h) s) (fun t =>
        t.val Od.HUMIDITY = h.toNat ∧ t.val Od.HUMIDITY_MAX = max (s.val Od.HUMIDITY_MAX) h.toNat
          ∧ Reports [] [Od.HUMIDITY, Od.HUMIDITY_MAX] s t))
    ∧ (∀ g, Answers (exec (.shockDetected g) s) (fun t =>
        t.val Od.SHOCK_MAX = max (s.val Od.SHOCK_MAX) g.toNat
          ∧ (s.val Od.SHOCK_THRESHOLD < g.toNat → counted Od.CNT_SHOCKS s t)
          ∧ Reports [] [Od.SHOCK_MAX, Od.CNT_SHOCKS] s t))

/-- R75, R456, R523, R526 to R528, R539 to R543: a module without power starts, keeps its values and CSNs where the Hem completed,
and otherwise goes on above every CSN that it may have used; a ride-through simply ends; intake opens when its conditions hold, and
the loaded directory gives full service. The kind of the start is not among the settings that change format (R615). -/
def Obligations.StartsAndOpenings : Prop :=
  ∀ (s : State), (∀ e ∈ s.od.twoFormat, e.1 ≠ odKey 0 Od.LAST_START_KIND 0) →
    (∀ f, s.power.phase = .unpowered → Answers (exec (.inputValid f) s) (fun t =>
      t.power.phase = .boot ∧ t.power.inputValid = true ∧ t.power.firstOpen = false ∧ t.val Od.INTAKE_STATE = 3
        ∧ t.kv.loaded = false ∧ t.val Od.LAST_START_KIND =
          (if s.val Od.POWER_CYCLES = 0 then 5 else if f.hemValid = true ∧ s.replayBand.isSome = true then 0 else 1)
        ∧ (f.hemValid = true → s.replayBand.isSome = true → f.hemIntact = true →
            t.kv.versions = s.kv.versions ∧ t.seq.csnLast = s.seq.csnLast)
        ∧ (∀ b, ¬ (f.hemValid = true ∧ s.replayBand.isSome = true) → s.seq.blockHigh = some b →
            t.seq.csnLast = s.seq.csnLast ∧ t.nextCsn = max (s.seq.csnLast + 1) ((b + 1) * 2 ^ 20))
        ∧ t.clock.te = s.clock.te ∧ t.clock.expiry = max s.clock.expiry (s.clock.timekeeper.getD 0)))
    ∧ (∀ f, s.power.phase = .running → s.power.rideThrough = true → Answers (exec (.inputValid f) s) (fun t =>
        t.power.rideThrough = false ∧ t.power.inputValid = true ∧ t.power.phase = .running ∧ counted Od.CNT_RIDE_THROUGH_OK s t
          ∧ Reports [.power] [Od.CNT_RIDE_THROUGH_OK, Od.POWER_CAP, Od.SUPPLY_STATE] s t))
    ∧ (∀ f, s.power.phase = .hem → f.hemValid = true → Answers (exec (.inputValid f) s) (fun t =>
        t.power.startNext = some f ∧ t.power.phase = .hem ∧ t.power.inputValid = true ∧ OnlyGroups [.power] s t))
    ∧ (∀ sec, s.power.phase = .thermalStop → 60 ≤ s.power.coolSeconds → Answers (exec (.thermalResumed sec) s) (fun t =>
        t.power.phase = .boot ∧ t.val Od.LAST_START_KIND = 4 ∧ t.val Od.INTAKE_STATE = 3 ∧ t.clock.running = true))
    ∧ (∀ sec, s.power.coolSeconds < 60 → exec (.thermalResumed sec) s = .next s)
    ∧ (∀ ms, s.mayOpen = true → Answers (exec (.intakeOpen ms) s) (fun t =>
        t.power.phase = .running ∧ t.power.firstOpen = true ∧ t.val Od.INTAKE_STATE = 0 ∧ t.val Od.STARTUP_PHASE = 3
          ∧ t.val Od.T_FIRST_ACCEPT = ms.toNat ∧ t.power.hemReplayed = false ∧ t.kv.versions = s.kv.versions
          ∧ (∀ c, (s.session c).state = .dormant → (t.session c).windowRuns = true)))
    ∧ (∀ ms, s.mayOpen = false → exec (.intakeOpen ms) s = .next s)
    ∧ (∀ ms, s.live = true → s.power.firstOpen = true → s.kv.loaded = false → s.val Od.KEYSTORE_STATE ≠ 2 →
        s.cipher.rootKey = true → (s.power.afterDue = [] ∨ 1 < s.power.startKind) → Answers (exec (.directoryLoaded ms) s) (fun t =>
          t.kv = { s.kv with loaded := true, rebuilding := [] } ∧ t.val Od.STARTUP_PHASE = 4
            ∧ t.val Od.T_FULL_SERVICE = ms.toNat ∧ Only [.kv, .od] [Od.STARTUP_PHASE, Od.T_FULL_SERVICE] s t))

/-! ## The object dictionary -/

/-- R454, R458, R459, R462, R464, R628, Table 12.5: a write on a path that is served is refused by the first row that applies, and
changes nothing then; otherwise an entry without an effect of its own keeps the value, every other object and entry its own. -/
def Obligations.EntryWritesAreChecked : Prop :=
  ∀ (s : State) (path : Path) (index : BitVec 16) (sub : Byte) (value : Bytes), s.pathServed path = true →
    (matcherEntry index.toNat && s.queriesBelow (s.seq.csnLast + 1)) = false →
    let p := pathCode path
    let x := index.toNat
    let k := sub.toNat
    let o := s.windowInst p x
    let w := Instr.odEntryWrite path index sub value
    (∀ e, odFind x k = .error e → TurnedDown s w path e)
    ∧ (∀ row, odFind x k = .ok row → row.wr = none → TurnedDown s w path .noWrite)
    ∧ (∀ row l, odFind x k = .ok row → row.wr = some l → s.pathLevel p < l → TurnedDown s w path .level)
    ∧ (∀ row l, odFind x k = .ok row → row.wr = some l → l ≤ s.pathLevel p →
      (lengthBad x row.ty 0 value = true → TurnedDown s w path .length)
      ∧ (lengthBad x row.ty 0 value = false →
        (odNumeric row.ty = true → ((row.ty = .bool ∧ 1 < beNat value) ∨ s.rangeOk x row.range (beNat value) = false) →
          TurnedDown s w path .range)
        ∧ (odNumeric row.ty = true → ¬ (row.ty = .bool ∧ 1 < beNat value) → s.rangeOk x row.range (beNat value) = true →
          (s.stateRefuses o x k row = true → TurnedDown s w path .state)
          ∧ (s.stateRefuses o x k row = false → plainEntry x = true → Takes s w path (fun t =>
              t.odGet o x k = beNat value
                ∧ (∀ i j, j < 256 → (i ≠ o ∨ j ≠ k) → t.odGet i x j = s.odGet i x j)
                ∧ t.val Od.OD_CONFIG_WRITES = (s.val Od.OD_CONFIG_WRITES + (if configRow row then 1 else 0)) % 2 ^ 64
                ∧ t.val Od.CONFIG_STORE_STATE = (if configRow row then 0 else s.val Od.CONFIG_STORE_STATE)
                ∧ Only [.od] [x, Od.OD_CONFIG_WRITES, Od.CONFIG_STORE_STATE] s t)))
        ∧ (odNumeric row.ty = false → s.stateRefuses o x k row = false → x ≠ Od.FW_IMAGE → x ≠ Od.ATTEST_NONCE →
            Takes s w path (fun t => t.blob o x k = value ∧ Only [.od] [Od.OD_CONFIG_WRITES, Od.CONFIG_STORE_STATE] s t))))

/-- R192, R460, R462 to R464: OD_READ answers the value of an entry that the level of its binding may read, with its full length;
OD_WRITE writes one that this level may write, and one of a selector
leaves the commands bound before it the object that they selected; a key that names no entry is NOT_FOUND. -/
def Obligations.NamespaceZeroReadsAndWrites : Prop :=
  ∀ (s : State) (n : Fin 512), s.seam.orphan = false → (s.slot n).routine = none →
    let x := s.slot n
    let c := s.cmdOf n
    let p := slotPath x
    let e := odKeyOf c.key
    let o := s.windowOf x e.1
    (∀ row l w, s.runs n (isOp 0x60) → c.key.length = 3 → odFind e.1 e.2 = .ok row → row.rd = some l → l ≤ x.level →
      odNumeric row.ty = true → odWidth row.ty = some w → measuredEntry e.1 = none → e.1 ≠ 0x4003 → c.param 0 8 = 0 → w ≤ c.param 8 8 →
      Completes s (.odRead n) n (fun u r => r.status = St.DONE ∧ r.rparams = toBE 8 w ∧ r.data = toBE w (s.odNum p o e.1 e.2)
        ∧ OnlyGroups [.seam] s u ∧ (e.1 ≠ Od.SEAM_STATE → u = s)))
    ∧ (s.runs n (isOp 0x60) → (c.key.length ≠ 3 ∨ ∃ r, odFind e.1 e.2 = .error r) →
        Completes s (.odRead n) n (fun u r => u = s ∧ r.status = St.NOT_FOUND))
    ∧ (∀ row l, s.runs n (isOp 0x61) → (matcherEntry e.1 && s.queriesBelow x.csn) = false → c.key.length = 3 → odFind e.1 e.2 = .ok row → row.wr = some l →
      l ≤ x.level → lengthBad e.1 row.ty (c.param 0 8) c.data = false → odNumeric row.ty = true →
      ¬ (row.ty = .bool ∧ 1 < beNat c.data) → s.rangeOk e.1 row.range (beNat c.data) = true →
      s.stateRefuses o e.1 e.2 row = false → plainEntry e.1 = true →
      Completes s (.odWrite n) n (fun u r => r.status = St.DONE ∧ u.odGet o e.1 e.2 = beNat c.data
        ∧ (selectors.contains e.1 = false → OnlyGroups [.od] s u) ∧ Only [.od, .seq] [e.1, Od.OD_CONFIG_WRITES, Od.CONFIG_STORE_STATE] s u))

/-! ## Events, recorder, fatal errors -/

/-- R556, R559, R560, R569, Table 16.11: a raise whose route selects the supervisor is counted with its time, an engine's raise waits
while the Seam is lost, a reserved source raises nothing; a second begins the rates anew; a counter of PERF_SELECT starts at 0. -/
def Obligations.EventsAreCountedAndRated : Prop :=
  ∀ (s : State),
    (∀ (src : Byte) ps, s.canPowered = true → s.tells src.toNat → src.toNat ≠ Ev.REC_PENDING_OVF →
      Answers (exec (.eventRaise src ps) s) (fun t => told src.toNat s t ∧ Reports [] [] s t))
    ∧ (∀ (src : Byte) ps, s.canPowered = true → (severity? src.toNat).isSome = true → engineSource src.toNat = true →
        s.seam.up = false → s.seam.queue.length < 4096 → Answers (exec (.eventRaise src ps) s) (fun t =>
          t.seam.queue = s.seam.queue ++ [⟨src.toNat, ps, s.clock.dt, s.seconds⟩] ∧ Reports [] [] s t))
    ∧ (∀ (src : Byte) ps, severity? src.toNat = none → exec (.eventRaise src ps) s = .next s)
    ∧ (s.canPowered = true → Answers (exec .eventRateWindow s) (fun t =>
        t.events.delivered = [] ∧ t.events.suppressed = [] ∧ t.wkp.helloRate = [] ∧ counted Od.OPERATING_SECONDS s t
          ∧ counted Od.STATE_SECONDS s t s.secondsSub
          ∧ Reports [] [Od.OPERATING_SECONDS, Od.STATE_SECONDS, Od.FW_CONFIRM_REMAINING] s t))
    ∧ (∀ path v, s.admits path 3 → s.tells Ev.TEST_EVENT → Takes s (.eventTest path v) path (fun t =>
        told Ev.TEST_EVENT s t ∧ Reports [] [] s t))
    ∧ (∀ path (k : Fin 65) event, s.admits path 3 → 0 < k.val → s.rangeOk Od.PERF_SELECT .perfEvent event.toNat = true →
        Takes s (.perfSelect path k event) path (fun t =>
          t.odGet 0 Od.PERF_SELECT k = event.toNat ∧ SMap.get? t.events.perf k = none ∧ Only [.od, .events] [Od.PERF_SELECT] s t))
    ∧ (∀ path event, s.pathServed path = true → TurnedDown s (.perfSelect path 0 event) path .noWrite)
    ∧ (∀ (k : Fin 65), k.val ≠ 0 → s.live = true → s.odGet 0 Od.PERF_SELECT k ≠ 0xFF → 2 ^ 48 ≤ SMap.getD s.events.perf k 0 →
        s.tells Ev.PERF_COUNTER_WRAP → Answers (exec (.perfCounterWrap k) s) (fun t =>
          told Ev.PERF_COUNTER_WRAP s t ∧ Reports [] [] s t))

/-- R563, R565, R566, R568: a frozen recorder says so, and a thaw writes what is pending, as the flush timer does; REC_READ answers the
records from the cursor on and moves it past them; a lost mirror leaves one, a second leaves the last resort and FAULT, which stays
until it is cleared. -/
def Obligations.RecorderKeepsItsRecords : Prop :=
  ∀ (s : State),
    let thawed (t : State) : Prop := t.events.frozen = false ∧ t.val Od.REC_FREEZE = 0 ∧ t.events.pendingRecs = [] ∧ Reports [] [] s t
    (∀ path, s.admits path 1 → s.events.frozen = false → Takes s (.recFreeze path) path (fun t =>
      t.events.frozen = true ∧ t.val Od.REC_FREEZE = 1 ∧ Reports [] [] s t))
    ∧ (∀ path, s.admits path 1 → s.events.frozen = true → Takes s (.recThaw path) path thawed)
    ∧ (s.events.frozen = true → Answers (exec .recFreezeExpiry s) thawed)
    ∧ (s.canPowered = true → s.events.frozen = false → s.events.pendingRecs ≠ [] → Answers (exec .recorderFlushTimer s) (fun t =>
        t.events.pendingRecs = []
          ∧ (s.events.mirrorsLost.length < 2 → t.events.log = logAppend s.events.log s.events.pendingRecs)
          ∧ (∀ r ∈ s.events.pendingRecs, 2 ≤ s.events.mirrorsLost.length → s.events.pendingRecs.length ≤ 64 → r ∈ t.events.nor)
          ∧ OnlyGroups [.events] s t))
    ∧ (∀ path, s.pathServed path = true → let p := pathCode path
        (s.recPage p).length < 65536 → Answers (exec (.recRead path) s) (fun t =>
          t.answered path = some (.ok ((s.recPage p).flatMap recBytes))
            ∧ t.selection p Od.REC_CURSOR =
              (match (s.recPage p).getLast? with | some r => seqAfter r.seqNo | none => s.selection p Od.REC_CURSOR)
            ∧ Only [.od] [Od.REC_CURSOR] s t))
    ∧ (∀ path, s.admits path 3 → s.val Od.REC_STATE = 3 → Takes s (.recFaultClear path) path (fun t =>
        t.val Od.REC_STATE = (match s.events.mirrorsLost with | [] => 0 | [_] => 2 | _ => 3)
          ∧ Only [.od] [Od.REC_STATE] s t))
    ∧ (∀ m d, s.canPowered = true → s.events.mirrorsLost = [] → Answers (exec (.recMirrorFail m d) s) (fun t =>
        t.events.mirrorsLost = [m.val] ∧ t.val Od.REC_STATE = (if s.val Od.REC_STATE = 3 then 3 else 2)
          ∧ Reports [] [Od.REC_STATE] s t))
    ∧ (∀ (m k : Fin 2) d, s.canPowered = true → s.events.mirrorsLost = [k.val] → m ≠ k →
        Answers (exec (.recMirrorFail m d) s) (fun t =>
          t.events.mirrorsLost = [m.val, k.val] ∧ t.val Od.REC_STATE = 3 ∧ Reports [] [Od.REC_STATE] s t))
    ∧ (∀ m d, s.events.mirrorsLost = [m] → Answers (exec (.recMirrorRebuilt d) s) (fun t =>
        t.events.mirrorsLost = [] ∧ t.val Od.REC_STATE = (if s.val Od.REC_STATE = 3 then 3 else 0)
          ∧ Reports [] [Od.REC_STATE] s t))

/-- R224, R538, R571 to R573: a fatal error stops binding, closes intake, keeps what is stored and, but for orphan mode, begins a
dump; so does an overrun pause. During a ride-through the Hem begins instead. A dump that is taken is counted, and after a fatal error
the engine starts again; in orphan mode it starts without one. The kind of the start is not among the settings that change format
(R615). -/
def Obligations.FatalErrorsStopTheEngine : Prop :=
  ∀ (s : State), (∀ e ∈ s.od.twoFormat, e.1 ≠ odKey 0 Od.LAST_START_KIND 0) →
    let stops (t : State) : Prop := t.power.phase = .fatalStop ∧ t.seq.stopped = true ∧ t.val Od.INTAKE_STATE = 3
      ∧ t.seq.slots = s.seq.slots ∧ t.seq.csnLast = s.seq.csnLast ∧ t.kv = s.kv ∧ t.clock.timekeeper = some s.clock.dt
      ∧ (s.seam.orphan = false → t.val Od.DUMP_STATE = 2)
      ∧ Reports [.seq, .clock, .health, .power, .fw] [Od.INTAKE_STATE, Od.DUMP_STATE] s t
    let started (t : State) : Prop := t.power.phase = .boot ∧ t.val Od.LAST_START_KIND = 3 ∧ t.val Od.INTAKE_STATE = 3
      ∧ t.seq.stopped = false ∧ t.kv.versions = s.kv.versions ∧ t.clock.te = s.clock.te
    (∀ code, s.power.phase = .running → s.power.rideThrough = false → Answers (exec (.engFatal code) s) stops)
    ∧ (∀ code, s.power.phase = .running → s.power.rideThrough = true → Answers (exec (.engFatal code) s) (fun t =>
        t.power.phase = .hem ∧ t.events.dumping = none ∧ t.val Od.INTAKE_STATE = 3 ∧ t.seq.csnLast = s.seq.csnLast ∧ t.kv = s.kv))
    ∧ (s.admin.pauseStage ≠ 0 → s.power.phase = .running → s.power.rideThrough = false →
        Answers (exec .servicePauseOverrun s) stops)
    ∧ (∀ path, s.admits path 3 → Takes s (.dumpRequest path 0x44554D50) path (fun t =>
        t.val Od.DUMP_STATE = 2 ∧ t.events.dumpSeq = s.events.dumpSeq + 1
          ∧ (∃ d, t.events.dumping = some d ∧ d.seqNo = s.events.dumpSeq + 1 ∧ d.live = true ∧ d.complete = false)
          ∧ Reports [] [Od.DUMP_STATE] s t))
    ∧ (∀ path v, s.admits path 3 → v ≠ 0x44554D50 → TurnedDown s (.dumpRequest path v) path .range)
    ∧ (∀ d kib, s.events.dumping = some d → s.power.phase ≠ .fatalStop → Answers (exec (.dumpTaken kib) s) (fun t =>
        t.events.dumping = none ∧ t.events.dumps = s.events.dumps ++ [{ d with complete := true, kib := kib.toNat }]
          ∧ t.val Od.DUMP_STATE = 0 ∧ counted Od.DUMP_COUNT s t ∧ t.power = s.power ∧ t.kv = s.kv))
    ∧ (∀ d kib, s.events.dumping = some d → s.power.phase = .fatalStop → Answers (exec (.dumpTaken kib) s) started)
    ∧ (s.power.phase = .fatalStop → s.seam.orphan = true → Answers (exec .orphanFatalReset s) started)

/-! ## Namespaces, seals and lists -/

/-- R43, R45, R231 to R234, R406 to R408: a definition gives a namespace its data key; SANITISE runs its first stage in a supervisor slot and
goes on through its stages to an UNDEFINED namespace without key or values, and FORMAT through its own to an empty module. -/
def Obligations.NamespacesAreDefinedAndErased : Prop :=
  ∀ (s : State), s.settled →
    let serving : Prop := s.live = true ∧ s.power.firstOpen = true ∧ s.power.routinesPaused = false
    let sanitises : Prop := s.backgroundRuns = true ∧ s.power.firstOpen = true ∧ s.power.routinesPaused = false
    let csn := s.takeCsn.seq.csnLast
    let seated (r : Routine) (t : State) : Prop := ∃ m, 384 ≤ m ∧ m < 447 ∧ (s.slot m).state = .free
      ∧ (t.slot m).state = .executing ∧ (t.slot m).routine = some r ∧ (t.slot m).csn = csn
    (∀ path, s.admits path 2 → let n := s.selection (pathCode path) Od.NS_SELECT
      s.odGet n Od.NS_STATE 0 = 0 → s.admin.formatRuns = false →
      (s.nsForbidden n = true → TurnedDown s (.nsDefine path) path .state)
      ∧ (s.nsForbidden n = false → (s.odGet n Od.NS_SEAL_POLICY 0 = 1 → 2 ≤ s.ledgerFree) → s.val Od.DRBG_STATE ≠ 2 →
        Takes s (.nsDefine path) path (fun t =>
          t.odGet n Od.NS_STATE 0 = 1 ∧ t.odGet n Od.NS_DATA_KEY_GEN 0 = s.odGet n Od.NS_DATA_KEY_GEN 0 + 1
            ∧ SMap.get? t.cipher.keys n = some (Config.dataKey s.draws)
            ∧ (s.odGet n Od.NS_SEAL_POLICY 0 = 1 → (t.chain n).seals.length = 1 ∧ (t.chain n).closed = false
              ∧ t.seq.csnLast = csn)
            ∧ (∀ m, m ≠ n → t.odGet m Od.NS_STATE 0 = s.odGet m Od.NS_STATE 0)
            ∧ OnlyGroups [.od, .cipher, .draws, .seals, .seq, .events] s t)))
    ∧ (∀ path (v : BitVec 32), s.admits path 2 → let n := v.toNat % 65536
        (v.toNat / 65536 ≠ 0x5A5A → TurnedDown s (.sanitiseRequest path v) path .range)
        ∧ (v.toNat / 65536 = 0x5A5A → 16 ≤ n → n ≤ 4095 → s.formatDue = false → s.admin.sanitising ≠ some n →
            s.admin.sanitiseQueue.contains n = false → s.admin.sanitiseQueue.length < 16 →
          Takes s (.sanitiseRequest path v) path (fun t =>
            t.admin = { s.admin with sanitiseQueue := s.admin.sanitiseQueue ++ [n] }
              ∧ t.val Od.SANITISE_QUEUED = s.admin.sanitiseQueue.length + 1 ∧ Only [.od, .admin] [Od.SANITISE_QUEUED] s t)))
    ∧ (∀ n rest, sanitises → s.admin.sanitising = none → s.admin.sanitiseQueue = n :: rest → s.admin.formatRuns = false →
        s.seq.stopped = false → s.freeSupervisor?.isSome = true →
        (s.odGet n Od.NS_STATE 0 = 0 → Answers (exec .sanitiseStep s) (fun t => t.admin = { s.admin with sanitiseQueue := rest }
          ∧ t.val Od.SANITISE_STATE = 5 ∧ t.val Od.SANITISE_CSN = csn ∧ t.kv = s.kv))
        ∧ (s.odGet n Od.NS_STATE 0 ≠ 0 → Answers (exec .sanitiseStep s) (fun t =>
          t.admin.sanitising = some n ∧ t.admin.sanitiseQueue = rest ∧ t.odGet n Od.NS_STATE 0 = 2 ∧ t.val Od.SANITISE_STATE = 1
            ∧ t.val Od.SANITISE_CSN = csn ∧ t.kv = s.kv ∧ seated (.sanitise n) t)))
    ∧ (∀ n m, sanitises → s.admin.sanitising = some n → s.val Od.SANITISE_STATE = 1 → s.stageOneSlot? (.sanitise n) = some m →
        (s.boundBefore n (s.val Od.SANITISE_CSN) = true → exec .sanitiseStep s = .next s)
        ∧ (s.boundBefore n (s.val Od.SANITISE_CSN) = false → Answers (exec .sanitiseStep s) (fun t => (t.slot m).state = .free
          ∧ (∀ w ∈ t.kv.writers, w.ns = n → w.released.isSome = true) ∧ (∀ k ∈ t.kv.cursors, k.ns ≠ n)
          ∧ (∀ h ∈ t.kv.holds, h.released = none → n ∉ h.covers) ∧ OnlyGroups [.seq, .kv] s t)))
    ∧ (∀ n, sanitises → s.admin.sanitising = some n → s.val Od.SANITISE_STATE = 1 → s.stageOneSlot? (.sanitise n) = none →
        Answers (exec .sanitiseStep s) (fun t => SMap.get? t.cipher.keys n = none ∧ t.val Od.SANITISE_STATE = 2
          ∧ t.val Od.CRYPTO_ERASE_CSN = s.val Od.SANITISE_CSN ∧ t.admin = s.admin))
    ∧ (∀ n, sanitises → s.admin.sanitising = some n → s.val Od.SANITISE_STATE = 2 → s.kv.loaded = true →
        Answers (exec .sanitiseStep s) (fun t => (∀ v ∈ t.kv.versions, v.ns ≠ n) ∧ t.val Od.SANITISE_STATE = 3))
    ∧ (∀ n, sanitises → s.admin.sanitising = some n → s.val Od.SANITISE_STATE = 4 → s.admin.purging.filter s.stands = [] →
        s.sealsDone n = true → Answers (exec .sanitiseStep s) (fun t => t.odGet n Od.NS_STATE 0 = 0 ∧ t.val Od.SANITISE_STATE = 5
          ∧ t.admin.sanitising = none ∧ SMap.get? t.seals.chains n = none))
    ∧ (∀ path, s.admits path 3 → s.formatDue = false → Takes s (.formatRequest path 0x464F524D) path (fun t =>
        t.admin = { s.admin with formatAsked := true, sanitiseQueue := [] } ∧ t.val Od.SANITISE_QUEUED = 0
          ∧ Only [.od, .admin] [Od.SANITISE_QUEUED, Od.FORMAT_REQUEST] s t))
    ∧ (serving → s.admin.formatRuns = false → s.admin.formatAsked = true → s.admin.sanitising = none → s.admin.pauseStage = 0 →
        s.resetRefused = false → s.freeSupervisor?.isSome = true →
        Answers (exec .formatStep s) (fun t => t.admin.formatRuns = true ∧ t.admin.pauseStage = 1
          ∧ t.val Od.FORMAT_STATE = 1 ∧ t.val Od.FORMAT_CSN = csn ∧ t.val Od.INTAKE_STATE = 1 ∧ seated .format t))
    ∧ (serving → s.admin.formatRuns = true → s.val Od.FORMAT_STATE = 1 → s.admin.pauseStage = 3 →
        Answers (exec .formatStep s) (fun t => (∀ n, n ∈ s.definedNs → SMap.get? t.cipher.keys n = none) ∧ t.kv.holds = []
          ∧ t.val Od.FORMAT_STATE = 2))
    ∧ (serving → s.admin.formatRuns = true → s.val Od.FORMAT_STATE = 2 → s.admin.pauseStage = 0 →
        Answers (exec .formatStep s) (fun t => t.kv.versions = [] ∧ t.kv.records = [] ∧ t.val Od.FORMAT_STATE = 3))
    ∧ (sanitises → s.admin.formatRuns = true → s.val Od.FORMAT_STATE = 3 → s.admin.purging.filter s.stands = [] →
        s.definedNs.all s.sealsDone = true → Answers (exec .formatStep s) (fun t => t.admin.formatRuns = false
          ∧ t.val Od.FORMAT_STATE = 4 ∧ t.val Od.FORMAT_REQUEST = 0 ∧ ∀ n, n < 4096 → t.odGet n Od.NS_STATE 0 = 0))

/-- R349, R355, R360 to R366, R407: a seal is bound, in an internal slot, when a put has taken effect since the last, and is signed when
every put below its CSN has and no seal that goes first waits; what it covers leaves the chain's list and its slot is free. A nonce makes a report, once a second on a path; that
one taken while the DRBG is halted makes an empty one is the model's choice (log 20). The DRBG halts, restarts and is reseeded, and
nothing is signed while it is halted. -/
def Obligations.SealsAreBoundAndSigned : Prop :=
  ∀ (s : State),
    (∀ (ns : BitVec 12), s.live = true → s.openChains.contains ns.toNat = true →
      (∃ l ∈ (s.chain ns.toNat).links, (s.chain ns.toNat).newestSeal < l.1) → Answers (exec (.sealIntervalExpiry ns) s) (fun t =>
        t.seq.csnLast = s.takeCsn.seq.csnLast ∧ (t.chain ns.toNat).seals.length = (s.chain ns.toNat).seals.length + 1
          ∧ (t.chain ns.toNat).newestSeal = s.takeCsn.seq.csnLast ∧ (t.chain ns.toNat).links = (s.chain ns.toNat).links
          ∧ (t.chain ns.toNat).closed = (s.chain ns.toNat).closed ∧ OnlyGroups [.seq, .seals, .events] s t
          ∧ (∀ m, s.freeInternal? = some m → (t.slot m).state = .executing ∧ (t.slot m).routine = some (.seal ns.toNat)
              ∧ (t.slot m).csn = s.takeCsn.seq.csnLast)))
    ∧ (∀ (ns : BitVec 12), (∀ l ∈ (s.chain ns.toNat).links, l.1 ≤ (s.chain ns.toNat).newestSeal) →
        exec (.sealIntervalExpiry ns) s = .next s)
    ∧ (∀ (ns : BitVec 12) x, s.sealDue? ns.toNat = some x →
        (s.live = true → s.val Od.DRBG_STATE ≠ 2 → (x.urgent = true ∨ s.sealAhead ns.toNat = false) →
          Answers (exec (.sealSigned ns) s) (fun t =>
            let c := s.chain ns.toNat
            let covered := c.links.filter (fun l => l.1 < x.stamp.csn)
            (t.chain ns.toNat).head = foldLinks c.head covered ∧ (t.chain ns.toNat).count = c.count + covered.length
              ∧ (t.chain ns.toNat).links = c.links.filter (fun l => x.stamp.csn ≤ l.1)
              ∧ (∃ z ∈ (t.chain ns.toNat).seals, z.seqNo = x.seqNo ∧ z.stamp = x.stamp ∧ z.links = covered ∧ z.signature.isSome = true
                ∧ (t.chain ns.toNat).lastSeal = Config.sha512 (sealBytes z))
              ∧ counted Od.CNT_SIGNATURES s t ∧ OnlyGroups [.seals, .seq, .od, .draws, .events] s t
              ∧ t.seq = { s.seq with slots := s.seq.slots.filter (fun e =>
                  !(e.2.routine == some (.seal ns.toNat) && e.2.csn == x.stamp.csn)) }))
        ∧ (s.val Od.DRBG_STATE = 2 ∨ (x.urgent = false ∧ s.sealAhead ns.toNat = true) → exec (.sealSigned ns) s = .next s))
    ∧ (∀ (ns : BitVec 12), s.sealDue? ns.toNat = none → exec (.sealSigned ns) s = .next s)
    ∧ (∀ (ns : BitVec 12) x, (s.chain ns.toNat).seals.find? (fun z => z.signature.isNone) = some x →
        (∀ (w : BitVec 32), s.val Od.SEAL_INTERVAL < w.toNat → Answers (exec (.sealLag ns w) s) (fun t =>
            t.val Od.SEAL_LAG_MAX = max (s.val Od.SEAL_LAG_MAX) w.toNat ∧ Reports [] [Od.SEAL_LAG_MAX] s t)))
    ∧ (∀ path nonce, s.admits path 1 → nonce.length = 32 → let p := pathCode path
        let hot := ∃ t, SMap.get? s.seals.nonceHot p = some t ∧ s.clock.ticks < t + 125000000
        (¬ hot → s.val Od.DRBG_STATE ≠ 2 → Takes s (.attestNonce path nonce) path (fun t =>
          t.blob p Od.ATTEST_NONCE 0 = nonce
            ∧ (∃ sig, t.blob p Od.ATTEST_REPORT 0 = s.reportHead p nonce ++ sig)
            ∧ SMap.get? t.seals.nonceHot p = some s.clock.ticks ∧ OnlyGroups [.od, .seals, .draws, .events] s t))
        ∧ (¬ hot → s.val Od.DRBG_STATE = 2 → Takes s (.attestNonce path nonce) path (fun t =>
            t.blob p Od.ATTEST_NONCE 0 = nonce ∧ t.blob p Od.ATTEST_REPORT 0 = []
              ∧ SMap.get? t.seals.nonceHot p = some s.clock.ticks ∧ OnlyGroups [.od, .seals] s t))
        ∧ (hot → TurnedDown s (.attestNonce path nonce) path .moment))
    ∧ (s.live = true → s.val Od.DRBG_STATE ≠ 2 →
        Answers (exec .drbgReseed s) (fun t => t.val Od.DRBG_STATE = 0 ∧ counted Od.CNT_DRBG_RESEEDS s t
          ∧ Only [.od] [Od.DRBG_STATE, Od.CNT_DRBG_RESEEDS] s t)
        ∧ ∀ a, Answers (exec (.drbgHalt a) s) (fun t => t.val Od.DRBG_STATE = 2 ∧ counted Od.CNT_ENTROPY_FAIL s t
          ∧ Reports [] [Od.DRBG_STATE, Od.CNT_ENTROPY_FAIL] s t))
    ∧ (s.val Od.DRBG_STATE = 2 → Answers (exec .drbgRestart s) (fun t =>
        t.val Od.DRBG_STATE = 0 ∧ Only [.od] [Od.DRBG_STATE] s t))

/-- R249, R318, R319, R321, R326: a list that fits is defined with its enable bit cleared, an empty one is deleted, and MATCH_ENABLE
changes in one write; each advances MATCH_GENERATION, and waits for the queries bound before it. A write to BIN_WIDTH closes every
time bin. -/
def Obligations.ListsAndBinsAreDefined : Prop :=
  ∀ (s : State) (path : Path), s.admits path 2 → s.settled →
    let l := s.selection (pathCode path) Od.MATCH_LIST_SELECT
    let waits := s.queriesBelow (s.seq.csnLast + 1) = true
    let newer (t : State) : Prop := counted Od.MATCH_GENERATION s t ∧ t.matcher = s.matcher ∧ OnlyGroups [.od] s t
    (∀ (ident : BitVec 16), ¬ waits → s.odGet l Od.LIST_ID 0 = 0 → 0 < ident.toNat → ident.toNat < 0xFFFF →
      s.listOf? ident.toNat = none → 0 < s.listSize l → s.listBase l + s.listSize l ≤ s.matchEntries →
      (∀ k, k < 64 → k ≠ l → s.odGet k Od.LIST_ID 0 ≠ 0 →
        s.listBase k + s.listSize k ≤ s.listBase l ∨ s.listBase l + s.listSize l ≤ s.listBase k) →
      (s.isPleat l = true → s.listBase l % 16 = 0 ∧ s.listSize l % 16 = 0) →
      Takes s (.listDefine path ident) path (fun t =>
        t.odGet l Od.LIST_ID 0 = ident.toNat ∧ bitOf l (t.val Od.MATCH_ENABLE) = false
          ∧ (∀ k, k ≠ l → t.odGet k Od.LIST_ID 0 = s.odGet k Od.LIST_ID 0) ∧ newer t))
    ∧ (∀ (ident : BitVec 16), ¬ waits → ident.toNat ≠ 0 → s.odGet l Od.LIST_ID 0 ≠ 0 → TurnedDown s (.listDefine path ident) path .state)
    ∧ (¬ waits → s.odGet l Od.LIST_ID 0 ≠ 0 → s.listEntries l = [] → Takes s (.listDelete path) path (fun t =>
        t.odGet l Od.LIST_ID 0 = 0 ∧ (∀ k, k ≠ l → t.odGet k Od.LIST_ID 0 = s.odGet k Od.LIST_ID 0) ∧ newer t))
    ∧ (¬ waits → s.odGet l Od.LIST_ID 0 ≠ 0 → s.listEntries l ≠ [] → TurnedDown s (.listDelete path) path .state)
    ∧ (∀ (v : BitVec 64), ¬ waits → Takes s (.matchEnableWrite path v) path (fun t => t.val Od.MATCH_ENABLE = v.toNat ∧ newer t))
    ∧ (waits → (∀ ident, exec (.listDefine path ident) s = .next s) ∧ exec (.listDelete path) s = .next s
        ∧ ∀ v, exec (.matchEnableWrite path v) s = .next s)
    ∧ (∀ (w : BitVec 32), 3600 ≤ w.toNat → w.toNat ≤ 604800 → Takes s (.binWidthWrite path w) path (fun t =>
        t.val Od.BIN_WIDTH = w.toNat ∧ (∀ b, b < 32 → (t.bin b).isOpen = false) ∧ t.kv.versions = s.kv.versions
          ∧ OnlyGroups [.od, .flash, .kv, .pocket, .events, .draws] s t))
    ∧ (∀ (w : BitVec 32), w.toNat < 3600 → TurnedDown s (.binWidthWrite path w) path .range)

/-- R344, R345, Table 8.3: the scrubber rewrites a tile that differs and takes an entry bad on both sides out of the searches; the spare
takes a failing tile's place with every entry kept; without a spare the table loses the tile's addresses. -/
def Obligations.MatcherKeepsItsTable : Prop :=
  ∀ (s : State), s.live = true →
    (∀ (a : Fin 131072), a.val < s.matchEntries →
      exec (.matchScrub a .equal) s = .next s ∧ exec (.matchScrub a .shadowBad) s = .next s
      ∧ (∀ ok, s.power.engine ≠ .doze → Answers (exec (.matchScrub a (.tileBad ok)) s) (fun t =>
          t.matcher.entries = s.matcher.entries ∧ counted Od.CNT_MATCH_REPAIRS s t
            ∧ SMap.getD t.matcher.repairs (a.val / 16384) 0 = SMap.getD s.matcher.repairs (a.val / 16384) 0 + 1
            ∧ (ok = false → t.matcher.failing.contains (a.val / 16384) = true)
            ∧ Reports [.matcher] [Od.CNT_MATCH_REPAIRS] s t))
      ∧ (∀ e, s.power.engine ≠ .doze → SMap.get? s.matcher.entries a.val = some e → Answers (exec (.matchScrub a .bothBad) s) (fun t =>
          SMap.get? t.matcher.entries a.val = some { e with valid := false }
            ∧ (∀ b, b ≠ a.val → SMap.get? t.matcher.entries b = SMap.get? s.matcher.entries b)
            ∧ Reports [.matcher] [] s t)))
    ∧ (∀ (k : Fin 8), s.matcher.failing.contains k.val = true → s.val Od.MATCH_SPARE = 1 →
        Answers (exec (.matchTileSpared k) s) (fun t =>
          t.odGet 0 Od.MATCH_TILE_MAP (k.val + 1) = s.spareTile ∧ t.val Od.MATCH_SPARE = 0
            ∧ (∀ j, j < 8 → j ≠ k.val → t.odGet 0 Od.MATCH_TILE_MAP (j + 1) = s.odGet 0 Od.MATCH_TILE_MAP (j + 1))
            ∧ t.matcher.entries = s.matcher.entries ∧ t.matcher.failing.contains k.val = false))
    ∧ (∀ (k : Fin 8), s.matcher.failing.contains k.val = true → s.val Od.MATCH_SPARE = 0 → 16384 * k.val < s.matchEntries →
        Answers (exec (.matchCapacityLost k) s) (fun t =>
          t.odGet 0 Od.MATCH_TILE_MAP 8 = 0xFF ∧ counted Od.MATCH_GENERATION s t ∧ t.health.tileLost.contains k.val = true
            ∧ (∀ j, j < k.val → t.odGet 0 Od.MATCH_TILE_MAP (j + 1) = s.odGet 0 Od.MATCH_TILE_MAP (j + 1)) ∧ t.kv = s.kv))

/-! ## Firmware -/

/-- R598 to R605, R612, Table 18.4 to 18.6: each value of FW_CONTROL is accepted in its states and has its effect, in any other it is
refused with reason 32; a verification runs in steps, each of which goes on or ends it with the reason of its step; the owner's bytes are taken in order, a header that fails a check ends the download with the reason of the
check, the last byte makes the image RECEIVED, and a confirmation advances the fuses. -/
def Obligations.FirmwareIsReceivedAndVerified : Prop :=
  ∀ (s : State) (path : Path), s.admits path 3 →
    let p := pathCode path
    let refused (i : Instr) (reason : Nat) (phase : FwPhase) : Prop := Answers (exec i s) (fun t =>
      t.answered path = some (.refused .state) ∧ t.val Od.FW_REFUSE_REASON = reason ∧ t.fw.phase = phase ∧ t.kv = s.kv)
    let effect (v : Nat) (t : State) (fw : FwState) : Prop := t.fw = fw ∧ t.val Od.FW_CONTROL = v ∧ t.val Od.FW_REFUSE_REASON = 0
    (if s.fwAccepts p 0x4245474E then Takes s (.fwBegn path) path (fun t =>
        t.fw.phase = .receiving ∧ t.fw.owner = pathContext? p ∧ t.fw.image = [] ∧ t.fw.headerOk = false ∧ t.fw.running = s.fw.running
          ∧ t.val Od.FW_CONTROL = 0x4245474E ∧ t.val Od.FW_REFUSE_REASON = 0
          ∧ Only [.od, .fw] [Od.FW_CONTROL, Od.FW_REFUSE_REASON] s t)
      else refused (.fwBegn path) 32 s.fw.phase)
    ∧ (if s.fw.phase = .received then ∀ f, s.seq.slots.all (fun e => e.2.routine != some .verify) = true →
        (∃ m, 384 ≤ m ∧ m < 447 ∧ (s.slot m).state = .free) → Answers (exec (.fwVrfy path f) s) (fun t =>
          effect 0x56524659 t { s.fw with phase := .verifying, verify := some { path := some p, fails := f } }
            ∧ t.val Od.FW_PROGRESS = 0 ∧ Only [.od, .fw, .seq, .draws] [Od.FW_CONTROL, Od.FW_REFUSE_REASON, Od.FW_PROGRESS] s t
            ∧ ∃ m, 384 ≤ m ∧ m < 447 ∧ (s.slot m).state = .free ∧ (t.slot m).state = .executing
              ∧ (t.slot m).routine = some .verify ∧ (t.slot m).frags = [])
      else ∀ f, refused (.fwVrfy path f) 32 s.fw.phase)
    ∧ (∀ (n : Fin 512) (v : FwVerify), (s.slot n).state = .executing → (s.slot n).routine = some .verify → s.backgroundRuns = true →
        s.fw.verify = some v → let bad := verifyFails v.done v.fails = true ∨ (v.done = 0 ∧ s.headerReason (s.fw.image.take 772) true ≠ 0)
        (¬ bad → v.done < 9 → Answers (exec (.longRoutineStep n) s) (fun t =>
          t.fw = { s.fw with verify := some { v with done := v.done + 1 } } ∧ Only [.od, .fw, .seq] [Od.FW_PROGRESS] s t))
        ∧ (¬ bad → v.done = 9 → (s.slot n).frags = [] → v.path = some p → Answers (exec (.longRoutineStep n) s) (fun t =>
            t.fw = { s.fw with phase := .verified, verify := none, norStage := (partOf s.fw.parts 1).digest }
              ∧ t.answered path = some (.ok []) ∧ (t.slot n).state = .free))
        ∧ (bad → (s.slot n).frags = [] → v.path = some p → Answers (exec (.longRoutineStep n) s) (fun t =>
            t.fw.phase = .empty ∧ t.fw.image = [] ∧ t.val Od.FW_REFUSE_REASON = 17 + (verifyPart v.done).1
              ∧ t.answered path = some (.refused .state) ∧ (t.slot n).state = .free)))
    ∧ (if s.fw.phase = .verified ∧ s.val Od.CONFIG_STORE_STATE = 0 then
        Takes s (.fwActv path) path (fun t => effect 0x41435456 t { s.fw with phase := .activating, swap := .intent })
      else refused (.fwActv path) 32 s.fw.phase)
    ∧ (if s.fw.phase = .confirming ∧ s.selftestsPassed = true then
        Takes s (.fwConf path) path (fun t => effect 0x434F4E46 t { s.fw with
            phase := .previous, swap := .confirm
            fuses := [1, 2, 3, 4, 5, 6].map (fun k => max (s.fw.fuses.getD (k - 1) 0) (s.runningPart k).epoch) }
          ∧ t.od.twoFormat = [] ∧ t.val Od.FW_CONFIRM_REMAINING = 0)
      else refused (.fwConf path) 32 s.fw.phase)
    ∧ (if s.fw.phase = .receiving ∨ s.fw.phase = .received ∨ s.fw.phase = .verified then
        Takes s (.fwAbrt path) path (fun t => t.fw.phase = .empty ∧ t.fw.image = [] ∧ t.fw.owner = none ∧ t.fw.running = s.fw.running
          ∧ t.val Od.FW_CONTROL = 0x41425254)
      else refused (.fwAbrt path) 32 s.fw.phase)
    ∧ (∀ c data ok, s.fw.phase = .receiving → s.fw.owner = some c → pathContext? p = some c → data ≠ [] →
        let at_ : BitVec 64 := BitVec.ofNat 64 s.fw.image.length
        let n := s.fw.image.length + data.length
        s.fw.image.length < 2 ^ 64 →
        (s.fw.headerOk = true → n < s.fw.imageLen → Takes s (.fwImageWrite path at_ data ok) path (fun t =>
          t.fw = { s.fw with image := s.fw.image ++ data } ∧ Only [.od, .fw] [] s t))
        ∧ (s.fw.headerOk = true → n = s.fw.imageLen → Takes s (.fwImageWrite path at_ data ok) path (fun t =>
            t.fw = { s.fw with image := s.fw.image ++ data, phase := .received } ∧ Reports [.fw] [] s t))
        ∧ (s.fw.headerOk = false → n = 772 → s.headerReason (s.fw.image ++ data) ok = 0 →
            772 < fieldAt (s.fw.image ++ data) 16 8 → Takes s (.fwImageWrite path at_ data ok) path (fun t =>
              t.fw.headerOk = true ∧ t.fw.parts = headerParts (s.fw.image ++ data) ∧ t.fw.phase = .receiving))
        ∧ (s.headerReason (s.fw.image ++ data) ok ≠ 0 → s.fw.headerOk = false → n = 772 →
            Answers (exec (.fwImageWrite path at_ data ok) s) (fun t => t.fw.phase = .empty ∧ t.fw.image = []
              ∧ t.val Od.FW_REFUSE_REASON = s.headerReason (s.fw.image ++ data) ok
              ∧ t.answered path = some (.refused (if s.headerReason (s.fw.image ++ data) ok = 1 then .range else .state)))))

/-- R596, R606 to R614: the activation pause waits for bound work, then exchanges the images, loads the new one and reopens intake in
CONFIRMING with the window full when every patch is applied; without a confirmation, or with a self-test that fails, the module falls back and keeps what it
stores. The figures of the update itself are not among the settings that change format (R615). -/
def Obligations.FirmwareIsExchangedAndFallsBack : Prop :=
  ∀ (s : State), s.canSwap = true →
    (∀ x ∈ [Od.FW_CONFIRM_WINDOW, Od.FW_ACTIVATIONS, Od.FW_FALLBACKS], ∀ e ∈ s.od.twoFormat, e.1 ≠ odKey 0 x 0) →
    let back (t : State) : Prop := t.fw.phase = .rejected ∧ t.fw.running = s.fw.parts ∧ t.fw.slotB = !s.fw.slotB
      ∧ t.fw.swap = .backCommit ∧ counted Od.FW_FALLBACKS s t ∧ t.val Od.FW_CONFIRM_REMAINING = 0 ∧ t.val Od.INTAKE_STATE = 0
      ∧ t.admin.pauseStage = 0 ∧ t.kv.versions = s.kv.versions
    let plain (k : Nat) : Bytes := Config.patchPlain (partOf s.fw.parts k).digest
    (s.fw.phase = .activating → s.boundWork = false →
        ((s.exchange.fw.unchanged.contains 3 = true ∧ s.exchange.fw.unchanged.contains 4 = true)
          ∨ ∃ l, l ≠ [] ∧ s.exchange.patchCheck true true (plain 3) (plain 4) = .ok l) →
        Answers (exec (.fwActivationPause 0) s) (fun t =>
      t.fw.phase = .confirming ∧ t.fw.running = s.fw.parts ∧ t.fw.parts = s.fw.running ∧ t.fw.slotB = !s.fw.slotB
        ∧ t.fw.swap = .commit ∧ counted Od.FW_ACTIVATIONS s t ∧ t.val Od.FW_CONFIRM_REMAINING = s.val Od.FW_CONFIRM_WINDOW
        ∧ t.val Od.FW_SELFTEST = 0xBF ∧ t.val Od.INTAKE_STATE = 0 ∧ t.admin.pauseStage = 0
        ∧ t.kv.versions = s.kv.versions ∧ t.seq.csnLast = s.seq.csnLast))
    ∧ (∀ f, s.fw.phase = .activating → s.boundWork = true → s.admin.pauseStage = 0 →
        Answers (exec (.fwActivationPause f) s) (fun t => t.fw = s.fw ∧ t.admin.pauseStage = 1 ∧ t.val Od.INTAKE_STATE = 1
          ∧ t.seq.slots = s.seq.slots.filter (fun e => e.2.state != .filled)))
    ∧ (∀ f, s.fw.phase = .activating → s.boundWork = false → f ≠ 0 → Answers (exec (.fwActivationPause f) s) (fun t =>
        t.fw.phase = .rejected ∧ t.fw.running = s.fw.running ∧ t.kv.versions = s.kv.versions))
    ∧ (s.canPowered = true → s.fw.phase = .confirming → Answers (exec .fwTimerRecord s) (fun t =>
        t.fw = { s.fw with swap := .timer (s.val Od.FW_CONFIRM_REMAINING) } ∧ OnlyGroups [.fw] s t))
    ∧ (s.fw.phase = .confirming → s.boundWork = false → Answers (exec .fwConfirmWindowExpiry s) back)
    ∧ (∀ (part : Fin 7), s.fw.phase = .confirming → s.boundWork = false → part ≠ 0 →
        Answers (exec (.fwSelftestFail part) s) back)

/-! ## Incidents, flash and media -/

/-- R255 to R257, R516: an assertion of INCIDENT binds a hold over the values of the window before it, is latched before intake first
opens, and is ignored until INCIDENT_REARM has passed; the second hold follows when it is due, and
after a loss of supply when the directory is loaded. -/
def Obligations.IncidentsHoldTheirWindow : Prop :=
  ∀ (s : State), s.incidentSeen = true →
    let now : IncidentHold := { dt := s.clock.dt, toDt := none, tick := s.clock.ticks }
    let c := s.takeCsn.seq.csnLast
    let covers := (List.range 4096).filter s.incidentNs
    (s.power.incidentLow = false → s.rearming = true → Answers (exec .incidentAssert s) (fun t =>
      counted Od.INCIDENT_IGNORED s t ∧ t.val Od.INCIDENT_STATE = 1 ∧ t.power = { s.power with incidentLow := true }
        ∧ Only [.power, .od] [Od.INCIDENT_STATE, Od.INCIDENT_IGNORED] s t))
    ∧ (s.power.incidentLow = false → s.rearming = false → s.power.firstOpen = false → Answers (exec .incidentAssert s) (fun t =>
        t.power = { s.power with incidentLow := true, incidentLatched := s.power.incidentLatched ++ [now] }
          ∧ t.val Od.INCIDENT_STATE = 1 ∧ Only [.power, .od] [Od.INCIDENT_STATE] s t))
    ∧ (s.power.incidentLow = false → s.rearming = false → s.power.firstOpen = true → s.seq.slots = [] →
        s.power.incidentLatched = [] → s.activeHolds.length < 4096 → Answers (exec .incidentAssert s) (fun t =>
          t.seq.csnLast = c ∧ t.val Od.INCIDENT_LAST_CSN = c ∧ counted Od.INCIDENT_COUNT s t
            ∧ t.power.rearmSince = some s.clock.ticks ∧ t.kv.versions = s.kv.versions
            ∧ ∃ pins, t.kv.holds = s.kv.holds ++ [{ csn := c, covers := covers, pinned := pins, counted := 0 }]
              ∧ ∀ v ∈ s.kv.versions, s.incidentNs v.ns = true →
                s.clock.dt - s.val Od.INCIDENT_WINDOW * 1000000000 ≤ v.stamp.dt → v.stamp.dt ≤ s.clock.dt →
                s.valueAt v.ns v.key c s.clock.expiry = some v → v.stamp.csn ∈ pins))
    ∧ (s.power.incidentLow = false → s.rearming = false → s.power.firstOpen = true → (s.slot 447).state = .free →
        s.power.incidentLatched = [] → Answers (exec .incidentAssert s) (fun t =>
          t.seq.csnLast = c ∧ t.val Od.INCIDENT_STATE = 1 ∧ t.power.incidentLow = true))
    ∧ (s.power.incidentLow = true → Answers (exec .incidentRelease s) (fun t =>
        t.power = { s.power with incidentLow := false } ∧ t.val Od.INCIDENT_STATE = 0 ∧ Only [.power, .od] [Od.INCIDENT_STATE] s t))
    ∧ (∀ h hs, s.power.firstOpen = true → s.power.afterDue = h :: hs → h.toDt.isSome = true → (s.slot 447).state = .free →
        s.power.incidentLatched = [] → s.secondAtLoad = false →
        Answers (exec .incidentAfterExpiry s) (fun t => t.seq.csnLast = c ∧ t.power.afterDue = hs
          ∧ t.kv.versions = s.kv.versions))
    ∧ (∀ ms h hs, s.live = true → s.power.firstOpen = true → s.kv.loaded = false → s.val Od.KEYSTORE_STATE ≠ 2 →
        s.cipher.rootKey = true → s.power.startKind ≤ 1 → s.power.afterDue = h :: hs → h.toDt.isSome = true →
        (s.slot 447).state = .free → s.power.incidentLatched = [] → Answers (exec (.directoryLoaded ms) s) (fun t =>
          (t.slot 447).state = .bound ∧ (t.slot 447).incident = some (s.incidentBound h) ∧ (t.slot 447).csn = c
            ∧ t.power.incidentLatched = hs ∧ t.power.afterDue = [] ∧ t.kv.loaded = true))
    ∧ (∀ h, (s.slot 447).state = .executing → (s.slot 447).incident = some h → s.activeHolds.length < 4096 →
        Answers (exec (.hold 447) s) (fun t => (t.slot 447).routine = some (.holdScan (s.slot 447).csn)
          ∧ t.kv.holds = s.kv.holds ++ [{ csn := (s.slot 447).csn, covers := h.covers
                                          pinned := (s.incidentPins (s.slot 447) h).map (·.stamp.csn), counted := 0 }]
          ∧ counted Od.INCIDENT_COUNT s t ∧ t.val Od.INCIDENT_LAST_CSN = (s.slot 447).csn))

/-- R240, R245 to R249, R265 to R267: a row line begins when what waits for its bin fills it, an INDEX line carries pages and the
journal; a programmed line journals PLACED for each record that it makes durable; an idle or ended time bin closes and gives back what
waits. -/
def Obligations.RecordsReachTheirStripes : Prop :=
  ∀ (s : State),
    (∀ (b : Fin 37) i, s.live = true → b.val < 35 → let a := s.assignBins
      a.openStripeOf? b = some i → (a.stripe i).inFlight = false → a.gussetHolds (a.stripe i) = false →
      let x := a.stripe i
      let line := nextLineBytes a.hw.grade x
      let y := placeUntil (stripeSpace a.hw.grade x) line (a.waiting b) x
      (a.partialLine? b).isSome = true → x.programmed + line ≤ y.placed →
      Answers (exec (.rowLineProgram b) s) (fun t =>
        t.stripe i = { y with inFlight := true } ∧ t.kv.versions = a.kv.versions ∧ t.flash = (a.setStripe i (t.stripe i)).flash))
    ∧ (∀ i, s.live = true → (s.openStripeOf? 35).isSome = true → s.indexLine? = some i → (s.stripe i).inFlight = false →
        s.gussetHolds (s.stripe i) = false →
        let n := nextLineBytes s.hw.grade (s.stripe i) / 16384
        let have_ := (s.stripe i).pages.length - (s.stripe i).programmed / 16384
        let len := s.pocket.journal.length
        let carries (k : Nat) : Prop := Answers (exec (.rowLineProgram 35) s) (fun t =>
          (t.stripe i).inFlight = true ∧ t.flash.carried = k ∧ OnlyGroups [.flash] s t)
        (256 * (n - have_) ≤ len → carries (256 * (n - have_)))
        ∧ (len < 256 * (n - have_) → s.flushNeeds 35 = true → 0 < have_ + len → carries len)
        ∧ (len < 256 * (n - have_) → s.flushNeeds 35 = false → exec (.rowLineProgram 35) s = .next s))
    ∧ exec (.rowLineProgram 36) s = .next s
    ∧ (∀ (i : Fin 2048), (s.stripe i).state = .isOpen → (s.stripe i).inFlight = true → (s.stripe i).condemned = false →
        let done := (s.stripe i).programmed + nextLineBytes s.hw.grade (s.stripe i)
        Answers (exec (.rowLineProgrammed i none) s) (fun t => (t.stripe i).inFlight = false ∧ (t.stripe i).programmed = done
          ∧ t.kv.versions = s.kv.versions
          ∧ ((s.stripe i).bin = 35 → (∃ l, t.pocket.durable = s.pocket.durable ++ s.pocket.journal.take s.flash.carried ++ l)
            ∧ ∃ l, t.pocket.journal = s.pocket.journal.drop s.flash.carried ++ l)
          ∧ ((s.stripe i).bin ≠ 35 → ∀ p ∈ (s.stripe i).records, p.copy = false → (s.stripe i).programmed < p.stop → p.stop ≤ done →
            ∃ j ∈ t.pocket.journal ++ t.pocket.durable, j.type = 0x10 ∧ j.csn = p.csn ∧ j.digest = keyDigest p.ns p.key)))
    ∧ (∀ i, s.live = true → s.binsOwn → s.kv.records.all (fun r => !r.waits) = true → s.pocket.journal ≠ [] →
        (s.openStripeOf? 35).isSome = true → s.indexLine? = some i → (s.stripe i).inFlight = false →
        s.gussetHolds (s.stripe i) = false → Answers (exec .drainIdleExpiry s) (fun t => (t.stripe i).inFlight = true
          ∧ t.flash.carried = min s.pocket.journal.length (256 * (nextLineBytes s.hw.grade (s.stripe i) / 16384
              - ((s.stripe i).pages.length - (s.stripe i).programmed / 16384)))
          ∧ OnlyGroups [.flash] s t))
    ∧ (∀ (b : Fin 32), (s.bin b).isOpen = true →
        let closed (t : State) : Prop := (t.bin b).isOpen = false ∧ (∀ r ∈ t.kv.records, r.waits = true → r.bin ≠ some b.val)
          ∧ (∀ i, s.openStripeOf? b = some i → (t.stripe i).state = .full ∨ (t.stripe i).closing = true)
          ∧ t.kv.versions = s.kv.versions ∧ OnlyGroups [.flash, .kv, .pocket, .events, .draws] s t
        Answers (exec (.binIdleExpiry b) s) closed
        ∧ ((((s.bin b).quantum + 1) * (s.val Od.BIN_WIDTH * 1000000000) ≤ s.clock.expiry) → Answers (exec (.binQuantumEnd b) s) closed)
        ∧ (s.clock.expiry < ((s.bin b).quantum + 1) * (s.val Od.BIN_WIDTH * 1000000000) → exec (.binQuantumEnd b) s = .next s))

/-- R254, R258, R266, R268 to R270, R273, R275, R276, R279, R287, R340, R456: the victim of a collection or a fold is reclaimed, erased
when its copies and seals are durable, and FREE when no record stands in it, each plane's block worn and unbound; a checkpoint saves
the entries kept by the module and the matcher's image; sizing and trackers are recorded. -/
def Obligations.StripesAreCollected : Prop :=
  ∀ (s : State), s.live = true →
    (∀ i folds, s.backgroundRuns = true → s.flash.collecting = none → s.victim? = some (i, folds) →
      Answers (exec .collectionStart s) (fun t =>
        (t.stripe i).state = .reclaim ∧ (t.stripe i).copied = false ∧ t.flash.collecting = some i
          ∧ t.flash.folding = (if folds then some i else s.flash.folding) ∧ t.kv.versions = s.kv.versions
          ∧ (∀ r ∈ s.liveIn i, ∃ q ∈ t.kv.records, q.csn = r.csn ∧ q.moving = true)
          ∧ (∀ j, j ≠ i → t.stripe j = s.stripe j) ∧ Reports [.flash, .seq, .kv] [] s t))
    ∧ (s.victim? = none ∨ s.backgroundRuns = false → exec .collectionStart s = .next s)
    ∧ (∀ i, s.backgroundRuns = true → s.flash.folding = none → s.foldDue = true → s.oldestFold? = some i →
        Answers (exec .foldStart s) (fun t =>
          (t.stripe i).state = .reclaim ∧ t.flash.folding = some i ∧ t.kv.versions = s.kv.versions
            ∧ (∀ j, j ≠ i → t.stripe j = s.stripe j) ∧ OnlyGroups [.flash, .seq, .kv] s t))
    ∧ (∀ (i : Fin 2048), (s.stripe i).state = .reclaim → s.copiesDurable i = true → s.endedCovered i = true →
        let moved := ((s.liveIn i).map (·.placed)).sum
        Answers (exec (.collectCopyDurable i) s) (fun t => (t.stripe i).state = .erasing ∧ (t.stripe i).copied = true
          ∧ (s.flash.folding = some i.val → t.val Od.FOLD_BYTES = min (s.val Od.FOLD_BYTES + moved) (2 ^ 64 - 1))
          ∧ (s.flash.folding ≠ some i.val → t.val Od.COLLECT_BYTES = min (s.val Od.COLLECT_BYTES + moved) (2 ^ 64 - 1))
          ∧ (∀ v ∈ t.kv.versions, v ∈ s.kv.versions)))
    ∧ (∀ (i : Fin 2048), s.copiesDurable i = false → exec (.collectCopyDurable i) s = .next s)
    ∧ (∀ (i : Fin 2048), (s.stripe i).state = .erasing → s.stripeNeeded i = false → s.val Od.GUSSET_STATE ≠ 1 →
        Answers (exec (.blockEraseDone i none) s) (fun t =>
          t.stripe i = { excluded := (s.stripe i).excluded || (s.stripe i).condemned }
          ∧ t.flash.collecting ≠ some i.val ∧ (∀ j, j ≠ i.val → t.stripe j = s.stripe j) ∧ t.kv = s.kv
          ∧ (∀ k b, SMap.get? (s.plane k).map i.val = some b → SMap.get? (t.plane k).map i.val = none
              ∧ SMap.getD (t.plane k).units b 0 = SMap.getD (s.plane k).units b 0 + (if (s.stripe i).qlc then 20 else 1))))
    ∧ (∀ (i : Fin 2048) f, s.stripeNeeded i = true → exec (.blockEraseDone i f) s = .next s)
    ∧ (s.kv.loaded = true → Answers (exec .dirCheckpoint s) (fun t => t.pocket.checkpoint = s.pocket.checkpoint + 1
        ∧ t.od.saved = s.od.vals ∧ t.matcher.image = s.matcher.entries ∧ t.matcher.imageGen = s.val Od.MATCH_GENERATION
        ∧ t.kv = s.kv ∧ OnlyGroups [.flash, .pocket, .od, .matcher, .events, .draws] s t))
    ∧ (∀ peak, Answers (exec (.binSizingRecompute peak) s) (fun t =>
        t.val Od.BIN_SIZING = ceilDiv (peak * 600) (stripeData s.hw.grade) ∧ t.flash = { s.flash with writeRate := peak }
          ∧ Only [.od, .flash] [Od.BIN_SIZING] s t))
    ∧ Answers (exec .trackerSave s) (fun t => t.flash.trackersSaved = s.flash.trackers ∧ t.flash.rebuilt = []
        ∧ t.matcher.repairs = [] ∧ Only [.od, .matcher, .flash] [Od.WA_24H] s t)

/-- R91, R278 to R280, R288 to R298: what patrol reads is counted, and lost where parity cannot give it back, while the index keeps it;
a die that stays silent is rebuilt on its channel's spare; a lost channel narrows every row. -/
def Obligations.MediaFailuresAreCarried : Prop :=
  ∀ (s : State), s.live = true →
    (∀ d i w r, Answers (exec (.patrolRead d i w r) s) (fun t => t.kv.versions = s.kv.versions ∧ t.seq.csnLast = s.seq.csnLast
      ∧ (s.backgroundRuns = false → t = s)
      ∧ (∀ bits, s.backgroundRuns = true → r = .good bits → bits ≤ s.val Od.RELOCATE_BITS → t.kv = s.kv
        ∧ t.val Od.CNT_CORRECTED = (if bits = 0 then s.val Od.CNT_CORRECTED else min (s.val Od.CNT_CORRECTED + 1) (2 ^ 64 - 1)))
      ∧ (s.backgroundRuns = true → r = .beyondDecoder true → t.val Od.CNT_UNCORRECTABLE = min (s.val Od.CNT_UNCORRECTABLE + 1) (2 ^ 32 - 1))
      ∧ (s.backgroundRuns = true → r = .beyondDecoder false → ∀ k ∈ s.kv.records, k.loc = .flash i.val →
        k.csn ∈ s.touched i.val (fun a b => s.touchesLine i.val (s.stripe i.val) d.val w.val a b) →
        { k with loc := .lost } ∈ t.kv.records)))
    ∧ (∀ (d : Fin 160), s.flash.failed.contains d.val = false → s.flash.replaced.contains d.val = false →
        (d.val % 10 = sparePosition s.hw.grade → s.odGet 0 Od.SPARE_DIE (d.val / 10 + 1) = 0 →
          Answers (exec (.dieResetTimeout d) s) (fun t => t.odGet 0 Od.SPARE_DIE (d.val / 10 + 1) = 3 ∧ t.kv = s.kv))
        ∧ (d.val % 10 < sparePosition s.hw.grade → Answers (exec (.dieResetTimeout d) s) (fun t =>
            (t.flash.failed.contains d.val = true ∨ t.flash.replaced.contains d.val = true) ∧ t.kv.versions = s.kv.versions)))
    ∧ (∀ (i : Fin 2048), s.val Od.GUSSET_STATE = 1 → ((s.stripe i).state = .full ∨ (s.stripe i).state = .isOpen) →
        (s.stripe i).rebuilt = false → s.rebuildsNext i.val = true →
        let left := (s.setStripe i { s.stripe i with rebuilt := true }).onDie
        s.val Od.GUSSET_DIE < 160 →
        (left ≠ [] → Answers (exec (.gussetStripeRebuilt i) s) (fun t => (t.stripe i).rebuilt = true ∧ t.val Od.GUSSET_STATE = 1
          ∧ t.val Od.GUSSET_PROGRESS ≤ 100 ∧ t.kv = s.kv))
        ∧ (left = [] → s.flash.gussetQueue = [] → Answers (exec (.gussetStripeRebuilt i) s) (fun t =>
            t.val Od.GUSSET_STATE = 0 ∧ t.val Od.GUSSET_PROGRESS = 100 ∧ t.flash.replaced.contains (s.val Od.GUSSET_DIE) = true
              ∧ t.odGet 0 Od.SPARE_DIE (s.val Od.GUSSET_DIE / 10 + 1) = 2 ∧ t.kv = s.kv)))
    ∧ (∀ (c : Fin 16), (s.val Od.CHANNELS_LOST).testBit c = false → Answers (exec (.channelLost c) s) (fun t =>
        t.val Od.CHANNELS_LOST = s.val Od.CHANNELS_LOST + 2 ^ c.val ∧ t.odGet 0 Od.SPARE_DIE (c.val + 1) = 3
          ∧ (∀ r, r < gradeRows s.hw.grade → (t.val Od.ROWS_NARROWED).testBit r = true) ∧ t.kv.versions = s.kv.versions))

/-! ## Faults inside the module -/

/-- R218, R230, R391, R392, R582, R587 to R590: a step that overruns or meets a parity error restarts under its CSN on another op
engine, or waits for one; the third machine check of an engine within 24 hours replaces it, and the third engine of a step is fatal; a reloaded
store lets its unit resume; a retried read completes, or ends with PARTIAL or TAG_FAIL. -/
def Obligations.StepsRestartAfterFaults : Prop :=
  ∀ (s : State),
    let recent (e : Fin 36) : List Nat := (s.engine e).checks.filter (fun at_ => decide (s.seconds < at_ + 86400))
    let restarted (e : Fin 36) (n : Nat) (t : State) : Prop :=
      (t.slot n).csn = (s.slot n).csn ∧ (t.slot n).frags = (s.slot n).frags ∧ (t.slot n).mchk = (s.slot n).mchk + 1
        ∧ (t.engine e).slot = none ∧ counted Od.CNT_MACHINE_CHECK s t ∧ t.kv = s.kv
        ∧ (t.slot n).state = (s.slot n).state
        ∧ (((t.slot n).ope = none ∧ (t.slot n).retry = some .engine)
          ∨ ∃ k, k ≠ e.val ∧ (t.slot n).ope = some k ∧ (t.engine k).slot = some n)
    (∀ (e : Fin 36) n, (s.engine e).slot = some n → (s.slot n).mchkOn.length < 2 →
      ((recent e).length < 2 → Answers (exec (.stepTimerOverrun e) s) (fun t =>
        restarted e n t ∧ counted Od.CNT_STEP_OVERRUN s t ∧ (t.engine e).checks = recent e ++ [s.seconds]
          ∧ (t.engine e).retired = (s.engine e).retired
          ∧ Reports [.seq] [Od.CNT_STEP_OVERRUN, Od.CNT_MACHINE_CHECK] s t))
      ∧ (2 ≤ (recent e).length → Answers (exec (.stepTimerOverrun e) s) (fun t =>
        restarted e n t ∧ (t.engine e).retired = true ∧ (t.engine e).inService = false
          ∧ ((∃ k, k < 36 ∧ k ≠ e.val ∧ (s.engine k).inService = false ∧ (s.engine k).retired = false) →
            t.val Od.OPE_SPARE = s.val Od.OPE_SPARE - 1 ∧ t.val Od.OP_ENGINES = s.val Od.OP_ENGINES
              ∧ ∃ k, (s.engine k).inService = false ∧ (t.engine k).inService = true)
          ∧ ((∀ k, k < 36 → k ≠ e.val → (s.engine k).inService = true ∨ (s.engine k).retired = true) →
            t.val Od.OPE_SPARE = s.val Od.OPE_SPARE ∧ t.val Od.OP_ENGINES = s.val Od.OP_ENGINES - 1))))
    ∧ (∀ (e : Fin 36) n, (s.engine e).slot = some n → s.power.rideThrough = false → (s.slot n).mchkOn.length = 2 →
        (s.slot n).mchkOn.contains e.val = false → s.power.phase = .running → Answers (exec (.stepTimerOverrun e) s) (fun t =>
          t.power.phase = .fatalStop ∧ t.seq.stopped = true))
    ∧ (∀ (e : Fin 36) (store : Fin 2) a, s.live = true →
        ((s.engine e).slot = none → Answers (exec (.opeParityError e store a) s) (fun t =>
          (t.engine e).reloading = true ∧ t.seq.slots = s.seq.slots ∧ counted Od.CNT_MCODE_PARITY s t (store.val + 1)
            ∧ Reports [.seq] [Od.CNT_MCODE_PARITY] s t))
        ∧ (∀ n, (s.engine e).slot = some n → (recent e).length < 2 → (s.slot n).mchkOn.length < 2 →
          Answers (exec (.opeParityError e store a) s) (fun t =>
            (t.engine e).reloading = true ∧ restarted e n t ∧ counted Od.CNT_MCODE_PARITY s t (store.val + 1))))
    ∧ (∀ (c : Fin 16) a, s.live = true → Answers (exec (.msqParityError c a) s) (fun t =>
        t.flash.msqStopped.contains c.val = true ∧ t.flash = { s.flash with msqStopped := t.flash.msqStopped }
          ∧ counted Od.CNT_MCODE_PARITY s t 3 ∧ Reports [.flash, .seq] [Od.CNT_MCODE_PARITY] s t))
    ∧ (∀ (e : Fin 36), (s.engine e).reloading = true → s.power.phase ≠ .hem →
        Answers (exec (.storeReloadDone (.ope e) true) s) (fun t =>
          t.engine e = { s.engine e with reloading := false } ∧ counted Od.CNT_STORE_RELOADS s t
            ∧ Only [.seq, .od] [Od.CNT_STORE_RELOADS] s t)
        ∧ Answers (exec (.storeReloadDone (.ope e) false) s) (fun t =>
          (t.engine e).retired = true ∧ (t.engine e).slot = none ∧ counted Od.CNT_STORE_RELOADS s t ∧ t.kv = s.kv))
    ∧ (∀ (c : Fin 16) b, s.flash.msqStopped.contains c.val = true → Answers (exec (.storeReloadDone (.msq c) b) s) (fun t =>
        t.flash.msqStopped.contains c.val = !b ∧ counted Od.CNT_STORE_RELOADS s t
          ∧ Only [.flash, .seq, .od] [Od.CNT_STORE_RELOADS] s t))
    ∧ (∀ (n : Fin 512) (k : Nat) csn len, (s.slot n).retry = some (.parity k) →
        let x := { s.slot n with retry := none }
        let a := s.setSlot n x
        let read := (if (s.cmdOf n).opcode = 0x13 then xreadEffect x (s.cmdOf n) a else getReply x (s.cmdOf n) a).2
        a.retryOf x (s.cmdOf n) k = some (csn, len) →
        (∃ u : State, exec (.parityRetryDone n true) s = .next (u.retire n x (s.cmdOf n) read)
          ∧ counted Od.CNT_RETRY_RECOVERED s u ∧ u.kv.versions = s.kv.versions)
        ∧ (∃ u : State, exec (.parityRetryDone n false) s = .next (u.retire n x (s.cmdOf n) (cutReply read len))
          ∧ (cutReply read len).final = (if len = 0 then St.TAG_FAIL else St.PARTIAL)
          ∧ counted (if len = 0 then Od.CNT_TAG_FAIL_FINAL else Od.CNT_PARTIAL) s u
          ∧ u.health.conds.getLsbD 14 = true ∧ u.kv.versions = s.kv.versions))

/-- R212, R299 to R302, R304, R400, R401, R522: a failed row, bank, core, cell, phase or channel is replaced by a spare while there is
one, and what is lost is told; HEALTH_STATE is the highest state of the active conditions, but for orphan mode, which holds it. -/
def Obligations.PartsAreSparedAndHealthFollows : Prop :=
  ∀ (s : State),
    let healthEntries : List Nat := [Od.HEALTH_STATE, Od.HEALTH_REASON, Od.HEALTH_REASON_EVER, Od.HEALTH_WORST]
    (s.canPowered = true → Answers (exec .healthEvaluation s) (fun t =>
      t.val Od.HEALTH_REASON = s.activeConds ∧ (s.seam.orphan = false → t.val Od.HEALTH_STATE = healthOf s.activeConds)
        ∧ (s.seam.orphan = true → s.seam.orphanLong = false → t.val Od.HEALTH_STATE = s.val Od.HEALTH_STATE)
        ∧ Reports [.health] healthEntries s t))
    ∧ (∀ (b : Fin 26) row, s.canPowered = true → let used := SMap.getD s.health.sramRows b.val 0
        (used < 32 → Answers (exec (.sramRowRepair b row) s) (fun t =>
          SMap.getD t.health.sramRows b.val 0 = used + 1 ∧ t.val Od.SRAM_ROWS_REPAIRED = (s.val Od.SRAM_ROWS_REPAIRED + 1) % 2 ^ 16
            ∧ Reports [.health] [Od.SRAM_ROWS_REPAIRED] s t))
        ∧ (∀ role, 32 ≤ used → s.health.banksFailed.contains b.val = false → s.bankRole b.val = some role →
          let free (k : Nat) : Prop := k ≠ b.val ∧ s.health.banksFailed.contains k = false ∧ SMap.get? s.health.bankFor k = none
          (free 24 ∨ free 25 → Answers (exec (.sramRowRepair b row) s) (fun t =>
            t.health.banksFailed = b.val :: s.health.banksFailed
              ∧ (∃ k, (k = 24 ∨ k = 25) ∧ free k ∧ SMap.get? t.health.bankFor k = some role)
              ∧ t.val Od.SRAM_SPARE_BANKS = s.val Od.SRAM_SPARE_BANKS - 1 ∧ t.kv = s.kv))
          ∧ (¬ free 24 → ¬ free 25 → Answers (exec (.sramRowRepair b row) s) (fun t =>
            t.health.banksFailed = b.val :: s.health.banksFailed ∧ (t.port s.bankPort).heldDown = true
              ∧ (t.port s.bankPort).linkUp = false ∧ t.kv = s.kv))))
    ∧ (∀ (g : BitVec 17), let hit (r : Record) : Bool := r.loc == .pocket && Config.entryInGroup g.toNat r.csn
        exec (.pocketLineUncorrectable g false) s = .next s
        ∧ (s.live = true → s.kv.records.any hit = true → Answers (exec (.pocketLineUncorrectable g true) s) (fun t =>
          t.kv = { s.kv with records := s.kv.records.map (fun r => if hit r then { r with loc := .lost, bin := none } else r) }
            ∧ Reports [.kv, .health] healthEntries s t)))
    ∧ (∀ (fc : BitVec 10) (fs : BitVec 5) ok, s.live = true → Answers (exec (.katTimer fc fs ok) s) (fun t =>
        (∀ k, k < 10 → fc.getLsbD k = true → t.odGet 0 Od.CIPHER_CORE_STATE (k + 1) = 2)
          ∧ (∀ k, k < 10 → fc.getLsbD k = false → s.odGet 0 Od.CIPHER_CORE_STATE (k + 1) = 1 →
            t.odGet 0 Od.CIPHER_CORE_STATE (k + 1) = 1)
          ∧ (∀ k, k < 5 → fs.getLsbD k = true → t.cipher.shaRetired.contains k = true)
          ∧ t.cipher.liningOk = (s.cipher.liningOk && ok)
          ∧ Reports [.cipher, .health] (healthEntries ++ [Od.CIPHER_CORE_STATE, Od.CNT_KAT_FAIL, Od.CIPHER_SPARE,
            Od.CIPHER_CORES, Od.SHA_SPARE, Od.LINING_STATE]) s t))
    ∧ (∀ caps esrs mj, s.canPowered = true → Answers (exec (.scapMeasurement caps esrs mj) s) (fun t =>
        t.val Od.HOLDUP_ENERGY = mj.toNat
          ∧ (∀ (k : Nat) (c : BitVec 16) (e : BitVec 14), k < 6 → caps[k]? = some c → esrs[k]? = some e →
            cellBad c.toNat e.toNat = true → bitsOf 31 30 (t.odGet 0 Od.SCAP_CELL (k + 1)) = 2)
          ∧ (mj.toNat < 12000 → s.tells Ev.HOLDUP_LOW → told Ev.HOLDUP_LOW s t)
          ∧ Reports [.health] (healthEntries ++ [Od.SCAP_CELL, Od.SCAP_SPARE, Od.HOLDUP_ENERGY]) s t))
    ∧ (∀ (rail phase : Byte), s.canPowered = true → let k := rail.toNat * 256 + phase.toNat
        (s.power.phasesOff.contains k = true → exec (.phaseImbalance rail phase) s = .next s)
        ∧ (s.power.phasesOff.contains k = false → Answers (exec (.phaseImbalance rail phase) s) (fun t =>
          t.power = { s.power with phasesOff := k :: s.power.phasesOff }
            ∧ t.val Od.PHASES_FAILED = (s.val Od.PHASES_FAILED + 1) % 2 ^ 8
            ∧ Reports [.power, .health] (Od.PHASES_FAILED :: healthEntries) s t)))
    ∧ (∀ (c : Fin 8), s.live = true → s.health.lpddrCopying.contains c.val = false →
        (s.val Od.LPDDR_MAPPED_OUT).testBit c.val = false →
        Answers (exec (.lpddrError c .correctedRate) s) (fun t =>
          t.health.lpddrCopying = c.val :: s.health.lpddrCopying ∧ Reports [.health] healthEntries s t)
        ∧ Answers (exec (.lpddrError c (.uncorrectable .pageCache)) s) (fun t =>
          t.health.lpddrCopying = c.val :: s.health.lpddrCopying ∧ t.flash = { s.flash with cache := s.flash.cache.drop 1 }
            ∧ Reports [.health, .flash] healthEntries s t)
        ∧ (∀ b, Answers (exec (.lpddrError c (.uncorrectable (.directory b))) s) (fun t =>
          t.health.lpddrCopying = c.val :: s.health.lpddrCopying ∧ t.kv.rebuilding.contains b.val = true
            ∧ t.kv.versions = s.kv.versions ∧ Reports [.kv, .health] healthEntries s t))
        ∧ Answers (exec (.lpddrError c (.uncorrectable .supervisor)) s) (fun t =>
          t.health.lpddrCopying = c.val :: s.health.lpddrCopying ∧ counted Od.SUP_RESTARTS s t ∧ t.kv = s.kv))
    ∧ (∀ (c : Fin 8), s.health.lpddrCopying.contains c.val = true → Answers (exec (.lpddrMapOutCopyDone c) s) (fun t =>
        t.health.lpddrCopying = s.health.lpddrCopying.filter (· != c.val)
          ∧ t.val Od.LPDDR_MAPPED_OUT = s.val Od.LPDDR_MAPPED_OUT + 2 ^ c.val
          ∧ (∃ kept, t.flash = { s.flash with cache := kept } ∧ ∀ b ∈ kept, b ∈ s.flash.cache)
          ∧ Reports [.health, .flash] (Od.LPDDR_MAPPED_OUT :: healthEntries) s t))

/-! ## Time -/

/-- R77, R78, R370 to R374, R377, R518, R533: a measurement beyond STEP_THRESHOLD steps device time, backwards under the next TE and
with a seal in every open chain, and a smaller one is slewed; eight small ones make time valid; a PPS
edge marks the second that a TIME message has named, or the nearest; outside 1 ms it is rejected until the third that agrees; holdover, its limit and the loss of the reference are recorded; a pulse leaves on a whole
second while time is valid; a value expires with the expiry clock. -/
def Obligations.TimeIsDisciplined : Prop :=
  ∀ (s : State),
    let timeEntries : List Nat := [Od.OFFSET_LAST, Od.FREQ_OFFSET, Od.LAST_STEP_NS, Od.CNT_STEPS_FWD, Od.CNT_STEPS_BACK, Od.TIME_VALID]
    let limit : Int := s.val Od.STEP_THRESHOLD
    let moved (o : Int) (t : State) : Prop :=
      t.val Od.OFFSET_LAST = saturate32 o ∧ t.draws = s.draws + 1
        ∧ (limit < o → t.clock.dt = min (s.clock.dt + o.toNat) (2 ^ 64 - 1) ∧ t.clock.te = s.clock.te ∧ t.clock.slew = 0
          ∧ counted Od.CNT_STEPS_FWD s t ∧ t.val Od.LAST_STEP_NS = unsigned 64 o)
        ∧ (o < -limit → s.clock.te < 0xFFFF → t.clock.dt = s.clock.dt - (-o).toNat ∧ t.clock.te = s.clock.te + 1
          ∧ t.clock.expiry = s.clock.expiry ∧ counted Od.CNT_STEPS_BACK s t ∧ t.val Od.LAST_STEP_NS = unsigned 64 o
          ∧ t.seq.csnLast = (s.openChains.foldl (fun u _ => u.takeCsn) s).seq.csnLast)
        ∧ (¬ limit < o → (¬ o < -limit ∨ 0xFFFF ≤ s.clock.te) → t.clock.dt = s.clock.dt ∧ t.clock.te = s.clock.te ∧ t.clock.slew = o
          ∧ t.seq = s.seq ∧ t.seals = s.seals)
        ∧ Reports [.clock, .seq, .seals, .draws] timeEntries s t
    let applied (src : TimeSource) (bound : Nat) (o : Int) (t : State) : Prop :=
      moved o t ∧ t.clock.source = src ∧ t.clock.holdover = false
        ∧ t.clock.streak = nextStreak (if s.clock.source = src then s.clock.streak else 0) o bound
        ∧ t.val Od.TIME_VALID = (if 8 ≤ t.clock.streak then 1 else s.val Od.TIME_VALID)
    (∀ (p : Fin 6) o, s.live = true → s.clock.running = true → s.ptpSlave p = true → Answers (exec (.ptpSync p o) s) (applied .ptp 1000 o))
    ∧ (∀ given, (s.clock.canTimeFresh = true → s.edgeOffset given = given)
        ∧ (s.clock.canTimeFresh = false → (s.edgeOffset given).natAbs ≤ 500000000 ∧ (given - s.edgeOffset given) % 1000000000 = 0))
    ∧ (∀ given agrees, let o := s.edgeOffset given; s.live = true → s.clock.running = true → bitOf 0 (s.val Od.TIME_SOURCE_ENABLE) = true →
        (s.clock.source = .ptp → s.clock.holdover = false → s.clock.syncSince = true → Answers (exec (.ppsEdge given agrees) s) (fun t =>
          t.clock = { s.clock with canTimeFresh := false, syncSince := false } ∧ OnlyGroups [.clock] s t))
        ∧ (s.clock.source = .pps → 1000000 < o.natAbs →
          let third := agrees = true ∧ 2 ≤ s.clock.ppsAgree
          (third → Answers (exec (.ppsEdge given agrees) s) (applied .pps 10000 o))
          ∧ (¬ third → Answers (exec (.ppsEdge given agrees) s) (fun t =>
            t.clock = { s.clock with canTimeFresh := false, syncSince := false, streak := 0
                                     ppsAgree := if agrees = true ∧ 0 < s.clock.ppsAgree then s.clock.ppsAgree + 1 else 1 }
              ∧ counted Od.CNT_PPS_REJECTED s t ∧ Only [.clock, .od] [Od.CNT_PPS_REJECTED] s t)))
        ∧ (s.clock.source = .free ∨ (s.clock.source = .pps ∧ o.natAbs ≤ 1000000)
            ∨ (s.clock.source = .ptp ∧ (s.clock.holdover = true ∨ s.clock.syncSince = false)) →
          Answers (exec (.ppsEdge given agrees) s) (applied .pps 10000 o)))
    ∧ (∀ (n : Fin 2) o, s.sdoServed n = true → bitOf 31 (s.odGet (s.netEntries n) Od.COB_ID_TIME 0) = true →
        (s.clock.source = .free → Answers (exec (.canTime n o) s) (fun t => moved o t ∧ t.clock.canTimeFresh = true
          ∧ t.clock.source = .free))
        ∧ (s.clock.source ≠ .free → Answers (exec (.canTime n o) s) (fun t =>
          t.clock = { s.clock with canTimeFresh := true } ∧ OnlyGroups [.clock] s t)))
    ∧ (s.live = true → s.clock.source ≠ .free → s.clock.holdover = false → Answers (exec .holdoverStart s) (fun t =>
        t.clock = { s.clock with holdover := true } ∧ Reports [.clock] [] s t))
    ∧ (s.clock.source ≠ .free → s.clock.holdover = true → Answers (exec .holdoverLimitExpiry s) (fun t =>
        t.clock = { s.clock with source := .free, streak := 0 } ∧ t.val Od.TIME_VALID = 0 ∧ Reports [.clock] [Od.TIME_VALID] s t))
    ∧ (s.live = true → s.clock.running = true → s.val Od.TIME_VALID = 1 → s.val Od.PPS_OUT_ENABLE = 1 →
        (s.clock.ppsStepped = false ∨ s.clock.ppsOutLast = none) → Answers (exec .ppsOutPulse s) (fun t =>
          t.sent = .ppsPulse s.clock.dt :: s.sent
            ∧ t.clock = { s.clock with ppsOutLast := some s.clock.ticks, ppsStepped := false } ∧ OnlyGroups [.clock, .sent] s t))
    ∧ (∀ k, s.clock.ppsOutLast = some k → s.clock.ppsStepped = true → s.clock.ticks < k + 62500000 → exec .ppsOutPulse s = .next s)
    ∧ (s.val Od.TIME_VALID ≠ 1 → exec .ppsOutPulse s = .next s)
    ∧ (s.live = true → s.val Od.CLK_STATE = 0 → Answers (exec .clkRefLost s) (fun t =>
        t.val Od.CLK_STATE = 1 ∧ t.val Od.TIME_VALID = 0 ∧ counted Od.CNT_CLK_REF_LOSS s t ∧ t.clock.dt = s.clock.dt
          ∧ Reports [.clock] [Od.CLK_STATE, Od.TIME_VALID, Od.CNT_CLK_REF_LOSS] s t))
    ∧ (∀ ms, s.val Od.CLK_STATE = 1 → Answers (exec (.clkRefRestored ms) s) (fun t =>
        t.val Od.CLK_STATE = 0 ∧ Reports [] [Od.CLK_STATE] s t))
    ∧ (∀ (ns : BitVec 12) key v e, s.newest.find? (fun v => v.ns == ns.toNat && v.key == key) = some v → v.expiry = some e →
        s.clock.running = true → s.clock.expiry < e → e < 2 ^ 64 →
        let d := min (max s.clock.dt e) (2 ^ 64 - 1)
        Answers (exec (.valueExpiry ns key) s) (fun t => t.clock = { s.clock with dt := d, expiry := max s.clock.expiry d }
            ∧ (∀ w, w ∈ t.kv.versions → w ∈ s.kv.versions)
            ∧ (s.isHeld v.stamp.csn = false → t.visible t.clock.expiry v = false) ∧ OnlyGroups [.clock, .kv] s t))

/-! ## Ports -/

/-- R299, R412, R413, R426, R445, R446, R448: a link comes up at a speed that is allowed, loses its frames and timers when it goes
down, and falls back by a speed; the covering port of a pair takes the addresses and sessions of its partner after the delay, and
gives them back. -/
def Obligations.LinksComeAndGo : Prop :=
  ∀ (s : State) (p : Fin 7),
    let stat (sub : Nat) (t : State) : Prop := counted (portIndex p 12) s t sub
    let others (t : State) : Prop := ∀ q, q ≠ p.val → (t.port q).linkUp = (s.port q).linkUp
    (∀ (v : Fin 6), s.mayLink p = true → (s.port p).linkUp = false → s.speedAllowed p v = true →
      Answers (exec (.linkUp p v) s) (fun t => (t.port p).linkUp = true ∧ (t.port p).speed = v.val ∧ others t
        ∧ (s.tells Ev.MAC_LINK_UP → told Ev.MAC_LINK_UP s t) ∧ Reports [] [] s t))
    ∧ (∀ (v : Fin 6), (s.mayLink p = false ∨ s.speedAllowed p v = false) → exec (.linkUp p v) s = .next s)
    ∧ ((s.port p).linkUp = true → Answers (exec (.linkDown p) s) (fun t =>
        (t.port p).linkUp = false ∧ (t.port p).inFlight = none ∧ (t.port p).control = [] ∧ (t.port p).held = [] ∧ stat 49 t ∧ others t
          ∧ ((∀ c, (s.session c).noticeMask = 0) → (t.port p).txq = []
            ∧ (let n := ((s.port p).txq.map (fun e => e.2.length)).sum
              t.odGet 0 (portIndex p 12) 46 = if n = 0 then s.odGet 0 (portIndex p 12) 46 else (s.odGet 0 (portIndex p 12) 46 + n) % 2 ^ 32))
          ∧ Reports [] [] s t))
    ∧ ((s.port p).linkUp = false → exec (.linkDown p) s = .next s)
    ∧ (∀ (v : Fin 6), s.mayLink p = true → bitOf 4 (s.phyConfig p) = true → s.speedAllowed p v = true →
        Answers (exec (.macSpeedFallback p v) s) (fun t => (t.port p).linkUp = false
          ∧ (t.port p).removed = v.val :: (s.port p).removed ∧ t.speedAllowed p v = false ∧ stat 50 t ∧ others t ∧ Reports [] [] s t))
    ∧ (∀ (v : Fin 6), Answers (exec (.speedRemovalExpiry p v) s) (fun t =>
        t.port p = { s.port p with removed := (s.port p).removed.filter (· != v.val) } ∧ OnlyGroups [.ports] s t))
    ∧ (s.receives p = true → s.takeoverEnabled p = true → (s.port (pairOf p)).linkUp = false → (s.port p).takeover = 0 →
        Answers (exec (.takeoverDelayExpiry p) s) (fun t =>
          (t.port p).takeover = 1 ∧ (t.port p).announceDue = true ∧ (t.port (pairOf p)).takeover = 2
            ∧ (∀ c y, SMap.get? s.wkp.sessions c = some y → y.port = pairOf p → (t.session c).physical = p.val)
            ∧ Reports [] [] s t))
    ∧ (s.receives p = true → (s.port p).announceDue = true → Answers (exec (.takeoverAnnounceRepeat p) s) (fun t =>
        (t.port p).announceDue = false ∧ (t.port p).takeover = (s.port p).takeover ∧ Reports [] [] s t))
    ∧ (s.receives p = true → (s.port p).takeover = 2 → Answers (exec (.takebackDelayExpiry p) s) (fun t =>
        (t.port p).takeover = 0 ∧ (t.port (pairOf p)).takeover = 0 ∧ (t.port p).announceDue = true
          ∧ (∀ c y, SMap.get? s.wkp.sessions c = some y → y.port = p.val → (t.session c).physical = p.val)
          ∧ Reports [] [] s t))

/-- R15, R427 to R432: received pause holds the queues that the mode of the port gives it, for as long as it says, unless it is
ignored; the watchdog releases them; a receive buffer above XOFF sends a pause, one below XON ends it. -/
def Obligations.PauseHoldsQueues : Prop :=
  ∀ (s : State) (p : Fin 7),
    let stat (sub : Nat) (t : State) : Prop := counted (portIndex p 12) s t sub
    let timer (t : State) (q : Nat) : Option Nat := SMap.get? (t.port p).held q
    let leaves (m : Msg) (t : State) : Prop :=
      ∃ f, f.msg = m ∧ f.bytes = 64 ∧ (f ∈ (t.port p).control ∨ (t.port p).inFlight = some f)
    (∀ (w : BitVec 16), s.receives p = true → Answers (exec (.pauseReceived p w) s) (fun t =>
      stat 7 t ∧ Reports [] [] s t
        ∧ (s.flowMode p = 1 → (s.port p).ignoring = [] → ∀ q ∈ queuesOf p, timer t q = if w = 0 then none else some w.toNat)
        ∧ (s.flowMode p ≠ 1 ∨ (s.port p).ignoring ≠ [] → (t.port p).held = (s.port p).held)))
    ∧ (∀ (v : BitVec 8) (ws : List (BitVec 16)), s.receives p = true → Answers (exec (.pfcReceived p v ws) s) (fun t =>
        stat 8 t ∧ Reports [] [] s t
          ∧ (s.flowMode p ≠ 2 → (t.port p).held = (s.port p).held)
          ∧ (s.flowMode p = 2 → ∀ q ∈ queuesOf p,
            let obeyed := v.getLsbD q && s.pfcEnabled p q && !(s.port p).ignoring.contains q
            timer t q = if obeyed = true then (if ws.getD q 0 = 0 then none else some (ws.getD q 0).toNat) else timer s q)))
    ∧ (∀ (q : Fin 8), Answers (exec (.pauseTimerExpiry p q) s) (fun t =>
        (∀ k, timer t k = if k ∈ s.timerQueues p q then none else timer s k) ∧ OnlyGroups [.ports] s t))
    ∧ (∀ (q : Fin 8), s.val (portIndex p 9) ≠ 0 → (timer s q).isSome = true → Answers (exec (.macPauseWdog p q) s) (fun t =>
        (∀ k, k ∈ s.timerQueues p q → timer t k = none ∧ (t.port p).ignoring.contains k = true)
          ∧ (∀ k, k ∉ s.timerQueues p q → timer t k = timer s k) ∧ stat 48 t ∧ Reports [] [] s t))
    ∧ (∀ (q : Fin 8), s.val (portIndex p 9) = 0 → exec (.macPauseWdog p q) s = .next s)
    ∧ Answers (exec (.pauseWdogIgnoreEnd p) s) (fun t => t.port p = { s.port p with ignoring := [] } ∧ OnlyGroups [.ports] s t)
    ∧ (∀ (i : Fin 8), s.receives p = true → s.sendsPause p i = true →
        let k := s.pauseMark p i
        let msg (quanta : Nat) : Msg := if s.flowMode p = 1 then .pauseFrame quanta else .pfcFrame i quanta
        (s.fillAbove p i (s.xoffOf p) = true → (s.port p).xoff.contains k = false → Answers (exec (.rxBufferXoff p i) s) (fun t =>
          leaves (msg 0xFFFF) t ∧ (t.port p).xoff = k :: (s.port p).xoff ∧ OnlyGroups [.ports] s t))
        ∧ (s.fillAbove p i (s.xonOf p) = true → (s.port p).xoff.contains k = true → Answers (exec (.pauseRepeat p i) s) (fun t =>
          leaves (msg 0xFFFF) t ∧ (t.port p).xoff = (s.port p).xoff ∧ OnlyGroups [.ports] s t))
        ∧ (s.fillBelow p i (s.xonOf p) = true → (s.port p).xoff.contains k = true → Answers (exec (.rxBufferXon p i) s) (fun t =>
          leaves (msg 0) t ∧ (t.port p).xoff.contains k = false ∧ OnlyGroups [.ports] s t)))
    ∧ (∀ (i : Fin 8), s.sendsPause p i = false → exec (.rxBufferXoff p i) s = .next s ∧ exec (.rxBufferXon p i) s = .next s
        ∧ exec (.pauseRepeat p i) s = .next s)

/-- R371, R416, R420 to R423, R433, R437 to R440: a frame is discarded by the first check it fails, or enters the queue of its kind;
a frame that has left is counted, its stamp is kept or dropped, and the next frame leaves by strict priority; address requests,
echoes and PTP messages are answered. -/
def Obligations.FramesArePassedAndSent : Prop :=
  ∀ (s : State) (p : Fin 7),
    let stat (sub : Nat) (t : State) : Prop := counted (portIndex p 12) s t sub
    let queue (q : Nat) : Nat := if p = 6 then 0 else q
    let fits (q bytes : Nat) : Prop :=
      queueBytes (SMap.getD (s.port p).txq (queue q) []) + bytes ≤ (if p = 6 then 2097152 else 524288)
    let queued (q : Nat) (m : Msg) (t : State) : Prop :=
      ∃ f, f.msg = m ∧ ((t.port p).inFlight = some f ∨ f ∈ SMap.getD (t.port p).txq (queue q) [])
    (∀ f, s.receives p = true → Answers (exec (.frameReceive p f) s) (fun t => Reports [] [] s t
      ∧ (∀ k, s.earlyDiscard? p f = some k → stat k t ∧ (t.port p).rxq = (s.port p).rxq)
      ∧ (s.earlyDiscard? p f = none → stat 1 t
        ∧ (f.control.isSome = true → (t.port p).rxq = (s.port p).rxq)
        ∧ (f.control = none → (∀ k, s.lateDiscard? p f = some k → stat k t ∧ (t.port p).rxq = (s.port p).rxq)
          ∧ (s.lateDiscard? p f = none → (t.port p).rxq =
            (s.port p).rxq ++ [(frameQueue f p, f.len, if f.tagged then f.pcp.val else 0)])))))
    ∧ (∀ f, s.receives p = false → exec (.frameReceive p f) s = .next s)
    ∧ (∀ f, (s.port p).inFlight = some f → Answers (exec (.frameTransmitDone p) s) (fun t =>
        .frame p f ∈ t.sent ∧ stat 31 t ∧ Reports [] [] s t
          ∧ (∀ sid tag, f.stampKind = some (sid, tag, 3) → (s.port p).tsq.length < 64 → (t.port p).tsq = (s.port p).tsq ++
            [{ dt := (s.port p).started.1, te := (s.port p).started.2, seqTag := tag, session := sid, kind := 3
               lossBefore := decide (0 < (s.port p).tsqLost), lossCount := min (s.port p).tsqLost 65535 }])
          ∧ (∀ sid tag kind, f.stampKind = some (sid, tag, kind) → 64 ≤ (s.port p).tsq.length →
            (t.port p).tsq = (s.port p).tsq ∧ (t.port p).tsqLost = (s.port p).tsqLost + 1 ∧ stat 51 t)
          ∧ (∀ sid tag kind, f.stampKind = some (sid, tag, kind) → kind ≠ 3 → (s.port p).tsq.length < 64 →
            (t.port p).tsq = (s.port p).tsq ∧ (t.port p).tsqLost = 0
              ∧ ((∀ c, (s.session c).noticeMask = 0) → kind = 0 ∨ kind = 2 → fits 6 94 →
                queued 6 (.ptpGeneral (8 + kind) tag (s.port p).started.1 (s.port p).started.2) t))
          ∧ (f.stampKind = none → (t.port p).tsq = (s.port p).tsq
            ∧ ((∀ c, (s.session c).noticeMask = 0) → (s.port p).linkUp = true → (s.port p).control = [] →
              ∀ q g gs, nextQueue? (s.port p) = some q → SMap.getD (s.port p).txq q [] = g :: gs → (t.port p).inFlight = some g))))
    ∧ ((s.port p).inFlight = none → exec (.frameTransmitDone p) s = .next s)
    ∧ Answers (exec (.tsqAgeExpiry p) s) (fun t => t.port p = { s.port p with tsq := (s.port p).tsq.drop 1 } ∧ OnlyGroups [.ports] s t)
    ∧ (∀ (asker : Asker) v6, s.receives p = true → let partner := asker.forPartner
        let turned := (partner && (s.port p).takeover != 1) || (!v6 && s.val (portIndex (if partner then pairOf p else p) 4) == 0)
        (turned = false → fits 6 (if v6 then 90 else 64) → Answers (exec (.arpRequest p asker v6) s) (fun t =>
          queued 6 (if v6 then .neighbourAdvert partner else .arpReply partner) t ∧ OnlyGroups [.ports] s t))
        ∧ (turned = true → Answers (exec (.arpRequest p asker v6) s) (fun t =>
          (t.port p).txq = (s.port p).txq ∧ OnlyGroups [.ports] s t)))
    ∧ (∀ v6 (echo : Echo), s.receives p = true → let partner := echo.asker.forPartner
        let turned := (partner && (s.port p).takeover != 1) || (!v6 && s.val (portIndex (if partner then pairOf p else p) 4) == 0)
        (turned = false → (s.port p).echoCount < 100 → fits 0 echo.bytes → Answers (exec (.icmpEcho p v6 echo) s) (fun t =>
          queued 0 .echoReply t ∧ (t.port p).echoCount = (s.port p).echoCount + 1 ∧ OnlyGroups [.ports] s t))
        ∧ (turned = false → 100 ≤ (s.port p).echoCount → Answers (exec (.icmpEcho p v6 echo) s) (fun t =>
          stat 52 t ∧ (t.port p).echoCount = (s.port p).echoCount ∧ Reports [] [] s t))
        ∧ (turned = true → Answers (exec (.icmpEcho p v6 echo) s) (fun t =>
          (t.port p).txq = (s.port p).txq ∧ OnlyGroups [.ports] s t)))
    ∧ (∀ (k : Fin 6), p.val = k.val → s.receives p = true → s.ptpOn p = true →
        let next := (s.port p).ptpSeq + 1
        (∀ (i : BitVec 16), fits 7 72 → Answers (exec (.ptpPdelay k (.request i)) s) (fun t =>
          queued 7 (.ptpEvent 2 i.toNat s.clock.dt s.clock.te) t ∧ OnlyGroups [.ports] s t))
        ∧ (∀ i, Answers (exec (.ptpPdelay k (.response i)) s) (fun t =>
          (t.port p).peerDelay = (s.port p).peerDelay ∧ OnlyGroups [.ports] s t))
        ∧ (∀ d, Answers (exec (.ptpPdelay k (.followUp d)) s) (fun t =>
          (t.port p).peerDelay = d ∧ (t.port p).asCapable = true ∧ OnlyGroups [.ports] s t))
        ∧ (fits 7 72 → Answers (exec (.pdelayIntervalExpiry k) s) (fun t =>
          queued 7 (.ptpEvent 1 next 0 0) t ∧ (t.port p).ptpSeq = next % 65536 ∧ OnlyGroups [.ports] s t))
        ∧ (∀ role, Answers (exec (.ptpAnnounce k role) s) (fun t => (t.port p).ptpRole = role ∧ OnlyGroups [.ports] s t))
        ∧ ((s.port p).ptpRole = .master → fits 7 64 → Answers (exec (.syncIntervalExpiry k) s) (fun t =>
          queued 7 (.ptpEvent 0 next 0 0) t ∧ (t.port p).ptpSeq = next % 65536 ∧ Reports [] [] s t
            ∧ (next % 8 = 0 → fits 6 94 → queued 6 (.ptpGeneral 11 next 0 0) t)))
        ∧ ((s.port p).ptpRole ≠ .master → exec (.syncIntervalExpiry k) s = .next s))

/-- R434, R439, R450, R464: a read of PORT_TSQ answers its entries and removes them; a write of 0 clears a counter, another value is
refused; a configuration write takes effect at once, and disabling a port or writing PORT_PHY_CONFIG takes its link down. -/
def Obligations.PortEntriesAreServed : Prop :=
  ∀ (s : State) (path : Path) (p : Fin 7), s.pathServed path = true →
    ((s.port p).tsq.length ≤ 64 → Answers (exec (.portTsqRead path p) s) (fun t =>
      t.answered path = some (.ok ((s.port p).tsq.flatMap tsqBytes)) ∧ t.port p = { s.port p with tsq := [] }
        ∧ (∀ q, q ≠ p.val → t.port q = s.port q) ∧ Only [.od, .ports] [] s t))
    ∧ (∀ (sub : Fin 53), sub.val ≠ 0 → 1 ≤ s.pathLevel (pathCode path) →
        Takes s (.portStatsClear path p sub 0) path (fun t => t.odGet 0 (portIndex p 12) sub = 0
          ∧ (∀ j, j < 256 → j ≠ sub.val → t.odGet 0 (portIndex p 12) j = s.odGet 0 (portIndex p 12) j)
          ∧ Only [.od] [portIndex p 12] s t)
        ∧ (∀ v, v ≠ 0 → TurnedDown s (.portStatsClear path p sub v) path .range))
    ∧ (∀ v, TurnedDown s (.portStatsClear path p 0 v) path .noWrite)
    ∧ (∀ (o : Fin 16) (sub : Byte) value row l, let x := portIndex p o
        odFind x sub.toNat = .ok row → row.wr = some l → l ≤ s.pathLevel (pathCode path) → lengthBad x row.ty 0 value = false →
        s.stateRefuses 0 x sub.toNat row = false →
        (odNumeric row.ty = false → Takes s (.portConfigWrite path p o sub value) path (fun t =>
          t.blob 0 x sub.toNat = value ∧ Only [.od] [Od.OD_CONFIG_WRITES, Od.CONFIG_STORE_STATE] s t))
        ∧ (odNumeric row.ty = true → ¬ (row.ty = .bool ∧ 1 < beNat value) →
          (s.rangeOk x row.range (beNat value) = false → TurnedDown s (.portConfigWrite path p o sub value) path .range)
          ∧ (s.rangeOk x row.range (beNat value) = true → Takes s (.portConfigWrite path p o sub value) path (fun t =>
            t.odGet 0 x sub.toNat = beNat value
              ∧ (o = 0 → beNat value = 0 → (t.port p).linkUp = false)
              ∧ (o = 1 → (t.port p).linkUp = false ∧ (t.port p).removed = [])
              ∧ (1 < o.val → Only [.od] [x, Od.OD_CONFIG_WRITES, Od.CONFIG_STORE_STATE] s t)
              ∧ Reports [] [x, Od.OD_CONFIG_WRITES, Od.CONFIG_STORE_STATE] s t))))

/-! ## CAN networks -/

/-- R467 to R470, R476 to R479, Table 12.7: NMT commands that name the node set its state, a reset begins its communication anew with
the pending node-ID and bit rate and a boot-up message; a node sends its heartbeat; the states of the controller are followed, and
told by EMCY, which leaves at once or waits for the inhibit time. -/
def Obligations.NodesFollowNmtAndErrors : Prop :=
  ∀ (s : State) (n : Fin 2),
    let message (cob : Nat) (data : Bytes) (t : State) : Prop := .can n ⟨cob % 2048, data⟩ ∈ t.sent
    let emcy (code : Nat) (five : Bytes) (t : State) : Prop :=
      bitOf 31 (s.odGet (s.netEntries n) Od.COB_ID_EMCY 0) = false → (s.net n).emcy = [] → (s.net n).inhibited = false →
        t.emcyServed n = true →
        message (s.odGet (s.netEntries n) Od.COB_ID_EMCY 0) (toLE 2 code ++ [BitVec.ofNat 8 (t.errorRegister n)] ++ five) t
    let emcyFrame (xs : List Nat) (t : State) : Prop := Only [.can, .od, .sent] (xs ++ [Od.CNT_EMCY_LOST]) s t
    (∀ (node : Byte), s.nmtFor n node = true →
      Answers (exec (.nmtStart n node) s) (fun t => t.nmt n = 5 ∧ emcyFrame [Od.CAN_NMT_STATE] t)
      ∧ Answers (exec (.nmtStop n node) s) (fun t => t.nmt n = 4 ∧ Only [.od] [Od.CAN_NMT_STATE] s t)
      ∧ Answers (exec (.nmtEnterPreOperational n node) s) (fun t => t.nmt n = 0x7F ∧ emcyFrame [Od.CAN_NMT_STATE] t)
      ∧ (let id := (s.net n).pendNode.getD (s.net n).node
        let again (t : State) : Prop := t.nmt n = 0x7F ∧ message (0x700 + id) [0] t ∧ (t.net n).node = id
          ∧ (t.net n).rate = (s.net n).pendRate.getD (s.net n).rate ∧ (t.net n).pendNode = none ∧ (t.net n).pendRate = none
          ∧ (t.net n).sdo = none ∧ (t.net n).lss = .waiting ∧ (t.net n).rpdos = [] ∧ OnlyGroups [.od, .can, .sent] s t
        id ≠ 255 → (n = 0 ∨ ((s.net 1).mode ≠ 1 ∧ s.val Od.CAN2_MODE ≠ 1)) →
          Answers (exec (.nmtResetCommunication n node) s) again
          ∧ Answers (exec (.nmtResetNode n node) s) (fun t => again t
            ∧ ∀ x ∈ [Od.CNT_CAN_BUS_OFF, Od.CNT_EMCY_LOST, Od.CNT_RPDO_REFUSED, Od.CNT_SDO_ABORTS], t.odGet 0 x (n + 1) = 0)))
    ∧ (∀ (node : Byte), s.nmtFor n node = false → exec (.nmtStart n node) s = .next s ∧ exec (.nmtStop n node) s = .next s
        ∧ exec (.nmtEnterPreOperational n node) s = .next s ∧ exec (.nmtResetNode n node) s = .next s
        ∧ exec (.nmtResetCommunication n node) s = .next s)
    ∧ (s.canServed n = true → s.nmt n ≠ 0 → s.odGet (s.netEntries n) Od.PRODUCER_HEARTBEAT_TIME 0 ≠ 0 →
        Answers (exec (.heartbeatTimer n) s) (fun t =>
          message (0x700 + s.nodeOf n) [BitVec.ofNat 8 (s.nmt n)] t ∧ OnlyGroups [.sent] s t))
    ∧ (s.canPowered = true → (s.net n).busOff = false →
        (∀ tec rec, Answers (exec (.canErrorPassive n tec rec) s) (fun t =>
          (t.net n).passive = true ∧ emcy 0x8120 [tec, rec, 0, 0, 0] t ∧ emcyFrame [] t))
        ∧ Answers (exec (.canErrorActive n) s) (fun t => (t.net n).passive = false ∧ emcyFrame [] t
          ∧ (s.errorRegister n ≠ 0 → t.errorRegister n = 0 → emcy 0 [0, 0, 0, 0, 0] t)))
    ∧ (s.canPowered = true → Answers (exec (.canBusOff n) s) (fun t =>
        (t.net n).busOff = true ∧ (t.net n).passive = false ∧ t.canLive n = false ∧ OnlyGroups [.can] s t))
    ∧ (s.canPowered = true → (s.net n).busOff = true → Answers (exec (.canBusOffRecovery n) s) (fun t =>
        (t.net n).busOff = false ∧ counted Od.CNT_CAN_BUS_OFF s t (n + 1) ∧ emcyFrame [Od.CNT_CAN_BUS_OFF] t
          ∧ emcy 0x8140 [BitVec.ofNat 8 (t.odGet 0 Od.CNT_CAN_BUS_OFF (n + 1)), 0, 0, 0, 0] t))
    ∧ (s.canPowered = true → ∀ lost, Answers (exec (.canRxOverrun n lost) s) (fun t =>
        emcy 0x8110 [BitVec.ofNat 8 (min lost 255), 0, 0, 0, 0] t ∧ emcyFrame [] t))
    ∧ Answers (exec (.emcyInhibitExpiry n) s) (fun t => emcyFrame [] t
        ∧ ((s.net n).emcy = [] → (t.net n).inhibited = false ∧ (t.net n).emcy = [])
        ∧ (∀ e es, (s.net n).emcy = e :: es → s.emcyServed n = true →
          message (s.odGet (s.netEntries n) Od.COB_ID_EMCY 0) (toLE 2 e.1 ++ [BitVec.ofNat 8 (s.errorRegister n)] ++ e.2) t
            ∧ (0 < s.odGet (s.netEntries n) Od.INHIBIT_TIME_EMCY 0 → (t.net n).emcy = es ∧ (t.net n).inhibited = true)))
    ∧ (∀ path, s.admits path 1 → Takes s (.preDefinedErrorFieldClear path) path (fun t =>
        (t.net (s.pathNet (pathCode path))).errors = [] ∧ Only [.od, .can] [] s t))

/-- R471, R462, Table 12.5: a download writes its value when it is complete, least significant byte first, and an upload answers it;
an initiate request aborts the transfer before it; a bad CRC, a wrong size, an abort and a time-out end a transfer without effect. -/
def Obligations.SdoServersTransfer : Prop :=
  ∀ (s : State) (n : Fin 2), s.sdoServed n = true →
    let p := 1 + n.val
    let answered (a : OdAnswer) (t : State) : Prop := t.answered (.sdo n) = some a
    let aborts (i : Instr) (r : OdRefusal) : Prop := Answers (exec i s) (fun t =>
      answered (.refused r) t ∧ (t.net n).sdo = none ∧ counted Od.CNT_SDO_ABORTS s t p ∧ Only [.od, .can] [Od.CNT_SDO_ABORTS] s t)
    let writes (level o x k : Nat) (data : Bytes) : Prop := ∃ row l, odFind x k = .ok row ∧ row.wr = some l ∧ l ≤ level
      ∧ odNumeric row.ty = true ∧ lengthBad x row.ty 0 data.reverse = false ∧ ¬ (row.ty = .bool ∧ 1 < leNat data)
      ∧ s.rangeOk x row.range (leNat data) = true ∧ s.stateRefuses o x k row = false ∧ plainEntry x = true
    let written (o x k : Nat) (data : Bytes) (t : State) : Prop :=
      t.odGet o x k = leNat data ∧ answered (.ok []) t ∧ (t.net n).sdo = none ∧ Only [.od, .can] [x, Od.OD_CONFIG_WRITES, Od.CONFIG_STORE_STATE] s t
    (∀ (x : BitVec 16) (k : Byte) block data, let o := s.windowInst p x.toNat
      let i (size : Option (BitVec 32)) := Instr.sdoDownloadInitiate n x k size block data
      (s.net n).sdo = none → matcherEntry x.toNat = false →
      (∀ r size, initRefusal false (s.pathLevel p) x.toNat k.toNat = some r → aborts (i size) r)
      ∧ (data ≠ [] → writes (s.pathLevel p) o x.toNat k.toNat data →
        Answers (exec (i none) s) (written o x.toNat k.toNat data)
        ∧ (∀ z : BitVec 32, z.toNat = data.length → Answers (exec (i (some z)) s) (written o x.toNat k.toNat data))
        ∧ (∀ z : BitVec 32, z.toNat ≠ data.length → aborts (i (some z)) .length))
      ∧ (data = [] → initRefusal false (s.pathLevel p) x.toNat k.toNat = none → ∀ size, Answers (exec (i size) s) (fun t =>
        (t.net n).sdo = some { upload := false, key := o, index := x.toNat, sub := k.toNat, level := s.pathLevel p
                               size := size.map (·.toNat), block := block, data := [] } ∧ OnlyGroups [.can] s t)))
    ∧ (∀ (x : BitVec 16) (k : Byte), (s.net n).sdo.isSome = true → matcherEntry x.toNat = false →
        initRefusal false (s.pathLevel p) x.toNat k.toNat = none → Answers (exec (.sdoDownloadInitiate n x k none false []) s) (fun t =>
          answered (.refused .tooLarge) t ∧ counted Od.CNT_SDO_ABORTS s t p ∧ ∃ d, (t.net n).sdo = some d ∧ d.index = x.toNat))
    ∧ (∀ (x : BitVec 16) (k : Byte) row l w, (s.net n).sdo = none → odFind x.toNat k.toNat = .ok row → row.rd = some l →
        l ≤ s.pathLevel p → odNumeric row.ty = true → odWidth row.ty = some w → w ≤ 8 → measuredEntry x.toNat = none →
        let data := (toBE w (s.odNum p (s.windowInst p x.toNat) x.toNat k.toNat)).reverse
        Answers (exec (.sdoUploadInitiate n x k) s) (fun t =>
          (w ≤ 4 → answered (.ok data) t ∧ (t.net n).sdo = none)
            ∧ (4 < w → ∃ d, (t.net n).sdo = some d ∧ d.upload = true ∧ d.data = data)))
    ∧ (∀ (x : BitVec 16) (k : Byte) r, (s.net n).sdo = none → initRefusal true (s.pathLevel p) x.toNat k.toNat = some r →
        aborts (.sdoUploadInitiate n x k) r)
    ∧ (∀ data last ok, (s.net n).sdo = none → Answers (exec (.sdoSegment n data last ok) s) (fun t =>
        answered (.refused .unknownCommand) t ∧ Only [.od] [] s t))
    ∧ (∀ d, (s.net n).sdo = some d →
        (∀ data ok, d.upload = true → Answers (exec (.sdoSegment n data true ok) s) (fun t =>
          answered (.ok d.data) t ∧ (t.net n).sdo = none ∧ Only [.od, .can] [] s t))
        ∧ (∀ data ok, d.upload = true → exec (.sdoSegment n data false ok) s = .next s)
        ∧ (∀ data ok, d.upload = false → Answers (exec (.sdoSegment n data false ok) s) (fun t =>
          (t.net n).sdo = some { d with data := d.data ++ data } ∧ OnlyGroups [.can] s t))
        ∧ (∀ data, d.upload = false → d.block = true → aborts (.sdoSegment n data true false) .blockCrc)
        ∧ (∀ data z, d.upload = false → matcherEntry d.index = false → d.size = some z → z ≠ (d.data ++ data).length →
          aborts (.sdoSegment n data true true) .length)
        ∧ (∀ data, d.upload = false → d.index < 65536 → d.sub < 256 → matcherEntry d.index = false →
          (∀ z, d.size = some z → z = (d.data ++ data).length) → writes d.level d.key d.index d.sub (d.data ++ data) →
          Answers (exec (.sdoSegment n data true true) s) (written d.key d.index d.sub (d.data ++ data)))
        ∧ Answers (exec (.sdoAbortReceived n) s) (fun t => (t.net n).sdo = none ∧ counted Od.CNT_SDO_ABORTS s t p
          ∧ Only [.od, .can] [Od.CNT_SDO_ABORTS] s t)
        ∧ aborts (.sdoTimeout n) .timeout)

/-- R472 to R475, Table 12.7: a TPDO leaves on SYNC, on a change or on its event timer, by its transmission type, with the values of
one sampling; an RPDO that is long enough is written entry by entry, at once or at the next SYNC, and a short one is told. -/
def Obligations.PdosCarryValues : Prop :=
  ∀ (s : State) (n : Fin 2),
    let e := s.netEntries n
    let kind (k : Nat) : Nat := s.odGet e (0x1800 + k) 2
    let leaves (k : Nat) (d : Bytes) (t : State) : Prop := .can n ⟨s.odGet e (0x1800 + k) 1 % 2048, d⟩ ∈ t.sent
    let sampled (k : Nat) (t : State) : Prop := ∃ u : State, OnlyGroups [.can, .sent] s u ∧ leaves k (u.tpdoData e k) t
    (s.canServed n = true → s.nmt n = 5 → (s.net e).rpdos = [] → Answers (exec (.sync n) s) (fun t =>
      t.draws = s.draws + 1 ∧ OnlyGroups [.can, .sent, .draws] s t
        ∧ ∀ k, k < 8 → s.tpdoOn n k = true →
          (kind k = 0 → SMap.get? (s.net e).lastSent k = none → sampled k t)
          ∧ (0 < kind k → kind k ≤ 240 → kind k ≤ SMap.getD (s.net e).syncs k 0 + 1 →
            sampled k t ∧ SMap.getD (t.net e).syncs k 0 = 0 ∧ SMap.get? (t.net e).sentAt k = some s.clock.ticks)
          ∧ (SMap.getD (s.net e).syncs k 0 + 1 < kind k → kind k ≤ 240 →
            SMap.getD (t.net e).syncs k 0 = SMap.getD (s.net e).syncs k 0 + 1)
          ∧ (240 < kind k → SMap.get? (t.net e).sentAt k = SMap.get? (s.net e).sentAt k)))
    ∧ (s.nmt n ≠ 5 → exec (.sync n) s = .next s)
    ∧ Answers (exec (.tpdoSample n) s) (fun t => t.draws = s.draws + 1 ∧ OnlyGroups [.can, .sent, .draws] s t
        ∧ (∀ k, k < 8 → s.tpdoOn n k = true → 240 < kind k → SMap.get? (s.net e).lastSent k = none → s.tpdoInhibited e k = false →
          sampled k t ∧ SMap.get? (t.net e).sentAt k = some s.clock.ticks)
        ∧ (∀ k, k < 8 → (s.tpdoOn n k = false ∨ kind k ≤ 240 ∨ s.tpdoInhibited e k = true) →
          SMap.get? (t.net e).sentAt k = SMap.get? (s.net e).sentAt k))
    ∧ (∀ (k : Fin 8), s.tpdoOn n k = true → 240 < kind k → s.odGet e (0x1800 + k) 5 ≠ 0 → Answers (exec (.tpdoEventTimer n k) s) (fun t =>
        leaves k (s.tpdoData e k) t ∧ SMap.get? (t.net e).lastSent k = some (s.tpdoData e k)
          ∧ OnlyGroups [.can, .sent, .draws] s t))
    ∧ (∀ (k : Fin 8), s.tpdoOn n k = false → exec (.tpdoEventTimer n k) s = .next s)
    ∧ (∀ (k : Fin 4) data, s.canServed n = true → s.nmt n = 5 → bitOf 31 (s.odGet e (0x1400 + k) 1) = false → s.rpdoHeld e k = false →
        let ws := s.mapping e (0x1600 + k)
        (8 * data.length < mapLength ws → Answers (exec (.rpdo n k data) s) (fun t =>
          Only [.can, .od, .sent] [Od.CNT_EMCY_LOST] s t ∧ (t.net e).rpdos = (s.net e).rpdos))
        ∧ (data.length = ceilDiv (mapLength ws) 8 →
          (s.odGet e (0x1400 + k) 2 ≤ 240 → Answers (exec (.rpdo n k data) s) (fun t =>
            SMap.get? (t.net e).rpdos k = some data ∧ OnlyGroups [.can] s t))
          ∧ (240 < s.odGet e (0x1400 + k) 2 → ∀ w, ws = [w] →
            let m := mapWord w
            let o := s.windowInst (1 + n) m.1
            let v := leNat data % 2 ^ m.2.2
            (∀ row l, m.1 < 65536 → odFind m.1 m.2.1 = .ok row → row.wr = some l → l ≤ s.pathLevel (1 + n) → odNumeric row.ty = true →
              odWidth row.ty = some (ceilDiv m.2.2 8) → m.1 ≠ Od.FW_IMAGE → ¬ (row.ty = .bool ∧ 1 < v) →
              s.rangeOk m.1 row.range v = true →
              s.stateRefuses o m.1 m.2.1 row = false → plainEntry m.1 = true → Answers (exec (.rpdo n k data) s) (fun t =>
                t.odGet o m.1 m.2.1 = v ∧ Only [.od] [m.1, Od.OD_CONFIG_WRITES, Od.CONFIG_STORE_STATE] s t))
            ∧ (∀ r, odFind m.1 m.2.1 = .error r → Answers (exec (.rpdo n k data) s) (fun t =>
              counted Od.CNT_RPDO_REFUSED s t (n + 1) ∧ Only [.od] [Od.CNT_RPDO_REFUSED] s t)))))

/-- R466, R480: LSS switches a node to its configuration state, globally or by its address; there it takes a node-ID and a bit rate,
which wait until they are stored or activated, and answers what it is asked; an unconfigured node is found by Fastscan. -/
def Obligations.LssConfiguresTheNode : Prop :=
  ∀ (s : State) (n : Fin 2),
    let tells (error value : Nat) (t : State) : Prop := t.sent = .lss n error value :: s.sent
    (s.lssServed n = true →
      (∀ b, Answers (exec (.lssSwitchState n b none) s) (fun t =>
        (t.net n).lss = (if b then .configuration else .waiting) ∧ OnlyGroups [.can] s t))
      ∧ (∀ b a, a.map (·.toNat) = [s.lssWord n 1, s.lssWord n 2, s.lssWord n 3, s.lssWord n 4] →
        Answers (exec (.lssSwitchState n b (some a)) s) (fun t =>
          (t.net n).lss = .configuration ∧ tells 0 0 t ∧ OnlyGroups [.can, .sent] s t))
      ∧ (∀ b a, a.map (·.toNat) ≠ [s.lssWord n 1, s.lssWord n 2, s.lssWord n 3, s.lssWord n 4] →
        exec (.lssSwitchState n b (some a)) s = .next s)
      ∧ ((s.net n).lss = .waiting → s.nodeOf n = 255 → ∀ id (sub next : Fin 4),
        Answers (exec (.lssFastscan n id 0x80 sub next) s) (fun t => (t.net n).fastscan = 0 ∧ tells 0 0 t ∧ OnlyGroups [.can, .sent] s t)
        ∧ (∀ (b : Byte), b.toNat ≤ 31 → sub.val = (s.net n).fastscan → s.lssWord n (sub + 1) / 2 ^ b.toNat = id.toNat / 2 ^ b.toNat →
          Answers (exec (.lssFastscan n id b sub next) s) (fun t => tells 0 0 t ∧ OnlyGroups [.can, .sent] s t
            ∧ (b ≠ 0 → t.net n = s.net n)
            ∧ (b = 0 → (t.net n).fastscan = next.val
              ∧ (t.net n).lss = (if next.val < sub.val then .configuration else .waiting))))
        ∧ (∀ (b : Byte), b ≠ 0x80 → s.lssWord n (sub + 1) / 2 ^ b.toNat ≠ id.toNat / 2 ^ b.toNat →
          exec (.lssFastscan n id b sub next) s = .next s)))
    ∧ (s.lssConfiguring n = true →
        (∀ (v : Byte), let good := (1 ≤ v.toNat ∧ v.toNat ≤ 127) ∨ v = 255
          (good → Answers (exec (.lssConfigureNodeId n v) s) (fun t =>
            (t.net n).pendNode = some v.toNat ∧ (t.net n).node = (s.net n).node ∧ tells 0 0 t ∧ OnlyGroups [.can, .sent] s t))
          ∧ (¬ good → Answers (exec (.lssConfigureNodeId n v) s) (fun t => tells 1 0 t ∧ OnlyGroups [.sent] s t)))
        ∧ (∀ (table index : Byte),
          (∀ r, table = 0 → lssRate? index.toNat = some r → Answers (exec (.lssConfigureBitTiming n table index) s) (fun t =>
            (t.net n).pendRate = some r ∧ (t.net n).rate = (s.net n).rate ∧ tells 0 0 t ∧ OnlyGroups [.can, .sent] s t))
          ∧ ((table ≠ 0 ∨ lssRate? index.toNat = none) → Answers (exec (.lssConfigureBitTiming n table index) s) (fun t =>
            tells 1 0 t ∧ OnlyGroups [.sent] s t)))
        ∧ (∀ ms r, (s.net n).pendRate = some r → Answers (exec (.lssActivateBitTiming n ms) s) (fun t =>
          (t.net n).rate = r ∧ (t.net n).pendRate = none ∧ OnlyGroups [.can] s t))
        ∧ Answers (exec (.lssStoreConfiguration n) s) (fun t =>
          t.odGet 0 Od.CAN_NODE_ID 1 = (s.net 0).pendNode.getD (s.net 0).node
            ∧ t.odGet 0 Od.CAN_BITRATE 1 = (s.net 0).pendRate.getD (s.net 0).rate ∧ tells 0 0 t
            ∧ Only [.od, .sent] [Od.CAN_NODE_ID, Od.CAN_BITRATE] s t)
        ∧ (∀ (k : Fin 4), Answers (exec (.lssInquire n ⟨k.val, by omega⟩) s) (fun t =>
          tells 0 (s.lssWord n (k + 1)) t ∧ OnlyGroups [.sent] s t))
        ∧ Answers (exec (.lssInquire n 4) s) (fun t =>
          tells 0 ((s.net n).pendNode.getD (s.net n).node) t ∧ OnlyGroups [.sent] s t))

/-! ## The Seam and the supervisor -/

/-- R20, R199, R488 to R503, R540, R571: orphan mode begins when the Seam is lost or no ATTACH has come, and ends with one; an ATTACH
from an earlier supervisor is refused, and that supervisor restarts (log 42); the partition and the registers hold what is written to
them, other accesses are served or refused and told; a submission fills a supervisor slot where its reservation fits; messages cross
the Seam in order; the supervisor restarts, and asks for a service reset. -/
def Obligations.SeamAttachesAndOrphans : Prop :=
  ∀ (s : State),
    let orphaned (t : State) : Prop :=
      t.seam.orphan = true ∧ t.seam.up = false ∧ t.seam.attachSent = true ∧ t.seamState = 3
        ∧ counted Od.SEAM_LOSSES s t ∧ Reports [] [Od.SEAM_LOSSES] s t
    let restarted (t : State) : Prop := counted Od.SUP_RESTARTS s t ∧ counted Od.SUPERVISOR_EPOCH s t ∧ t.seam.attachSent = true
      ∧ t.kv = s.kv ∧ t.seq = s.seq
    let resets (i : Instr) : Prop :=
      (s.seam.up = true → s.resetRefused = false → s.admin.pauseStage = 0 → Answers (exec i s) (fun t =>
        t.admin.pauseStage = 1 ∧ t.val Od.INTAKE_STATE = 1 ∧ t.val Od.SERVICE_RESET = 1 ∧ t.kv = s.kv))
      ∧ ((s.seam.up = false ∨ s.resetRefused = true) → exec i s = .next s)
    (s.live = true → s.seam.orphan = false → Answers (exec .seamLost s) orphaned
      ∧ (s.seam.attached = false → Answers (exec .attachStartTimeout s) orphaned)
      ∧ (s.seam.attached = true → exec .attachStartTimeout s = .next s))
    ∧ (s.seam.orphan = true → exec .seamLost s = .next s)
    ∧ (∀ (m : AttachMsg) ms, s.live = true → let o := s.attachOutcome m
        (m.supervisorEpoch.toNat < s.seam.attachedSe → Answers (exec (.attach m ms) s) (fun t =>
          t.val Od.LAST_ATTACH = 1 ∧ restarted t ∧ t.seam.attached = s.seam.attached ∧ t.seam.attachedSe = s.seam.attachedSe
            ∧ (∃ x ∈ t.sent, x = .attachAnswered 1 (s.val Od.ENGINE_EPOCH) s.seam.attachedSe s.seq.csnLast
                (s.val Od.HEALTH_STATE) (s.val Od.INTAKE_STATE))))
        ∧ (s.seam.attachedSe ≤ m.supervisorEpoch.toNat → Answers (exec (.attach m ms) s) (fun t =>
          t.val Od.LAST_ATTACH = o ∧ 2 ≤ o ∧ o ≤ 4 ∧ t.seam.attached = true ∧ t.seam.up = true ∧ t.seam.orphan = false
            ∧ t.seam.attachSent = false ∧ t.seam.attachedSe = m.supervisorEpoch.toNat ∧ t.seam.knownEe = s.val Od.ENGINE_EPOCH
            ∧ (s.seam.orphan = true → t.seam.queue = []
              ∧ t.val Od.ORPHAN_SECONDS = (s.val Od.ORPHAN_SECONDS + ms.toNat / 1000) % 2 ^ 32
              ∧ t.val Od.ORPHAN_LONGEST = max (s.val Od.ORPHAN_LONGEST) ms.toNat))))
    ∧ (s.canPowered = true → s.seam.attachSent = true → Answers (exec .attachRetry s) (fun t =>
        t.sent = .attachAsked :: s.sent ∧ OnlyGroups [.sent] s t))
    ∧ (s.live = true → s.seam.orphan = true → s.seam.orphanLong = false → Answers (exec .orphanReplace s) (fun t =>
        t.seam.orphanLong = true ∧ t.val Od.HEALTH_STATE = max 4 (s.val Od.HEALTH_STATE)
          ∧ Reports [.health] [Od.HEALTH_STATE, Od.HEALTH_REASON, Od.HEALTH_REASON_EVER, Od.HEALTH_WORST] s t))
    ∧ (∀ (a : SeamAccess), s.live = true → s.seam.up = true →
        let word := a.address.toNat / 8
        (accessRefused a = true → Answers (exec (.seamRegisterAccess a) s) (fun t => counted Od.SEAM_ACCESS_REFUSED s t
          ∧ (a.write = false → t.answered .supervisor = some (.ok (toBE 8 0))) ∧ t.seam.partition = s.seam.partition
          ∧ Reports [] [Od.SEAM_ACCESS_REFUSED] s t))
        ∧ (accessRefused a = false → a.partition = true → a.write = true → Answers (exec (.seamRegisterAccess a) s) (fun t =>
          SMap.getD t.seam.partition word 0 = a.value
            ∧ (∀ k, k ≠ word → SMap.getD t.seam.partition k 0 = SMap.getD s.seam.partition k 0)
            ∧ (s.partitionCanonical → t.partitionCanonical) ∧ OnlyGroups [.seam] s t))
        ∧ (accessRefused a = false → a.partition = true → a.write = false → Answers (exec (.seamRegisterAccess a) s) (fun t =>
          t.answered .supervisor = some (.ok (toBE 8 (SMap.getD s.seam.partition word 0).toNat)) ∧ Only [.od] [] s t))
        ∧ (accessRefused a = false → a.partition = false → a.write = false → Answers (exec (.seamRegisterAccess a) s) (fun t =>
          (a.keyMaterial = true → t.answered .supervisor = some (.ok (toBE 8 0)))
            ∧ (∀ v, a.keyMaterial = false → a.writable = true → SMap.get? s.seam.registers a.address.toNat = some v →
              t.answered .supervisor = some (.ok (toBE 8 v.toNat)))
            ∧ Only [.od, .draws] [] s t))
        ∧ (accessRefused a = false → a.partition = false → a.write = true → Answers (exec (.seamRegisterAccess a) s) (fun t =>
          t.seam = { s.seam with registers := SMap.put s.seam.registers a.address.toNat a.value } ∧ OnlyGroups [.seam] s t)))
    ∧ (∀ tag body, s.live = true → s.seam.up = true → s.power.firstOpen = true → s.admin.pauseStage = 0 →
        let r := bodyReservation body.length (fieldAt body 0 1)
        ((∃ k, 384 ≤ k ∧ k < 447 ∧ (s.slot k).state = .free) → r = 0 ∨ s.valueAreaUsed + r ≤ 83886080 → Answers (exec (.seamSlotSubmit tag body) s) (fun t =>
          ∃ n, 384 ≤ n ∧ n < 447 ∧ (s.slot n).state = .free ∧ (t.slot n).state = .filled ∧ assemble (t.slot n).frags = body
            ∧ (t.slot n).supTag = some tag ∧ (t.slot n).reserved = r ∧ (t.slot n).session = 0 ∧ (∀ m, m ≠ n → t.slot m = s.slot m)
            ∧ OnlyGroups [.seq, .draws, .events] s t))
        ∧ ((∃ k, 384 ≤ k ∧ k < 447 ∧ (s.slot k).state = .free) → r ≠ 0 → 83886080 < s.valueAreaUsed + r →
          Answers (exec (.seamSlotSubmit tag body) s) (fun t =>
            counted Od.CNT_POCKET_REFUSALS s t ∧ Only [.od] [Od.CNT_POCKET_REFUSALS] s t))
        ∧ ((∀ k, 384 ≤ k → k < 447 → (s.slot k).state ≠ .free) → exec (.seamSlotSubmit tag body) s = .next s))
    ∧ (s.live = true → s.seam.up = true → Answers (exec .seamEventMessage s) (fun t =>
        t.seam.queue = s.seam.queue.drop 1 ∧ Reports [] [] s t
          ∧ (∀ e es, s.seam.queue = e :: es → e.source ≠ Ev.REC_PENDING_OVF → bitOf 0 (s.odGet e.source Od.EVENT_ROUTE 0) = true →
            t.odGet e.source Od.EVENT_COUNT 0 = (s.odGet e.source Od.EVENT_COUNT 0 + 1) % 2 ^ 32
              ∧ t.odGet e.source Od.EVENT_LAST_DT 0 = e.dt)))
    ∧ (∀ lanes rate, s.live = true → (lanes || rate) = true → Answers (exec (.seamDegraded lanes rate) s) (fun t =>
        t.val Od.SEAM_WIDTH = (if lanes then 8 else 16) ∧ t.val Od.SEAM_RATE = (if rate then 8 else 16)
          ∧ Reports [] [Od.SEAM_WIDTH, Od.SEAM_RATE] s t))
    ∧ (s.canPowered = true → Answers (exec .supWatchdogExpiry s) restarted)
    ∧ (∀ (n : Fin 512), 384 ≤ n.val → n.val < 447 → (s.slot n).state ≠ .free → resets (.supSlotTimeout n))
    ∧ (s.live = true → resets .intakeHeartbeatStall)
    ∧ (∀ path, s.pathServed path = true → Answers (exec (.seamStateRead path) s) (fun t =>
        t.answered path = some (.ok (toBE 1 s.seamState)) ∧ t.seam = { s.seam with orphanUnread := false }
          ∧ Only [.od, .seam] [] s t))

/-! ## The whole module -/

/-- A step takes the command at the front of the queue and runs it on the state with the queue's rest; with none waiting, a tick of
CLK_TIME passes: device time goes on by 8 ns while it runs and no value or hold changes, but a bucket that a lost page took from the
directory is read again (R532; that a step on an empty queue is one tick is the model's choice, log 1). -/
def Obligations.StepRunsTheFrontCommand : Prop :=
  ∀ (s : State),
    (∀ c cs, s.pending = c :: cs → step s = exec c { s with pending := cs })
    ∧ (s.pending = [] → Answers (step s) (fun t => t.pending = [] ∧ t.kv.versions = s.kv.versions ∧ t.kv.holds = s.kv.holds
      ∧ (s.exhausted = [] → t.kv = { s.kv with rebuilding := s.kv.rebuilding.drop 1 })
      ∧ t.clock.ticks = s.clock.ticks + 1 ∧ t.clock.te = s.clock.te ∧ (s.clock.dt < 2 ^ 64 → s.clock.dt ≤ t.clock.dt)
      ∧ (s.clock.running = true → s.clock.slew = 0 → t.clock.dt = min (s.clock.dt + 8) (2 ^ 64 - 1))
      ∧ (s.clock.running = false → t.clock.dt = s.clock.dt)))

/-- R619: the one command that the module cannot survive is a supply beyond its absolute maximum; every other completes, from
every state, and no command reaches the queue of those that wait or what the module is made of. -/
def Obligations.OnlyTheAbsoluteMaximumStops : Prop :=
  ∀ (s : State) (c : Instr),
    (beyondMaximum c = true → exec c s = .fault .beyondAbsoluteMaximum)
    ∧ (beyondMaximum c = false → Answers (exec c s) (fun t => t.pending = s.pending ∧ t.hw = s.hw))

/-- R20, R74, R493: after reset no CSN is assigned and no block of CSNs is recorded, the partition is empty, no command waits,
no value is stored and no slot is in use; intake is closed, as the model has it before power (log 2). -/
def Obligations.ResetHoldsNothing : Prop :=
  State.reset.partitionCanonical ∧ State.reset.pending = [] ∧ State.reset.seq.csnLast = 0 ∧ State.reset.seq.slots = []
    ∧ State.reset.kv.versions = [] ∧ State.reset.wkp.sessions = [] ∧ State.reset.clock.te = 0 ∧ State.reset.live = false
    ∧ State.reset.val Od.INTAKE_STATE = 3

/-- R20, R74, R75, R76, R78, R79, R493: every step keeps the partition in its canonical form and the CSNs below the end of the
highest block recorded; CSN_LAST, TIME_EPOCH and the expiry clock never go back. -/
def Obligations.StepsNeverGoBack : Prop :=
  ∀ (s t : State), step s = .next t →
    let below (u : State) : Prop := u.seq.csnLast = 0 ∨ ∃ b, u.seq.blockHigh = some b ∧ u.seq.csnLast < (b + 1) * 2 ^ 20
    s.partitionCanonical → below s →
      t.partitionCanonical ∧ below t ∧ s.seq.csnLast ≤ t.seq.csnLast ∧ s.clock.te ≤ t.clock.te ∧ s.clock.expiry ≤ t.clock.expiry
end

