-- ==== Sys2Proof/Laws/State.lean ====
section
/-! SUPPORT. One lemma per field and update of the state: each named operation changes its own group and no other. -/

namespace Sys2Proof.Machine

@[simp] theorem State.odPut_hw (s : State) (i x j v : Nat) : (s.odPut i x j v).hw = s.hw := rfl
@[simp] theorem State.odPut_clock (s : State) (i x j v : Nat) : (s.odPut i x j v).clock = s.clock := rfl
@[simp] theorem State.odPut_seq (s : State) (i x j v : Nat) : (s.odPut i x j v).seq = s.seq := rfl
@[simp] theorem State.odPut_kv (s : State) (i x j v : Nat) : (s.odPut i x j v).kv = s.kv := rfl
@[simp] theorem State.odPut_pocket (s : State) (i x j v : Nat) : (s.odPut i x j v).pocket = s.pocket := rfl
@[simp] theorem State.odPut_wkp (s : State) (i x j v : Nat) : (s.odPut i x j v).wkp = s.wkp := rfl
@[simp] theorem State.odPut_ports (s : State) (i x j v : Nat) : (s.odPut i x j v).ports = s.ports := rfl
@[simp] theorem State.odPut_flash (s : State) (i x j v : Nat) : (s.odPut i x j v).flash = s.flash := rfl
@[simp] theorem State.odPut_matcher (s : State) (i x j v : Nat) : (s.odPut i x j v).matcher = s.matcher := rfl
@[simp] theorem State.odPut_seals (s : State) (i x j v : Nat) : (s.odPut i x j v).seals = s.seals := rfl
@[simp] theorem State.odPut_cipher (s : State) (i x j v : Nat) : (s.odPut i x j v).cipher = s.cipher := rfl
@[simp] theorem State.odPut_can (s : State) (i x j v : Nat) : (s.odPut i x j v).can = s.can := rfl
@[simp] theorem State.odPut_power (s : State) (i x j v : Nat) : (s.odPut i x j v).power = s.power := rfl
@[simp] theorem State.odPut_health (s : State) (i x j v : Nat) : (s.odPut i x j v).health = s.health := rfl
@[simp] theorem State.odPut_seam (s : State) (i x j v : Nat) : (s.odPut i x j v).seam = s.seam := rfl
@[simp] theorem State.odPut_events (s : State) (i x j v : Nat) : (s.odPut i x j v).events = s.events := rfl
@[simp] theorem State.odPut_fw (s : State) (i x j v : Nat) : (s.odPut i x j v).fw = s.fw := rfl
@[simp] theorem State.odPut_admin (s : State) (i x j v : Nat) : (s.odPut i x j v).admin = s.admin := rfl
@[simp] theorem State.odPut_pending (s : State) (i x j v : Nat) : (s.odPut i x j v).pending = s.pending := rfl
@[simp] theorem State.odPut_draws (s : State) (i x j v : Nat) : (s.odPut i x j v).draws = s.draws := rfl
@[simp] theorem State.odPut_sent (s : State) (i x j v : Nat) : (s.odPut i x j v).sent = s.sent := rfl

@[simp] theorem State.setVal_hw (s : State) (x v : Nat) : (s.setVal x v).hw = s.hw := rfl
@[simp] theorem State.setVal_clock (s : State) (x v : Nat) : (s.setVal x v).clock = s.clock := rfl
@[simp] theorem State.setVal_seq (s : State) (x v : Nat) : (s.setVal x v).seq = s.seq := rfl
@[simp] theorem State.setVal_kv (s : State) (x v : Nat) : (s.setVal x v).kv = s.kv := rfl
@[simp] theorem State.setVal_pocket (s : State) (x v : Nat) : (s.setVal x v).pocket = s.pocket := rfl
@[simp] theorem State.setVal_wkp (s : State) (x v : Nat) : (s.setVal x v).wkp = s.wkp := rfl
@[simp] theorem State.setVal_ports (s : State) (x v : Nat) : (s.setVal x v).ports = s.ports := rfl
@[simp] theorem State.setVal_flash (s : State) (x v : Nat) : (s.setVal x v).flash = s.flash := rfl
@[simp] theorem State.setVal_matcher (s : State) (x v : Nat) : (s.setVal x v).matcher = s.matcher := rfl
@[simp] theorem State.setVal_seals (s : State) (x v : Nat) : (s.setVal x v).seals = s.seals := rfl
@[simp] theorem State.setVal_cipher (s : State) (x v : Nat) : (s.setVal x v).cipher = s.cipher := rfl
@[simp] theorem State.setVal_can (s : State) (x v : Nat) : (s.setVal x v).can = s.can := rfl
@[simp] theorem State.setVal_power (s : State) (x v : Nat) : (s.setVal x v).power = s.power := rfl
@[simp] theorem State.setVal_health (s : State) (x v : Nat) : (s.setVal x v).health = s.health := rfl
@[simp] theorem State.setVal_seam (s : State) (x v : Nat) : (s.setVal x v).seam = s.seam := rfl
@[simp] theorem State.setVal_events (s : State) (x v : Nat) : (s.setVal x v).events = s.events := rfl
@[simp] theorem State.setVal_fw (s : State) (x v : Nat) : (s.setVal x v).fw = s.fw := rfl
@[simp] theorem State.setVal_admin (s : State) (x v : Nat) : (s.setVal x v).admin = s.admin := rfl
@[simp] theorem State.setVal_pending (s : State) (x v : Nat) : (s.setVal x v).pending = s.pending := rfl
@[simp] theorem State.setVal_draws (s : State) (x v : Nat) : (s.setVal x v).draws = s.draws := rfl
@[simp] theorem State.setVal_sent (s : State) (x v : Nat) : (s.setVal x v).sent = s.sent := rfl

@[simp] theorem State.bump_hw (s : State) (x n j w : Nat) : (s.bump x n j w).hw = s.hw := rfl
@[simp] theorem State.bump_clock (s : State) (x n j w : Nat) : (s.bump x n j w).clock = s.clock := rfl
@[simp] theorem State.bump_seq (s : State) (x n j w : Nat) : (s.bump x n j w).seq = s.seq := rfl
@[simp] theorem State.bump_kv (s : State) (x n j w : Nat) : (s.bump x n j w).kv = s.kv := rfl
@[simp] theorem State.bump_pocket (s : State) (x n j w : Nat) : (s.bump x n j w).pocket = s.pocket := rfl
@[simp] theorem State.bump_wkp (s : State) (x n j w : Nat) : (s.bump x n j w).wkp = s.wkp := rfl
@[simp] theorem State.bump_ports (s : State) (x n j w : Nat) : (s.bump x n j w).ports = s.ports := rfl
@[simp] theorem State.bump_flash (s : State) (x n j w : Nat) : (s.bump x n j w).flash = s.flash := rfl
@[simp] theorem State.bump_matcher (s : State) (x n j w : Nat) : (s.bump x n j w).matcher = s.matcher := rfl
@[simp] theorem State.bump_seals (s : State) (x n j w : Nat) : (s.bump x n j w).seals = s.seals := rfl
@[simp] theorem State.bump_cipher (s : State) (x n j w : Nat) : (s.bump x n j w).cipher = s.cipher := rfl
@[simp] theorem State.bump_can (s : State) (x n j w : Nat) : (s.bump x n j w).can = s.can := rfl
@[simp] theorem State.bump_power (s : State) (x n j w : Nat) : (s.bump x n j w).power = s.power := rfl
@[simp] theorem State.bump_health (s : State) (x n j w : Nat) : (s.bump x n j w).health = s.health := rfl
@[simp] theorem State.bump_seam (s : State) (x n j w : Nat) : (s.bump x n j w).seam = s.seam := rfl
@[simp] theorem State.bump_events (s : State) (x n j w : Nat) : (s.bump x n j w).events = s.events := rfl
@[simp] theorem State.bump_fw (s : State) (x n j w : Nat) : (s.bump x n j w).fw = s.fw := rfl
@[simp] theorem State.bump_admin (s : State) (x n j w : Nat) : (s.bump x n j w).admin = s.admin := rfl
@[simp] theorem State.bump_pending (s : State) (x n j w : Nat) : (s.bump x n j w).pending = s.pending := rfl
@[simp] theorem State.bump_draws (s : State) (x n j w : Nat) : (s.bump x n j w).draws = s.draws := rfl
@[simp] theorem State.bump_sent (s : State) (x n j w : Nat) : (s.bump x n j w).sent = s.sent := rfl

@[simp] theorem State.bumpSat_hw (s : State) (x n w : Nat) : (s.bumpSat x n w).hw = s.hw := rfl
@[simp] theorem State.bumpSat_clock (s : State) (x n w : Nat) : (s.bumpSat x n w).clock = s.clock := rfl
@[simp] theorem State.bumpSat_seq (s : State) (x n w : Nat) : (s.bumpSat x n w).seq = s.seq := rfl
@[simp] theorem State.bumpSat_kv (s : State) (x n w : Nat) : (s.bumpSat x n w).kv = s.kv := rfl
@[simp] theorem State.bumpSat_pocket (s : State) (x n w : Nat) : (s.bumpSat x n w).pocket = s.pocket := rfl
@[simp] theorem State.bumpSat_wkp (s : State) (x n w : Nat) : (s.bumpSat x n w).wkp = s.wkp := rfl
@[simp] theorem State.bumpSat_ports (s : State) (x n w : Nat) : (s.bumpSat x n w).ports = s.ports := rfl
@[simp] theorem State.bumpSat_flash (s : State) (x n w : Nat) : (s.bumpSat x n w).flash = s.flash := rfl
@[simp] theorem State.bumpSat_matcher (s : State) (x n w : Nat) : (s.bumpSat x n w).matcher = s.matcher := rfl
@[simp] theorem State.bumpSat_seals (s : State) (x n w : Nat) : (s.bumpSat x n w).seals = s.seals := rfl
@[simp] theorem State.bumpSat_cipher (s : State) (x n w : Nat) : (s.bumpSat x n w).cipher = s.cipher := rfl
@[simp] theorem State.bumpSat_can (s : State) (x n w : Nat) : (s.bumpSat x n w).can = s.can := rfl
@[simp] theorem State.bumpSat_power (s : State) (x n w : Nat) : (s.bumpSat x n w).power = s.power := rfl
@[simp] theorem State.bumpSat_health (s : State) (x n w : Nat) : (s.bumpSat x n w).health = s.health := rfl
@[simp] theorem State.bumpSat_seam (s : State) (x n w : Nat) : (s.bumpSat x n w).seam = s.seam := rfl
@[simp] theorem State.bumpSat_events (s : State) (x n w : Nat) : (s.bumpSat x n w).events = s.events := rfl
@[simp] theorem State.bumpSat_fw (s : State) (x n w : Nat) : (s.bumpSat x n w).fw = s.fw := rfl
@[simp] theorem State.bumpSat_admin (s : State) (x n w : Nat) : (s.bumpSat x n w).admin = s.admin := rfl
@[simp] theorem State.bumpSat_pending (s : State) (x n w : Nat) : (s.bumpSat x n w).pending = s.pending := rfl
@[simp] theorem State.bumpSat_draws (s : State) (x n w : Nat) : (s.bumpSat x n w).draws = s.draws := rfl
@[simp] theorem State.bumpSat_sent (s : State) (x n w : Nat) : (s.bumpSat x n w).sent = s.sent := rfl

@[simp] theorem State.raiseTo_hw (s : State) (x n : Nat) : (s.raiseTo x n).hw = s.hw := rfl
@[simp] theorem State.raiseTo_clock (s : State) (x n : Nat) : (s.raiseTo x n).clock = s.clock := rfl
@[simp] theorem State.raiseTo_seq (s : State) (x n : Nat) : (s.raiseTo x n).seq = s.seq := rfl
@[simp] theorem State.raiseTo_kv (s : State) (x n : Nat) : (s.raiseTo x n).kv = s.kv := rfl
@[simp] theorem State.raiseTo_pocket (s : State) (x n : Nat) : (s.raiseTo x n).pocket = s.pocket := rfl
@[simp] theorem State.raiseTo_wkp (s : State) (x n : Nat) : (s.raiseTo x n).wkp = s.wkp := rfl
@[simp] theorem State.raiseTo_ports (s : State) (x n : Nat) : (s.raiseTo x n).ports = s.ports := rfl
@[simp] theorem State.raiseTo_flash (s : State) (x n : Nat) : (s.raiseTo x n).flash = s.flash := rfl
@[simp] theorem State.raiseTo_matcher (s : State) (x n : Nat) : (s.raiseTo x n).matcher = s.matcher := rfl
@[simp] theorem State.raiseTo_seals (s : State) (x n : Nat) : (s.raiseTo x n).seals = s.seals := rfl
@[simp] theorem State.raiseTo_cipher (s : State) (x n : Nat) : (s.raiseTo x n).cipher = s.cipher := rfl
@[simp] theorem State.raiseTo_can (s : State) (x n : Nat) : (s.raiseTo x n).can = s.can := rfl
@[simp] theorem State.raiseTo_power (s : State) (x n : Nat) : (s.raiseTo x n).power = s.power := rfl
@[simp] theorem State.raiseTo_health (s : State) (x n : Nat) : (s.raiseTo x n).health = s.health := rfl
@[simp] theorem State.raiseTo_seam (s : State) (x n : Nat) : (s.raiseTo x n).seam = s.seam := rfl
@[simp] theorem State.raiseTo_events (s : State) (x n : Nat) : (s.raiseTo x n).events = s.events := rfl
@[simp] theorem State.raiseTo_fw (s : State) (x n : Nat) : (s.raiseTo x n).fw = s.fw := rfl
@[simp] theorem State.raiseTo_admin (s : State) (x n : Nat) : (s.raiseTo x n).admin = s.admin := rfl
@[simp] theorem State.raiseTo_pending (s : State) (x n : Nat) : (s.raiseTo x n).pending = s.pending := rfl
@[simp] theorem State.raiseTo_draws (s : State) (x n : Nat) : (s.raiseTo x n).draws = s.draws := rfl
@[simp] theorem State.raiseTo_sent (s : State) (x n : Nat) : (s.raiseTo x n).sent = s.sent := rfl

@[simp] theorem State.setBlob_hw (s : State) (i x j : Nat) (b : Bytes) : (s.setBlob i x j b).hw = s.hw := rfl
@[simp] theorem State.setBlob_clock (s : State) (i x j : Nat) (b : Bytes) : (s.setBlob i x j b).clock = s.clock := rfl
@[simp] theorem State.setBlob_seq (s : State) (i x j : Nat) (b : Bytes) : (s.setBlob i x j b).seq = s.seq := rfl
@[simp] theorem State.setBlob_kv (s : State) (i x j : Nat) (b : Bytes) : (s.setBlob i x j b).kv = s.kv := rfl
@[simp] theorem State.setBlob_pocket (s : State) (i x j : Nat) (b : Bytes) : (s.setBlob i x j b).pocket = s.pocket := rfl
@[simp] theorem State.setBlob_wkp (s : State) (i x j : Nat) (b : Bytes) : (s.setBlob i x j b).wkp = s.wkp := rfl
@[simp] theorem State.setBlob_ports (s : State) (i x j : Nat) (b : Bytes) : (s.setBlob i x j b).ports = s.ports := rfl
@[simp] theorem State.setBlob_flash (s : State) (i x j : Nat) (b : Bytes) : (s.setBlob i x j b).flash = s.flash := rfl
@[simp] theorem State.setBlob_matcher (s : State) (i x j : Nat) (b : Bytes) : (s.setBlob i x j b).matcher = s.matcher := rfl
@[simp] theorem State.setBlob_seals (s : State) (i x j : Nat) (b : Bytes) : (s.setBlob i x j b).seals = s.seals := rfl
@[simp] theorem State.setBlob_cipher (s : State) (i x j : Nat) (b : Bytes) : (s.setBlob i x j b).cipher = s.cipher := rfl
@[simp] theorem State.setBlob_can (s : State) (i x j : Nat) (b : Bytes) : (s.setBlob i x j b).can = s.can := rfl
@[simp] theorem State.setBlob_power (s : State) (i x j : Nat) (b : Bytes) : (s.setBlob i x j b).power = s.power := rfl
@[simp] theorem State.setBlob_health (s : State) (i x j : Nat) (b : Bytes) : (s.setBlob i x j b).health = s.health := rfl
@[simp] theorem State.setBlob_seam (s : State) (i x j : Nat) (b : Bytes) : (s.setBlob i x j b).seam = s.seam := rfl
@[simp] theorem State.setBlob_events (s : State) (i x j : Nat) (b : Bytes) : (s.setBlob i x j b).events = s.events := rfl
@[simp] theorem State.setBlob_fw (s : State) (i x j : Nat) (b : Bytes) : (s.setBlob i x j b).fw = s.fw := rfl
@[simp] theorem State.setBlob_admin (s : State) (i x j : Nat) (b : Bytes) : (s.setBlob i x j b).admin = s.admin := rfl
@[simp] theorem State.setBlob_pending (s : State) (i x j : Nat) (b : Bytes) : (s.setBlob i x j b).pending = s.pending := rfl
@[simp] theorem State.setBlob_draws (s : State) (i x j : Nat) (b : Bytes) : (s.setBlob i x j b).draws = s.draws := rfl
@[simp] theorem State.setBlob_sent (s : State) (i x j : Nat) (b : Bytes) : (s.setBlob i x j b).sent = s.sent := rfl

@[simp] theorem State.answer_hw (s : State) (p : Nat) (a : OdAnswer) : (s.answer p a).hw = s.hw := rfl
@[simp] theorem State.answer_clock (s : State) (p : Nat) (a : OdAnswer) : (s.answer p a).clock = s.clock := rfl
@[simp] theorem State.answer_seq (s : State) (p : Nat) (a : OdAnswer) : (s.answer p a).seq = s.seq := rfl
@[simp] theorem State.answer_kv (s : State) (p : Nat) (a : OdAnswer) : (s.answer p a).kv = s.kv := rfl
@[simp] theorem State.answer_pocket (s : State) (p : Nat) (a : OdAnswer) : (s.answer p a).pocket = s.pocket := rfl
@[simp] theorem State.answer_wkp (s : State) (p : Nat) (a : OdAnswer) : (s.answer p a).wkp = s.wkp := rfl
@[simp] theorem State.answer_ports (s : State) (p : Nat) (a : OdAnswer) : (s.answer p a).ports = s.ports := rfl
@[simp] theorem State.answer_flash (s : State) (p : Nat) (a : OdAnswer) : (s.answer p a).flash = s.flash := rfl
@[simp] theorem State.answer_matcher (s : State) (p : Nat) (a : OdAnswer) : (s.answer p a).matcher = s.matcher := rfl
@[simp] theorem State.answer_seals (s : State) (p : Nat) (a : OdAnswer) : (s.answer p a).seals = s.seals := rfl
@[simp] theorem State.answer_cipher (s : State) (p : Nat) (a : OdAnswer) : (s.answer p a).cipher = s.cipher := rfl
@[simp] theorem State.answer_can (s : State) (p : Nat) (a : OdAnswer) : (s.answer p a).can = s.can := rfl
@[simp] theorem State.answer_power (s : State) (p : Nat) (a : OdAnswer) : (s.answer p a).power = s.power := rfl
@[simp] theorem State.answer_health (s : State) (p : Nat) (a : OdAnswer) : (s.answer p a).health = s.health := rfl
@[simp] theorem State.answer_seam (s : State) (p : Nat) (a : OdAnswer) : (s.answer p a).seam = s.seam := rfl
@[simp] theorem State.answer_events (s : State) (p : Nat) (a : OdAnswer) : (s.answer p a).events = s.events := rfl
@[simp] theorem State.answer_fw (s : State) (p : Nat) (a : OdAnswer) : (s.answer p a).fw = s.fw := rfl
@[simp] theorem State.answer_admin (s : State) (p : Nat) (a : OdAnswer) : (s.answer p a).admin = s.admin := rfl
@[simp] theorem State.answer_pending (s : State) (p : Nat) (a : OdAnswer) : (s.answer p a).pending = s.pending := rfl
@[simp] theorem State.answer_draws (s : State) (p : Nat) (a : OdAnswer) : (s.answer p a).draws = s.draws := rfl
@[simp] theorem State.answer_sent (s : State) (p : Nat) (a : OdAnswer) : (s.answer p a).sent = s.sent := rfl

@[simp] theorem State.draw_hw (s : State) : (s.draw).hw = s.hw := rfl
@[simp] theorem State.draw_od (s : State) : (s.draw).od = s.od := rfl
@[simp] theorem State.draw_clock (s : State) : (s.draw).clock = s.clock := rfl
@[simp] theorem State.draw_seq (s : State) : (s.draw).seq = s.seq := rfl
@[simp] theorem State.draw_kv (s : State) : (s.draw).kv = s.kv := rfl
@[simp] theorem State.draw_pocket (s : State) : (s.draw).pocket = s.pocket := rfl
@[simp] theorem State.draw_wkp (s : State) : (s.draw).wkp = s.wkp := rfl
@[simp] theorem State.draw_ports (s : State) : (s.draw).ports = s.ports := rfl
@[simp] theorem State.draw_flash (s : State) : (s.draw).flash = s.flash := rfl
@[simp] theorem State.draw_matcher (s : State) : (s.draw).matcher = s.matcher := rfl
@[simp] theorem State.draw_seals (s : State) : (s.draw).seals = s.seals := rfl
@[simp] theorem State.draw_cipher (s : State) : (s.draw).cipher = s.cipher := rfl
@[simp] theorem State.draw_can (s : State) : (s.draw).can = s.can := rfl
@[simp] theorem State.draw_power (s : State) : (s.draw).power = s.power := rfl
@[simp] theorem State.draw_health (s : State) : (s.draw).health = s.health := rfl
@[simp] theorem State.draw_seam (s : State) : (s.draw).seam = s.seam := rfl
@[simp] theorem State.draw_events (s : State) : (s.draw).events = s.events := rfl
@[simp] theorem State.draw_fw (s : State) : (s.draw).fw = s.fw := rfl
@[simp] theorem State.draw_admin (s : State) : (s.draw).admin = s.admin := rfl
@[simp] theorem State.draw_pending (s : State) : (s.draw).pending = s.pending := rfl
@[simp] theorem State.draw_sent (s : State) : (s.draw).sent = s.sent := rfl

@[simp] theorem State.emit_hw (s : State) (x : Sent) : (s.emit x).hw = s.hw := rfl
@[simp] theorem State.emit_od (s : State) (x : Sent) : (s.emit x).od = s.od := rfl
@[simp] theorem State.emit_clock (s : State) (x : Sent) : (s.emit x).clock = s.clock := rfl
@[simp] theorem State.emit_seq (s : State) (x : Sent) : (s.emit x).seq = s.seq := rfl
@[simp] theorem State.emit_kv (s : State) (x : Sent) : (s.emit x).kv = s.kv := rfl
@[simp] theorem State.emit_pocket (s : State) (x : Sent) : (s.emit x).pocket = s.pocket := rfl
@[simp] theorem State.emit_wkp (s : State) (x : Sent) : (s.emit x).wkp = s.wkp := rfl
@[simp] theorem State.emit_ports (s : State) (x : Sent) : (s.emit x).ports = s.ports := rfl
@[simp] theorem State.emit_flash (s : State) (x : Sent) : (s.emit x).flash = s.flash := rfl
@[simp] theorem State.emit_matcher (s : State) (x : Sent) : (s.emit x).matcher = s.matcher := rfl
@[simp] theorem State.emit_seals (s : State) (x : Sent) : (s.emit x).seals = s.seals := rfl
@[simp] theorem State.emit_cipher (s : State) (x : Sent) : (s.emit x).cipher = s.cipher := rfl
@[simp] theorem State.emit_can (s : State) (x : Sent) : (s.emit x).can = s.can := rfl
@[simp] theorem State.emit_power (s : State) (x : Sent) : (s.emit x).power = s.power := rfl
@[simp] theorem State.emit_health (s : State) (x : Sent) : (s.emit x).health = s.health := rfl
@[simp] theorem State.emit_seam (s : State) (x : Sent) : (s.emit x).seam = s.seam := rfl
@[simp] theorem State.emit_events (s : State) (x : Sent) : (s.emit x).events = s.events := rfl
@[simp] theorem State.emit_fw (s : State) (x : Sent) : (s.emit x).fw = s.fw := rfl
@[simp] theorem State.emit_admin (s : State) (x : Sent) : (s.emit x).admin = s.admin := rfl
@[simp] theorem State.emit_pending (s : State) (x : Sent) : (s.emit x).pending = s.pending := rfl
@[simp] theorem State.emit_draws (s : State) (x : Sent) : (s.emit x).draws = s.draws := rfl

@[simp] theorem State.setSlot_hw (s : State) (n : Nat) (x : Slot) : (s.setSlot n x).hw = s.hw := rfl
@[simp] theorem State.setSlot_od (s : State) (n : Nat) (x : Slot) : (s.setSlot n x).od = s.od := rfl
@[simp] theorem State.setSlot_clock (s : State) (n : Nat) (x : Slot) : (s.setSlot n x).clock = s.clock := rfl
@[simp] theorem State.setSlot_kv (s : State) (n : Nat) (x : Slot) : (s.setSlot n x).kv = s.kv := rfl
@[simp] theorem State.setSlot_pocket (s : State) (n : Nat) (x : Slot) : (s.setSlot n x).pocket = s.pocket := rfl
@[simp] theorem State.setSlot_wkp (s : State) (n : Nat) (x : Slot) : (s.setSlot n x).wkp = s.wkp := rfl
@[simp] theorem State.setSlot_ports (s : State) (n : Nat) (x : Slot) : (s.setSlot n x).ports = s.ports := rfl
@[simp] theorem State.setSlot_flash (s : State) (n : Nat) (x : Slot) : (s.setSlot n x).flash = s.flash := rfl
@[simp] theorem State.setSlot_matcher (s : State) (n : Nat) (x : Slot) : (s.setSlot n x).matcher = s.matcher := rfl
@[simp] theorem State.setSlot_seals (s : State) (n : Nat) (x : Slot) : (s.setSlot n x).seals = s.seals := rfl
@[simp] theorem State.setSlot_cipher (s : State) (n : Nat) (x : Slot) : (s.setSlot n x).cipher = s.cipher := rfl
@[simp] theorem State.setSlot_can (s : State) (n : Nat) (x : Slot) : (s.setSlot n x).can = s.can := rfl
@[simp] theorem State.setSlot_power (s : State) (n : Nat) (x : Slot) : (s.setSlot n x).power = s.power := rfl
@[simp] theorem State.setSlot_health (s : State) (n : Nat) (x : Slot) : (s.setSlot n x).health = s.health := rfl
@[simp] theorem State.setSlot_seam (s : State) (n : Nat) (x : Slot) : (s.setSlot n x).seam = s.seam := rfl
@[simp] theorem State.setSlot_events (s : State) (n : Nat) (x : Slot) : (s.setSlot n x).events = s.events := rfl
@[simp] theorem State.setSlot_fw (s : State) (n : Nat) (x : Slot) : (s.setSlot n x).fw = s.fw := rfl
@[simp] theorem State.setSlot_admin (s : State) (n : Nat) (x : Slot) : (s.setSlot n x).admin = s.admin := rfl
@[simp] theorem State.setSlot_pending (s : State) (n : Nat) (x : Slot) : (s.setSlot n x).pending = s.pending := rfl
@[simp] theorem State.setSlot_draws (s : State) (n : Nat) (x : Slot) : (s.setSlot n x).draws = s.draws := rfl
@[simp] theorem State.setSlot_sent (s : State) (n : Nat) (x : Slot) : (s.setSlot n x).sent = s.sent := rfl

@[simp] theorem State.freeSlot_hw (s : State) (n : Nat) : (s.freeSlot n).hw = s.hw := rfl
@[simp] theorem State.freeSlot_od (s : State) (n : Nat) : (s.freeSlot n).od = s.od := rfl
@[simp] theorem State.freeSlot_clock (s : State) (n : Nat) : (s.freeSlot n).clock = s.clock := rfl
@[simp] theorem State.freeSlot_kv (s : State) (n : Nat) : (s.freeSlot n).kv = s.kv := rfl
@[simp] theorem State.freeSlot_pocket (s : State) (n : Nat) : (s.freeSlot n).pocket = s.pocket := rfl
@[simp] theorem State.freeSlot_wkp (s : State) (n : Nat) : (s.freeSlot n).wkp = s.wkp := rfl
@[simp] theorem State.freeSlot_ports (s : State) (n : Nat) : (s.freeSlot n).ports = s.ports := rfl
@[simp] theorem State.freeSlot_flash (s : State) (n : Nat) : (s.freeSlot n).flash = s.flash := rfl
@[simp] theorem State.freeSlot_matcher (s : State) (n : Nat) : (s.freeSlot n).matcher = s.matcher := rfl
@[simp] theorem State.freeSlot_seals (s : State) (n : Nat) : (s.freeSlot n).seals = s.seals := rfl
@[simp] theorem State.freeSlot_cipher (s : State) (n : Nat) : (s.freeSlot n).cipher = s.cipher := rfl
@[simp] theorem State.freeSlot_can (s : State) (n : Nat) : (s.freeSlot n).can = s.can := rfl
@[simp] theorem State.freeSlot_power (s : State) (n : Nat) : (s.freeSlot n).power = s.power := rfl
@[simp] theorem State.freeSlot_health (s : State) (n : Nat) : (s.freeSlot n).health = s.health := rfl
@[simp] theorem State.freeSlot_seam (s : State) (n : Nat) : (s.freeSlot n).seam = s.seam := rfl
@[simp] theorem State.freeSlot_events (s : State) (n : Nat) : (s.freeSlot n).events = s.events := rfl
@[simp] theorem State.freeSlot_fw (s : State) (n : Nat) : (s.freeSlot n).fw = s.fw := rfl
@[simp] theorem State.freeSlot_admin (s : State) (n : Nat) : (s.freeSlot n).admin = s.admin := rfl
@[simp] theorem State.freeSlot_pending (s : State) (n : Nat) : (s.freeSlot n).pending = s.pending := rfl
@[simp] theorem State.freeSlot_draws (s : State) (n : Nat) : (s.freeSlot n).draws = s.draws := rfl
@[simp] theorem State.freeSlot_sent (s : State) (n : Nat) : (s.freeSlot n).sent = s.sent := rfl

@[simp] theorem State.setEngine_hw (s : State) (e : Nat) (x : OpEngine) : (s.setEngine e x).hw = s.hw := rfl
@[simp] theorem State.setEngine_od (s : State) (e : Nat) (x : OpEngine) : (s.setEngine e x).od = s.od := rfl
@[simp] theorem State.setEngine_clock (s : State) (e : Nat) (x : OpEngine) : (s.setEngine e x).clock = s.clock := rfl
@[simp] theorem State.setEngine_kv (s : State) (e : Nat) (x : OpEngine) : (s.setEngine e x).kv = s.kv := rfl
@[simp] theorem State.setEngine_pocket (s : State) (e : Nat) (x : OpEngine) : (s.setEngine e x).pocket = s.pocket := rfl
@[simp] theorem State.setEngine_wkp (s : State) (e : Nat) (x : OpEngine) : (s.setEngine e x).wkp = s.wkp := rfl
@[simp] theorem State.setEngine_ports (s : State) (e : Nat) (x : OpEngine) : (s.setEngine e x).ports = s.ports := rfl
@[simp] theorem State.setEngine_flash (s : State) (e : Nat) (x : OpEngine) : (s.setEngine e x).flash = s.flash := rfl
@[simp] theorem State.setEngine_matcher (s : State) (e : Nat) (x : OpEngine) : (s.setEngine e x).matcher = s.matcher := rfl
@[simp] theorem State.setEngine_seals (s : State) (e : Nat) (x : OpEngine) : (s.setEngine e x).seals = s.seals := rfl
@[simp] theorem State.setEngine_cipher (s : State) (e : Nat) (x : OpEngine) : (s.setEngine e x).cipher = s.cipher := rfl
@[simp] theorem State.setEngine_can (s : State) (e : Nat) (x : OpEngine) : (s.setEngine e x).can = s.can := rfl
@[simp] theorem State.setEngine_power (s : State) (e : Nat) (x : OpEngine) : (s.setEngine e x).power = s.power := rfl
@[simp] theorem State.setEngine_health (s : State) (e : Nat) (x : OpEngine) : (s.setEngine e x).health = s.health := rfl
@[simp] theorem State.setEngine_seam (s : State) (e : Nat) (x : OpEngine) : (s.setEngine e x).seam = s.seam := rfl
@[simp] theorem State.setEngine_events (s : State) (e : Nat) (x : OpEngine) : (s.setEngine e x).events = s.events := rfl
@[simp] theorem State.setEngine_fw (s : State) (e : Nat) (x : OpEngine) : (s.setEngine e x).fw = s.fw := rfl
@[simp] theorem State.setEngine_admin (s : State) (e : Nat) (x : OpEngine) : (s.setEngine e x).admin = s.admin := rfl
@[simp] theorem State.setEngine_pending (s : State) (e : Nat) (x : OpEngine) : (s.setEngine e x).pending = s.pending := rfl
@[simp] theorem State.setEngine_draws (s : State) (e : Nat) (x : OpEngine) : (s.setEngine e x).draws = s.draws := rfl
@[simp] theorem State.setEngine_sent (s : State) (e : Nat) (x : OpEngine) : (s.setEngine e x).sent = s.sent := rfl

@[simp] theorem State.setSession_hw (s : State) (c : Nat) (x : Session) : (s.setSession c x).hw = s.hw := rfl
@[simp] theorem State.setSession_od (s : State) (c : Nat) (x : Session) : (s.setSession c x).od = s.od := rfl
@[simp] theorem State.setSession_clock (s : State) (c : Nat) (x : Session) : (s.setSession c x).clock = s.clock := rfl
@[simp] theorem State.setSession_seq (s : State) (c : Nat) (x : Session) : (s.setSession c x).seq = s.seq := rfl
@[simp] theorem State.setSession_kv (s : State) (c : Nat) (x : Session) : (s.setSession c x).kv = s.kv := rfl
@[simp] theorem State.setSession_pocket (s : State) (c : Nat) (x : Session) : (s.setSession c x).pocket = s.pocket := rfl
@[simp] theorem State.setSession_ports (s : State) (c : Nat) (x : Session) : (s.setSession c x).ports = s.ports := rfl
@[simp] theorem State.setSession_flash (s : State) (c : Nat) (x : Session) : (s.setSession c x).flash = s.flash := rfl
@[simp] theorem State.setSession_matcher (s : State) (c : Nat) (x : Session) : (s.setSession c x).matcher = s.matcher := rfl
@[simp] theorem State.setSession_seals (s : State) (c : Nat) (x : Session) : (s.setSession c x).seals = s.seals := rfl
@[simp] theorem State.setSession_cipher (s : State) (c : Nat) (x : Session) : (s.setSession c x).cipher = s.cipher := rfl
@[simp] theorem State.setSession_can (s : State) (c : Nat) (x : Session) : (s.setSession c x).can = s.can := rfl
@[simp] theorem State.setSession_power (s : State) (c : Nat) (x : Session) : (s.setSession c x).power = s.power := rfl
@[simp] theorem State.setSession_health (s : State) (c : Nat) (x : Session) : (s.setSession c x).health = s.health := rfl
@[simp] theorem State.setSession_seam (s : State) (c : Nat) (x : Session) : (s.setSession c x).seam = s.seam := rfl
@[simp] theorem State.setSession_events (s : State) (c : Nat) (x : Session) : (s.setSession c x).events = s.events := rfl
@[simp] theorem State.setSession_fw (s : State) (c : Nat) (x : Session) : (s.setSession c x).fw = s.fw := rfl
@[simp] theorem State.setSession_admin (s : State) (c : Nat) (x : Session) : (s.setSession c x).admin = s.admin := rfl
@[simp] theorem State.setSession_pending (s : State) (c : Nat) (x : Session) : (s.setSession c x).pending = s.pending := rfl
@[simp] theorem State.setSession_draws (s : State) (c : Nat) (x : Session) : (s.setSession c x).draws = s.draws := rfl
@[simp] theorem State.setSession_sent (s : State) (c : Nat) (x : Session) : (s.setSession c x).sent = s.sent := rfl

@[simp] theorem State.setPort_hw (s : State) (p : Nat) (x : Port) : (s.setPort p x).hw = s.hw := rfl
@[simp] theorem State.setPort_od (s : State) (p : Nat) (x : Port) : (s.setPort p x).od = s.od := rfl
@[simp] theorem State.setPort_clock (s : State) (p : Nat) (x : Port) : (s.setPort p x).clock = s.clock := rfl
@[simp] theorem State.setPort_seq (s : State) (p : Nat) (x : Port) : (s.setPort p x).seq = s.seq := rfl
@[simp] theorem State.setPort_kv (s : State) (p : Nat) (x : Port) : (s.setPort p x).kv = s.kv := rfl
@[simp] theorem State.setPort_pocket (s : State) (p : Nat) (x : Port) : (s.setPort p x).pocket = s.pocket := rfl
@[simp] theorem State.setPort_wkp (s : State) (p : Nat) (x : Port) : (s.setPort p x).wkp = s.wkp := rfl
@[simp] theorem State.setPort_flash (s : State) (p : Nat) (x : Port) : (s.setPort p x).flash = s.flash := rfl
@[simp] theorem State.setPort_matcher (s : State) (p : Nat) (x : Port) : (s.setPort p x).matcher = s.matcher := rfl
@[simp] theorem State.setPort_seals (s : State) (p : Nat) (x : Port) : (s.setPort p x).seals = s.seals := rfl
@[simp] theorem State.setPort_cipher (s : State) (p : Nat) (x : Port) : (s.setPort p x).cipher = s.cipher := rfl
@[simp] theorem State.setPort_can (s : State) (p : Nat) (x : Port) : (s.setPort p x).can = s.can := rfl
@[simp] theorem State.setPort_power (s : State) (p : Nat) (x : Port) : (s.setPort p x).power = s.power := rfl
@[simp] theorem State.setPort_health (s : State) (p : Nat) (x : Port) : (s.setPort p x).health = s.health := rfl
@[simp] theorem State.setPort_seam (s : State) (p : Nat) (x : Port) : (s.setPort p x).seam = s.seam := rfl
@[simp] theorem State.setPort_events (s : State) (p : Nat) (x : Port) : (s.setPort p x).events = s.events := rfl
@[simp] theorem State.setPort_fw (s : State) (p : Nat) (x : Port) : (s.setPort p x).fw = s.fw := rfl
@[simp] theorem State.setPort_admin (s : State) (p : Nat) (x : Port) : (s.setPort p x).admin = s.admin := rfl
@[simp] theorem State.setPort_pending (s : State) (p : Nat) (x : Port) : (s.setPort p x).pending = s.pending := rfl
@[simp] theorem State.setPort_draws (s : State) (p : Nat) (x : Port) : (s.setPort p x).draws = s.draws := rfl
@[simp] theorem State.setPort_sent (s : State) (p : Nat) (x : Port) : (s.setPort p x).sent = s.sent := rfl

@[simp] theorem State.setNet_hw (s : State) (n : Nat) (x : CanNet) : (s.setNet n x).hw = s.hw := rfl
@[simp] theorem State.setNet_od (s : State) (n : Nat) (x : CanNet) : (s.setNet n x).od = s.od := rfl
@[simp] theorem State.setNet_clock (s : State) (n : Nat) (x : CanNet) : (s.setNet n x).clock = s.clock := rfl
@[simp] theorem State.setNet_seq (s : State) (n : Nat) (x : CanNet) : (s.setNet n x).seq = s.seq := rfl
@[simp] theorem State.setNet_kv (s : State) (n : Nat) (x : CanNet) : (s.setNet n x).kv = s.kv := rfl
@[simp] theorem State.setNet_pocket (s : State) (n : Nat) (x : CanNet) : (s.setNet n x).pocket = s.pocket := rfl
@[simp] theorem State.setNet_wkp (s : State) (n : Nat) (x : CanNet) : (s.setNet n x).wkp = s.wkp := rfl
@[simp] theorem State.setNet_ports (s : State) (n : Nat) (x : CanNet) : (s.setNet n x).ports = s.ports := rfl
@[simp] theorem State.setNet_flash (s : State) (n : Nat) (x : CanNet) : (s.setNet n x).flash = s.flash := rfl
@[simp] theorem State.setNet_matcher (s : State) (n : Nat) (x : CanNet) : (s.setNet n x).matcher = s.matcher := rfl
@[simp] theorem State.setNet_seals (s : State) (n : Nat) (x : CanNet) : (s.setNet n x).seals = s.seals := rfl
@[simp] theorem State.setNet_cipher (s : State) (n : Nat) (x : CanNet) : (s.setNet n x).cipher = s.cipher := rfl
@[simp] theorem State.setNet_power (s : State) (n : Nat) (x : CanNet) : (s.setNet n x).power = s.power := rfl
@[simp] theorem State.setNet_health (s : State) (n : Nat) (x : CanNet) : (s.setNet n x).health = s.health := rfl
@[simp] theorem State.setNet_seam (s : State) (n : Nat) (x : CanNet) : (s.setNet n x).seam = s.seam := rfl
@[simp] theorem State.setNet_events (s : State) (n : Nat) (x : CanNet) : (s.setNet n x).events = s.events := rfl
@[simp] theorem State.setNet_fw (s : State) (n : Nat) (x : CanNet) : (s.setNet n x).fw = s.fw := rfl
@[simp] theorem State.setNet_admin (s : State) (n : Nat) (x : CanNet) : (s.setNet n x).admin = s.admin := rfl
@[simp] theorem State.setNet_pending (s : State) (n : Nat) (x : CanNet) : (s.setNet n x).pending = s.pending := rfl
@[simp] theorem State.setNet_draws (s : State) (n : Nat) (x : CanNet) : (s.setNet n x).draws = s.draws := rfl
@[simp] theorem State.setNet_sent (s : State) (n : Nat) (x : CanNet) : (s.setNet n x).sent = s.sent := rfl

@[simp] theorem State.setStripe_hw (s : State) (i : Nat) (x : Stripe) : (s.setStripe i x).hw = s.hw := rfl
@[simp] theorem State.setStripe_od (s : State) (i : Nat) (x : Stripe) : (s.setStripe i x).od = s.od := rfl
@[simp] theorem State.setStripe_clock (s : State) (i : Nat) (x : Stripe) : (s.setStripe i x).clock = s.clock := rfl
@[simp] theorem State.setStripe_seq (s : State) (i : Nat) (x : Stripe) : (s.setStripe i x).seq = s.seq := rfl
@[simp] theorem State.setStripe_kv (s : State) (i : Nat) (x : Stripe) : (s.setStripe i x).kv = s.kv := rfl
@[simp] theorem State.setStripe_pocket (s : State) (i : Nat) (x : Stripe) : (s.setStripe i x).pocket = s.pocket := rfl
@[simp] theorem State.setStripe_wkp (s : State) (i : Nat) (x : Stripe) : (s.setStripe i x).wkp = s.wkp := rfl
@[simp] theorem State.setStripe_ports (s : State) (i : Nat) (x : Stripe) : (s.setStripe i x).ports = s.ports := rfl
@[simp] theorem State.setStripe_matcher (s : State) (i : Nat) (x : Stripe) : (s.setStripe i x).matcher = s.matcher := rfl
@[simp] theorem State.setStripe_seals (s : State) (i : Nat) (x : Stripe) : (s.setStripe i x).seals = s.seals := rfl
@[simp] theorem State.setStripe_cipher (s : State) (i : Nat) (x : Stripe) : (s.setStripe i x).cipher = s.cipher := rfl
@[simp] theorem State.setStripe_can (s : State) (i : Nat) (x : Stripe) : (s.setStripe i x).can = s.can := rfl
@[simp] theorem State.setStripe_power (s : State) (i : Nat) (x : Stripe) : (s.setStripe i x).power = s.power := rfl
@[simp] theorem State.setStripe_health (s : State) (i : Nat) (x : Stripe) : (s.setStripe i x).health = s.health := rfl
@[simp] theorem State.setStripe_seam (s : State) (i : Nat) (x : Stripe) : (s.setStripe i x).seam = s.seam := rfl
@[simp] theorem State.setStripe_events (s : State) (i : Nat) (x : Stripe) : (s.setStripe i x).events = s.events := rfl
@[simp] theorem State.setStripe_fw (s : State) (i : Nat) (x : Stripe) : (s.setStripe i x).fw = s.fw := rfl
@[simp] theorem State.setStripe_admin (s : State) (i : Nat) (x : Stripe) : (s.setStripe i x).admin = s.admin := rfl
@[simp] theorem State.setStripe_pending (s : State) (i : Nat) (x : Stripe) : (s.setStripe i x).pending = s.pending := rfl
@[simp] theorem State.setStripe_draws (s : State) (i : Nat) (x : Stripe) : (s.setStripe i x).draws = s.draws := rfl
@[simp] theorem State.setStripe_sent (s : State) (i : Nat) (x : Stripe) : (s.setStripe i x).sent = s.sent := rfl

@[simp] theorem State.setBin_hw (s : State) (b : Nat) (x : Bin) : (s.setBin b x).hw = s.hw := rfl
@[simp] theorem State.setBin_od (s : State) (b : Nat) (x : Bin) : (s.setBin b x).od = s.od := rfl
@[simp] theorem State.setBin_clock (s : State) (b : Nat) (x : Bin) : (s.setBin b x).clock = s.clock := rfl
@[simp] theorem State.setBin_seq (s : State) (b : Nat) (x : Bin) : (s.setBin b x).seq = s.seq := rfl
@[simp] theorem State.setBin_kv (s : State) (b : Nat) (x : Bin) : (s.setBin b x).kv = s.kv := rfl
@[simp] theorem State.setBin_pocket (s : State) (b : Nat) (x : Bin) : (s.setBin b x).pocket = s.pocket := rfl
@[simp] theorem State.setBin_wkp (s : State) (b : Nat) (x : Bin) : (s.setBin b x).wkp = s.wkp := rfl
@[simp] theorem State.setBin_ports (s : State) (b : Nat) (x : Bin) : (s.setBin b x).ports = s.ports := rfl
@[simp] theorem State.setBin_matcher (s : State) (b : Nat) (x : Bin) : (s.setBin b x).matcher = s.matcher := rfl
@[simp] theorem State.setBin_seals (s : State) (b : Nat) (x : Bin) : (s.setBin b x).seals = s.seals := rfl
@[simp] theorem State.setBin_cipher (s : State) (b : Nat) (x : Bin) : (s.setBin b x).cipher = s.cipher := rfl
@[simp] theorem State.setBin_can (s : State) (b : Nat) (x : Bin) : (s.setBin b x).can = s.can := rfl
@[simp] theorem State.setBin_power (s : State) (b : Nat) (x : Bin) : (s.setBin b x).power = s.power := rfl
@[simp] theorem State.setBin_health (s : State) (b : Nat) (x : Bin) : (s.setBin b x).health = s.health := rfl
@[simp] theorem State.setBin_seam (s : State) (b : Nat) (x : Bin) : (s.setBin b x).seam = s.seam := rfl
@[simp] theorem State.setBin_events (s : State) (b : Nat) (x : Bin) : (s.setBin b x).events = s.events := rfl
@[simp] theorem State.setBin_fw (s : State) (b : Nat) (x : Bin) : (s.setBin b x).fw = s.fw := rfl
@[simp] theorem State.setBin_admin (s : State) (b : Nat) (x : Bin) : (s.setBin b x).admin = s.admin := rfl
@[simp] theorem State.setBin_pending (s : State) (b : Nat) (x : Bin) : (s.setBin b x).pending = s.pending := rfl
@[simp] theorem State.setBin_draws (s : State) (b : Nat) (x : Bin) : (s.setBin b x).draws = s.draws := rfl
@[simp] theorem State.setBin_sent (s : State) (b : Nat) (x : Bin) : (s.setBin b x).sent = s.sent := rfl

@[simp] theorem State.setChain_hw (s : State) (n : Nat) (x : Chain) : (s.setChain n x).hw = s.hw := rfl
@[simp] theorem State.setChain_od (s : State) (n : Nat) (x : Chain) : (s.setChain n x).od = s.od := rfl
@[simp] theorem State.setChain_clock (s : State) (n : Nat) (x : Chain) : (s.setChain n x).clock = s.clock := rfl
@[simp] theorem State.setChain_seq (s : State) (n : Nat) (x : Chain) : (s.setChain n x).seq = s.seq := rfl
@[simp] theorem State.setChain_kv (s : State) (n : Nat) (x : Chain) : (s.setChain n x).kv = s.kv := rfl
@[simp] theorem State.setChain_pocket (s : State) (n : Nat) (x : Chain) : (s.setChain n x).pocket = s.pocket := rfl
@[simp] theorem State.setChain_wkp (s : State) (n : Nat) (x : Chain) : (s.setChain n x).wkp = s.wkp := rfl
@[simp] theorem State.setChain_ports (s : State) (n : Nat) (x : Chain) : (s.setChain n x).ports = s.ports := rfl
@[simp] theorem State.setChain_flash (s : State) (n : Nat) (x : Chain) : (s.setChain n x).flash = s.flash := rfl
@[simp] theorem State.setChain_matcher (s : State) (n : Nat) (x : Chain) : (s.setChain n x).matcher = s.matcher := rfl
@[simp] theorem State.setChain_cipher (s : State) (n : Nat) (x : Chain) : (s.setChain n x).cipher = s.cipher := rfl
@[simp] theorem State.setChain_can (s : State) (n : Nat) (x : Chain) : (s.setChain n x).can = s.can := rfl
@[simp] theorem State.setChain_power (s : State) (n : Nat) (x : Chain) : (s.setChain n x).power = s.power := rfl
@[simp] theorem State.setChain_health (s : State) (n : Nat) (x : Chain) : (s.setChain n x).health = s.health := rfl
@[simp] theorem State.setChain_seam (s : State) (n : Nat) (x : Chain) : (s.setChain n x).seam = s.seam := rfl
@[simp] theorem State.setChain_events (s : State) (n : Nat) (x : Chain) : (s.setChain n x).events = s.events := rfl
@[simp] theorem State.setChain_fw (s : State) (n : Nat) (x : Chain) : (s.setChain n x).fw = s.fw := rfl
@[simp] theorem State.setChain_admin (s : State) (n : Nat) (x : Chain) : (s.setChain n x).admin = s.admin := rfl
@[simp] theorem State.setChain_pending (s : State) (n : Nat) (x : Chain) : (s.setChain n x).pending = s.pending := rfl
@[simp] theorem State.setChain_draws (s : State) (n : Nat) (x : Chain) : (s.setChain n x).draws = s.draws := rfl
@[simp] theorem State.setChain_sent (s : State) (n : Nat) (x : Chain) : (s.setChain n x).sent = s.sent := rfl

@[simp] theorem State.perf_hw (s : State) (e n : Nat) : (s.perf e n).hw = s.hw := rfl
@[simp] theorem State.perf_od (s : State) (e n : Nat) : (s.perf e n).od = s.od := rfl
@[simp] theorem State.perf_clock (s : State) (e n : Nat) : (s.perf e n).clock = s.clock := rfl
@[simp] theorem State.perf_seq (s : State) (e n : Nat) : (s.perf e n).seq = s.seq := rfl
@[simp] theorem State.perf_kv (s : State) (e n : Nat) : (s.perf e n).kv = s.kv := rfl
@[simp] theorem State.perf_pocket (s : State) (e n : Nat) : (s.perf e n).pocket = s.pocket := rfl
@[simp] theorem State.perf_wkp (s : State) (e n : Nat) : (s.perf e n).wkp = s.wkp := rfl
@[simp] theorem State.perf_ports (s : State) (e n : Nat) : (s.perf e n).ports = s.ports := rfl
@[simp] theorem State.perf_flash (s : State) (e n : Nat) : (s.perf e n).flash = s.flash := rfl
@[simp] theorem State.perf_matcher (s : State) (e n : Nat) : (s.perf e n).matcher = s.matcher := rfl
@[simp] theorem State.perf_seals (s : State) (e n : Nat) : (s.perf e n).seals = s.seals := rfl
@[simp] theorem State.perf_cipher (s : State) (e n : Nat) : (s.perf e n).cipher = s.cipher := rfl
@[simp] theorem State.perf_can (s : State) (e n : Nat) : (s.perf e n).can = s.can := rfl
@[simp] theorem State.perf_power (s : State) (e n : Nat) : (s.perf e n).power = s.power := rfl
@[simp] theorem State.perf_health (s : State) (e n : Nat) : (s.perf e n).health = s.health := rfl
@[simp] theorem State.perf_seam (s : State) (e n : Nat) : (s.perf e n).seam = s.seam := rfl
@[simp] theorem State.perf_fw (s : State) (e n : Nat) : (s.perf e n).fw = s.fw := rfl
@[simp] theorem State.perf_admin (s : State) (e n : Nat) : (s.perf e n).admin = s.admin := rfl
@[simp] theorem State.perf_pending (s : State) (e n : Nat) : (s.perf e n).pending = s.pending := rfl
@[simp] theorem State.perf_draws (s : State) (e n : Nat) : (s.perf e n).draws = s.draws := rfl
@[simp] theorem State.perf_sent (s : State) (e n : Nat) : (s.perf e n).sent = s.sent := rfl

end Sys2Proof.Machine
end

