-- ==== Sys2Proof/Laws/Table.lean ====
section
/-! SUPPORT. Keyed tables: what reading gives after a write or a removal, and that the keys stay strictly rising. -/

namespace Sys2Proof.Machine

@[simp] theorem SMap.get?_nil {α : Type} (n : Nat) : SMap.get? ([] : SMap α) n = none := rfl

@[simp] theorem SMap.get?_put_same {α : Type} (m : SMap α) (n : Nat) (a : α) : SMap.get? (SMap.put m n a) n = some a := by
  induction m with
  | nil => simp [SMap.put, SMap.get?]
  | cons p m ih =>
    obtain ⟨k, b⟩ := p
    simp only [SMap.put]
    split
    · simp [SMap.get?]
    · split
      · simp [SMap.get?]
      · rename_i h1 h2
        have : k ≠ n := fun h => h2 h.symm
        simp [SMap.get?, this, ih]

theorem SMap.get?_put_other {α : Type} (m : SMap α) {n k : Nat} (a : α) (h : k ≠ n) :
    SMap.get? (SMap.put m n a) k = SMap.get? m k := by
  have h' : n ≠ k := fun e => h e.symm
  induction m with
  | nil => simp [SMap.put, SMap.get?, h']
  | cons p m ih =>
    obtain ⟨j, b⟩ := p
    simp only [SMap.put]
    split
    · simp [SMap.get?, h']
    · split
      · rename_i hn
        subst hn
        simp [SMap.get?, h']
      · simp [SMap.get?, ih]

@[simp] theorem SMap.getD_put_same {α : Type} (m : SMap α) (n : Nat) (a d : α) : SMap.getD (SMap.put m n a) n d = a := by
  simp [SMap.getD]

theorem SMap.getD_put_other {α : Type} (m : SMap α) {n k : Nat} (a d : α) (h : k ≠ n) :
    SMap.getD (SMap.put m n a) k d = SMap.getD m k d := by
  simp [SMap.getD, SMap.get?_put_other m a h]

@[simp] theorem SMap.get?_erase_same {α : Type} (m : SMap α) (n : Nat) : SMap.get? (SMap.erase m n) n = none := by
  induction m with
  | nil => rfl
  | cons p m ih =>
    obtain ⟨k, b⟩ := p
    by_cases h : k = n
    · simpa [SMap.erase, h] using ih
    · simpa [SMap.erase, SMap.get?, h] using ih

theorem SMap.get?_erase_other {α : Type} (m : SMap α) {n k : Nat} (h : k ≠ n) :
    SMap.get? (SMap.erase m n) k = SMap.get? m k := by
  induction m with
  | nil => rfl
  | cons p m ih =>
    obtain ⟨j, b⟩ := p
    by_cases hj : j = n
    · have h' : ¬ n = k := fun e => h e.symm
      simpa [SMap.erase, SMap.get?, hj, h'] using ih
    · by_cases hk : j = k
      · subst hk
        simp [SMap.erase, SMap.get?, hj]
      · simpa [SMap.erase, SMap.get?, hj, hk] using ih

@[simp] theorem SMap.getD_erase_same {α : Type} (m : SMap α) (n : Nat) (d : α) : SMap.getD (SMap.erase m n) n d = d := by
  simp [SMap.getD]

theorem SMap.getD_erase_other {α : Type} (m : SMap α) {n k : Nat} (d : α) (h : k ≠ n) :
    SMap.getD (SMap.erase m n) k d = SMap.getD m k d := by
  simp [SMap.getD, SMap.get?_erase_other m h]

/-- The first key of a table after a write is the key written or the first key before. -/
theorem SMap.head_put {α : Type} (m : SMap α) (n : Nat) (a : α) :
    ∀ p ∈ (SMap.put m n a).head?, p.1 = n ∨ p ∈ m.head? := by
  cases m with
  | nil => intro p hp; simp [SMap.put] at hp; exact .inl (hp ▸ rfl)
  | cons q m =>
    obtain ⟨k, b⟩ := q
    intro p hp
    simp only [SMap.put] at hp
    split at hp
    · simp at hp; exact .inl (hp ▸ rfl)
    · split at hp
      · simp at hp; exact .inl (hp ▸ rfl)
      · simp at hp; exact .inr (by simp [hp])

theorem SMap.rising_cons {α : Type} (k : Nat) (b : α) (m : SMap α) :
    SMap.rising ((k, b) :: m) = true ↔ (∀ p ∈ m.head?, k < p.1) ∧ SMap.rising m = true := by
  cases m with
  | nil => simp [SMap.rising]
  | cons q m => simp [SMap.rising]

/-- A write keeps the keys strictly rising. -/
theorem SMap.rising_put {α : Type} (m : SMap α) (n : Nat) (a : α) (h : SMap.rising m = true) :
    SMap.rising (SMap.put m n a) = true := by
  induction m with
  | nil => simp [SMap.put, SMap.rising]
  | cons p m ih =>
    obtain ⟨k, b⟩ := p
    have h2 := (SMap.rising_cons k b m).1 h
    simp only [SMap.put]
    split
    · rename_i hn
      exact (SMap.rising_cons _ _ _).2 ⟨by simpa using hn, h⟩
    · split
      · rename_i _ hn
        exact (SMap.rising_cons _ _ _).2 ⟨by simpa [hn] using h2.1, h2.2⟩
      · rename_i h3 h4
        refine (SMap.rising_cons _ _ _).2 ⟨fun p hp => ?_, ih h2.2⟩
        rcases SMap.head_put m n a p hp with h5 | h5
        · omega
        · exact h2.1 p h5

/-- Every key of a rising table lies above a key that stands before it. -/
theorem SMap.rising_mem {α : Type} (m : SMap α) (k : Nat) (b : α) (h : SMap.rising ((k, b) :: m) = true) :
    ∀ p ∈ m, k < p.1 := by
  induction m generalizing k b with
  | nil => simp
  | cons q m ih =>
    have h2 := (SMap.rising_cons k b (q :: m)).1 h
    have hk : k < q.1 := h2.1 q (by simp)
    intro p hp
    rcases List.mem_cons.1 hp with rfl | hp
    · exact hk
    · exact Nat.lt_trans hk (ih q.1 q.2 h2.2 p hp)

/-- A removal keeps the keys strictly rising. -/
theorem SMap.rising_erase {α : Type} (m : SMap α) (n : Nat) (h : SMap.rising m = true) :
    SMap.rising (SMap.erase m n) = true := by
  induction m with
  | nil => rfl
  | cons p m ih =>
    obtain ⟨k, b⟩ := p
    have h2 := (SMap.rising_cons k b m).1 h
    by_cases hk : k = n
    · simpa [SMap.erase, hk] using ih h2.2
    · have he : SMap.erase ((k, b) :: m) n = (k, b) :: SMap.erase m n := by simp [SMap.erase, hk]
      rw [he]
      refine (SMap.rising_cons _ _ _).2 ⟨fun q hq => ?_, ih h2.2⟩
      have hm : q ∈ SMap.erase m n := List.mem_of_mem_head? hq
      exact SMap.rising_mem m k b h q (List.mem_filter.1 hm).1

end Sys2Proof.Machine
end

