-- ==== Sys2Proof/Laws/Od.lean ====
section
/-! SUPPORT. Values of the object dictionary: what an entry holds after an entry is written. -/

namespace Sys2Proof.Machine

/-- Two places of entries are one only when object, index and sub-index agree. -/
theorem odKey_inj {i x j i' x' j' : Nat} (hx : x < 65536) (hx' : x' < 65536) (hj : j < 256) (hj' : j' < 256)
    (h : odKey i x j = odKey i' x' j') : i = i' ∧ x = x' ∧ j = j' := by
  simp only [odKey] at h
  omega

@[simp] theorem State.odGet_odPut_same (s : State) (i x j v : Nat) : (s.odPut i x j v).odGet i x j = v := by
  simp [State.odPut, State.odGet]

theorem State.odGet_odPut_key (s : State) {i x j i' x' j' : Nat} (v : Nat) (h : odKey i' x' j' ≠ odKey i x j) :
    (s.odPut i x j v).odGet i' x' j' = s.odGet i' x' j' := by
  simp [State.odPut, State.odGet, SMap.get?_put_other _ _ h]

theorem State.odGet_odPut_other (s : State) {i x j i' x' j' : Nat} (v : Nat) (hx : x < 65536) (hx' : x' < 65536)
    (hj : j < 256) (hj' : j' < 256) (h : i' ≠ i ∨ x' ≠ x ∨ j' ≠ j) : (s.odPut i x j v).odGet i' x' j' = s.odGet i' x' j' :=
  State.odGet_odPut_key s v (fun e => by
    obtain ⟨h1, h2, h3⟩ := odKey_inj hx' hx hj' hj e
    rcases h with h | h | h
    · exact h h1
    · exact h h2
    · exact h h3)

@[simp] theorem State.val_setVal_same (s : State) (x v : Nat) : (s.setVal x v).val x = v := by
  simp [State.setVal, State.val]

theorem State.val_setVal_other (s : State) {x y : Nat} (v : Nat) (h : y ≠ x) : (s.setVal x v).val y = s.val y :=
  State.odGet_odPut_key s v (by simp only [odKey]; omega)

/-- An update that leaves the dictionary, the grade and the node-IDs alone leaves every value. -/
theorem State.odGet_congr {s t : State} (hv : t.od.vals = s.od.vals) (hg : t.hw = s.hw)
    (hn : ∀ n, (t.net n).node = (s.net n).node) (i x j : Nat) : t.odGet i x j = s.odGet i x j := by
  have := hn i
  simp only [State.net] at this
  simp [State.odGet, hv, hg, this]

theorem State.node_setNet (s : State) (n : Nat) (x : CanNet) (h : x.node = (s.net n).node) (k : Nat) :
    ((s.setNet n x).net k).node = (s.net k).node := by
  by_cases hk : k = n
  · subst hk; simpa [State.setNet, State.net] using h
  · simp [State.setNet, State.net, SMap.getD_put_other _ _ _ hk]

/-- A network set with its node-ID kept leaves every value. -/
theorem State.odGet_setNet (s : State) (n : Nat) (x : CanNet) (h : x.node = (s.net n).node) (i k j : Nat) :
    (s.setNet n x).odGet i k j = s.odGet i k j :=
  State.odGet_congr (s := s) (t := s.setNet n x) rfl rfl (State.node_setNet s n x h) i k j

end Sys2Proof.Machine
end

