-- ==== Sys2Proof/Laws/Events.lean ====
section
/-! SUPPORT. What raising an event, sending a frame, a CAN message or an EMCY and making a record can change: their own
bookkeeping, and nothing of the stored values, the media, the clock, the engine or the firmware. -/

namespace Sys2Proof.Machine

/-- The entries in which events are counted: the counts of Tables 16.1 and 16.2, REC_FREEZE, and the statistics of the ports. -/
def eventEntry (x : Nat) : Bool :=
  x == Od.EVENT_COUNT || x == Od.EVENT_LAST_DT || x == Od.EVENT_SUPPRESSED || x == Od.CNT_EMCY_LOST || x == Od.SEAM_EVENTS_LOST
    || x == Od.REC_PENDING_LOST || x == Od.REC_FREEZE || x == Od.KEY_CACHE_MISSES
    || (decide (0x2210 ≤ x) && decide (x < 0x2280) && x % 16 == 12)

theorem sentLike.trans {x y z : Session} (h : sentLike x y) (k : sentLike y z) : sentLike x z := by
  unfold sentLike at *; rw [k, h]

theorem emcyLike.trans {x y z : CanNet} (h : emcyLike x y) (k : emcyLike y z) : emcyLike x z := by
  unfold emcyLike at *; rw [k, h]

theorem cacheLike.trans {x y z : CipherState} (h : cacheLike x y) (k : cacheLike y z) : cacheLike x z := by
  unfold cacheLike at *; rw [k, h]

theorem queueLike.trans {x y z : Port} (h : queueLike x y) (k : queueLike y z) : queueLike x z := by
  unfold queueLike at *; rw [k, h]

/-- What a link that goes down leaves as it was: every group but the dictionary's counts, sessions' numbers, ports, the networks'
EMCY queues, the Seam's event queue and the recorder. -/
structure LinkFrame (s t : State) : Prop where
  hw : t.hw = s.hw
  clock : t.clock = s.clock
  seq : t.seq = s.seq
  kv : t.kv = s.kv
  pocket : t.pocket = s.pocket
  flash : t.flash = s.flash
  matcher : t.matcher = s.matcher
  seals : t.seals = s.seals
  cipher : cacheLike s.cipher t.cipher
  power : t.power = s.power
  health : t.health = s.health
  fw : t.fw = s.fw
  admin : t.admin = s.admin
  pending : t.pending = s.pending
  draws : t.draws = s.draws
  blobs : t.od.blobs = s.od.blobs
  partition : t.seam.partition = s.seam.partition
  tags : t.seam.tags = s.seam.tags
  session : ∀ c, sentLike (s.session c) (t.session c)
  net : ∀ n, emcyLike (s.net n) (t.net n)
  od : ∀ i x j, x < 65536 → j < 256 → eventEntry x = false → t.odGet i x j = s.odGet i x j

/-- What an event leaves as it was: what a lost link leaves, and of the ports all but what waits to be sent. -/
structure EventFrame (s t : State) : Prop extends LinkFrame s t where
  port : ∀ p, queueLike (s.port p) (t.port p)

theorem LinkFrame.trans {s t u : State} (h : LinkFrame s t) (k : LinkFrame t u) : LinkFrame s u where
  hw := k.hw.trans h.hw
  clock := k.clock.trans h.clock
  seq := k.seq.trans h.seq
  kv := k.kv.trans h.kv
  pocket := k.pocket.trans h.pocket
  flash := k.flash.trans h.flash
  matcher := k.matcher.trans h.matcher
  seals := k.seals.trans h.seals
  cipher := h.cipher.trans k.cipher
  power := k.power.trans h.power
  health := k.health.trans h.health
  fw := k.fw.trans h.fw
  admin := k.admin.trans h.admin
  pending := k.pending.trans h.pending
  draws := k.draws.trans h.draws
  blobs := k.blobs.trans h.blobs
  partition := k.partition.trans h.partition
  tags := k.tags.trans h.tags
  session c := (h.session c).trans (k.session c)
  net n := (h.net n).trans (k.net n)
  od i x j hx hj he := (k.od i x j hx hj he).trans (h.od i x j hx hj he)

theorem EventFrame.trans {s t u : State} (h : EventFrame s t) (k : EventFrame t u) : EventFrame s u where
  toLinkFrame := h.toLinkFrame.trans k.toLinkFrame
  port p := (h.port p).trans (k.port p)

theorem LinkFrame.refl (s : State) : LinkFrame s s := by constructor <;> intros <;> rfl

theorem EventFrame.refl (s : State) : EventFrame s s := ⟨.refl s, fun _ => rfl⟩

/-- A choice between two states that both keep the frame keeps it. -/
theorem EventFrame.ite {s a b : State} {c : Prop} [Decidable c] (ha : EventFrame s a) (hb : EventFrame s b) :
    EventFrame s (if c then a else b) := by
  split <;> assumption

theorem LinkFrame.ite {s a b : State} {c : Prop} [Decidable c] (ha : LinkFrame s a) (hb : LinkFrame s b) :
    LinkFrame s (if c then a else b) := by
  split <;> assumption

theorem EventFrame.foldl {α : Type} (f : State → α → State) (h : ∀ s a, EventFrame s (f s a)) (l : List α) (s : State) :
    EventFrame s (l.foldl f s) := by
  induction l generalizing s with
  | nil => exact EventFrame.refl s
  | cons a l ih => exact (h s a).trans (ih (f s a))

theorem LinkFrame.node {s t : State} (h : LinkFrame s t) (n : Nat) : (t.net n).node = (s.net n).node := by
  have := h.net n
  unfold emcyLike at this
  rw [this]

/-- Updates of the groups that an event may change, each as an event changes it. -/
theorem LinkFrame.of_groups {s t : State} (hod : t.od = s.od) (hnet : ∀ n, emcyLike (s.net n) (t.net n))
    (hses : ∀ c, sentLike (s.session c) (t.session c))
    (hseam : t.seam.partition = s.seam.partition ∧ t.seam.tags = s.seam.tags)
    (h : t.hw = s.hw ∧ t.clock = s.clock ∧ t.seq = s.seq ∧ t.kv = s.kv ∧ t.pocket = s.pocket ∧ t.flash = s.flash
      ∧ t.matcher = s.matcher ∧ t.seals = s.seals ∧ t.cipher = s.cipher ∧ t.power = s.power ∧ t.health = s.health
      ∧ t.fw = s.fw ∧ t.admin = s.admin ∧ t.pending = s.pending ∧ t.draws = s.draws) : LinkFrame s t := by
  obtain ⟨h1, h2, h3, h4, h5, h6, h7, h8, h9, h10, h11, h12, h13, h14, h15⟩ := h
  refine ⟨h1, h2, h3, h4, h5, h6, h7, h8, by rw [h9]; rfl, h10, h11, h12, h13, h14, h15, by rw [hod], hseam.1, hseam.2, hses, hnet, ?_⟩
  intro i x j _ _ _
  refine State.odGet_congr (by rw [hod]) h1 (fun n => ?_) i x j
  have := hnet n
  unfold emcyLike at this
  rw [this]

/-- A change of the recorder, of what has been sent or of the Seam's queue alone. -/
theorem EventFrame.of_groups {s t : State} (hod : t.od = s.od) (hcan : t.can = s.can) (hwkp : t.wkp = s.wkp)
    (hports : t.ports = s.ports) (hseam : t.seam.partition = s.seam.partition ∧ t.seam.tags = s.seam.tags)
    (h : t.hw = s.hw ∧ t.clock = s.clock ∧ t.seq = s.seq ∧ t.kv = s.kv ∧ t.pocket = s.pocket ∧ t.flash = s.flash
      ∧ t.matcher = s.matcher ∧ t.seals = s.seals ∧ t.cipher = s.cipher ∧ t.power = s.power ∧ t.health = s.health
      ∧ t.fw = s.fw ∧ t.admin = s.admin ∧ t.pending = s.pending ∧ t.draws = s.draws) : EventFrame s t where
  toLinkFrame := .of_groups hod (fun n => by simp [State.net, hcan, emcyLike]) (fun c => by simp [State.session, hwkp, sentLike])
    hseam h
  port p := by simp [State.port, hports, queueLike]

theorem eventFrame_odPut (s : State) (i x j v : Nat) (hx : x < 65536) (hj : j < 256) (he : eventEntry x = true) :
    EventFrame s (s.odPut i x j v) where
  hw := rfl
  clock := rfl
  seq := rfl
  kv := rfl
  pocket := rfl
  flash := rfl
  matcher := rfl
  seals := rfl
  cipher := rfl
  power := rfl
  health := rfl
  fw := rfl
  admin := rfl
  pending := rfl
  draws := rfl
  blobs := rfl
  partition := rfl
  tags := rfl
  session _ := rfl
  net _ := rfl
  port _ := rfl
  od i' x' j' hx' hj' he' := State.odGet_odPut_other s v hx hx' hj hj' (.inr (.inl (fun e => by simp [e, he] at he')))

theorem State.session_setSession (s : State) (c k : Nat) (x : Session) :
    (s.setSession c x).session k = if k = c then x else s.session k := by
  split
  · rename_i h; subst h; simp [State.setSession, State.session]
  · rename_i h; simp [State.setSession, State.session, SMap.getD_put_other _ _ _ h]

theorem State.port_setPort (s : State) (p k : Nat) (x : Port) :
    (s.setPort p x).port k = if k = p then x else s.port k := by
  split
  · rename_i h; subst h; simp [State.setPort, State.port]
  · rename_i h; simp [State.setPort, State.port, SMap.getD_put_other _ _ _ h]

theorem State.net_setNet (s : State) (n k : Nat) (x : CanNet) :
    (s.setNet n x).net k = if k = n then x else s.net k := by
  split
  · rename_i h; subst h; simp [State.setNet, State.net]
  · rename_i h; simp [State.setNet, State.net, SMap.getD_put_other _ _ _ h]

theorem eventFrame_setSession (s : State) (c : Nat) (x : Session) (h : sentLike (s.session c) x) :
    EventFrame s (s.setSession c x) where
  toLinkFrame := .of_groups rfl (fun _ => rfl) (fun k => by
    rw [State.session_setSession]; split
    · rename_i e; subst e; exact h
    · rfl) ⟨rfl, rfl⟩ (by simp)
  port _ := rfl

theorem linkFrame_setPort (s : State) (p : Nat) (x : Port) : LinkFrame s (s.setPort p x) :=
  .of_groups rfl (fun _ => rfl) (fun _ => rfl) ⟨rfl, rfl⟩ (by simp)

theorem eventFrame_setPort (s : State) (p : Nat) (x : Port) (h : queueLike (s.port p) x) : EventFrame s (s.setPort p x) where
  toLinkFrame := linkFrame_setPort s p x
  port k := by
    rw [State.port_setPort]; split
    · rename_i e; subst e; exact h
    · rfl

theorem eventFrame_emit (s : State) (x : Sent) : EventFrame s (s.emit x) := .of_groups rfl rfl rfl rfl ⟨rfl, rfl⟩ (by simp)

theorem eventFrame_perf (s : State) (e n : Nat) : EventFrame s (s.perf e n) := .of_groups rfl rfl rfl rfl ⟨rfl, rfl⟩ (by simp)

theorem eventFrame_setNet (s : State) (n : Nat) (x : CanNet) (h : emcyLike (s.net n) x) : EventFrame s (s.setNet n x) where
  toLinkFrame :=
    { LinkFrame.refl s with
      hw := rfl
      net := fun k => by
        rw [State.net_setNet]; split
        · rename_i e; subst e; exact h
        · rfl
      session := fun _ => rfl
      od := fun i x' j _ _ _ => State.odGet_setNet s n x (by unfold emcyLike at h; rw [h]) i x' j }
  port _ := rfl

theorem portIndex_lt {p : Nat} (hp : p < 7) : portIndex p 12 < 65536 := by simp only [portIndex]; omega

theorem eventEntry_portIndex {p : Nat} (hp : p < 7) : eventEntry (portIndex p 12) = true := by
  have : p = 0 ∨ p = 1 ∨ p = 2 ∨ p = 3 ∨ p = 4 ∨ p = 5 ∨ p = 6 := by omega
  rcases this with rfl | rfl | rfl | rfl | rfl | rfl | rfl <;> decide

theorem queueLike_start (x : Port) (now : Nat × Nat) : queueLike x (Port.start x now) := by
  unfold Port.start
  split
  · split
    · rfl
    · split
      · rfl
      · split <;> rfl
  · rfl

theorem eventFrame_startPort (s : State) (p : Nat) : EventFrame s (s.startPort p) :=
  eventFrame_setPort s p _ (queueLike_start _ _)

theorem eventFrame_portAdd (s : State) (p sub n : Nat) (h : sub < 256) : EventFrame s (s.portAdd p sub n) := by
  unfold State.portAdd
  split
  · rename_i hp
    have h1 := eventFrame_odPut s 0 (portIndex p 12) sub ((s.portStat p sub + n) % 2 ^ 32) (portIndex_lt hp) h
      (eventEntry_portIndex hp)
    split
    · exact h1.trans (eventFrame_perf _ _ _)
    · exact h1
  · exact .refl s

theorem eventFrame_txPut (s : State) (p q : Nat) (f : TxFrame) : EventFrame s (s.txPut p q f) := by
  unfold State.txPut
  dsimp only
  exact .ite ((eventFrame_setPort s _ _ (by rfl)).trans (eventFrame_startPort _ _)) (eventFrame_portAdd s p 46 1 (by decide))

theorem eventFrame_useKey (s : State) (k : Nat) : EventFrame s (s.useKey k) := by
  have h1 : ∀ (t : State) (l : List Nat), EventFrame t { t with cipher := { t.cipher with keyCache := l } } := fun t l =>
    { EventFrame.refl t with cipher := rfl, net := fun _ => rfl, session := fun _ => rfl, port := fun _ => rfl
                             od := fun _ _ _ _ _ _ => rfl }
  exact (EventFrame.ite (.refl s) ((eventFrame_odPut s 0 Od.KEY_CACHE_MISSES 0 _ (by decide) (by decide) rfl).trans
    (eventFrame_perf _ _ _))).trans (h1 _ _)

theorem State.useKey_session (s : State) (k c : Nat) : (s.useKey k).session c = s.session c := by
  unfold State.useKey
  dsimp only
  split <;> rfl

theorem eventFrame_sessionSend (s : State) (c q : Nat) (m : Msg) (b : Bool) : EventFrame s (s.sessionSend c q m b) := by
  unfold State.sessionSend State.sessionDatagram
  dsimp only
  refine .ite (.refl s) (.trans (.trans (.ite (eventFrame_useKey s _) (.refl s)) (eventFrame_setSession _ c _ ?_)) (eventFrame_txPut _ _ _ _))
  split
  · rw [State.useKey_session]; rfl
  · rfl

theorem eventFrame_canSend (s : State) (n cob : Nat) (d : Bytes) : EventFrame s (s.canSend n cob d) := by
  unfold State.canSend
  exact .ite (eventFrame_emit s _) (.refl s)

theorem eventFrame_canSendBoth (s : State) (n cob : Nat) (d : Bytes) : EventFrame s (s.canSendBoth n cob d) := by
  unfold State.canSendBoth
  exact .ite ((eventFrame_canSend s _ _ _).trans (eventFrame_canSend _ _ _ _)) (eventFrame_canSend s _ _ _)

theorem eventFrame_bump (s : State) (x n j w : Nat) (hx : x < 65536) (hj : j < 256) (he : eventEntry x = true) :
    EventFrame s (s.bump x n j w) := eventFrame_odPut s 0 x j _ hx hj he

theorem eventFrame_emcyOut (s : State) (n code : Nat) (five : Bytes) : EventFrame s (s.emcyOut n code five) :=
  (eventFrame_canSend s n _ _).trans (eventFrame_setNet _ n _ rfl)

theorem eventFrame_emcy (s : State) (n code : Nat) (five : Bytes) (h : n < 2) : EventFrame s (s.emcy n code five) := by
  unfold State.emcy
  dsimp only
  refine .ite (.refl s) (.ite (eventFrame_emcyOut s n code five) (.ite (eventFrame_setNet s n _ rfl) (.ite ?_ ?_)))
  · refine .trans (eventFrame_setNet s n _ ?_) (eventFrame_bump _ Od.CNT_EMCY_LOST 1 (n + 1) 32 (by decide) (by omega) rfl)
    rfl
  · exact eventFrame_bump s Od.CNT_EMCY_LOST 1 (n + 1) 32 (by decide) (by omega) rfl

theorem eventFrame_emcyAll (s : State) (code : Nat) (five : Bytes) : EventFrame s (s.emcyAll code five) :=
  (eventFrame_emcy s 0 code five (by decide)).trans (eventFrame_emcy _ 1 code five (by decide))

theorem eventFrame_emcyDrain (k : Nat) (s : State) (n : Nat) : EventFrame s (State.emcyDrain k s n) := by
  induction k generalizing s with
  | zero => exact .refl s
  | succ k ih =>
    unfold State.emcyDrain
    split
    · exact .refl s
    · rename_i e es _
      refine .ite (.refl s) ?_
      have h1 := eventFrame_setNet s n { s.net n with emcy := es } rfl
      exact (h1.trans (eventFrame_emcyOut _ n e.1 e.2)).trans (ih _)

theorem eventFrame_emcyDrainAll (s : State) : EventFrame s s.emcyDrainAll :=
  (eventFrame_emcyDrain 16 s 0).trans (eventFrame_emcyDrain 16 _ 1)

theorem eventFrame_countRaise (s : State) (src dest : Nat) (ok : Bool) : EventFrame s (s.countRaise src dest ok) :=
  .of_groups rfl rfl rfl rfl ⟨rfl, rfl⟩ (by simp [State.countRaise])

theorem eventFrame_writeLog (s : State) : EventFrame s s.writeLog := by
  unfold State.writeLog
  dsimp only
  exact .ite (.of_groups rfl rfl rfl rfl ⟨rfl, rfl⟩ (by simp)) (.of_groups rfl rfl rfl rfl ⟨rfl, rfl⟩ (by simp))

theorem eventFrame_addPending (s : State) (r : Rec) : EventFrame s (s.addPending r) :=
  .of_groups rfl rfl rfl rfl ⟨rfl, rfl⟩ (by simp [State.addPending])

/-- A change of the recorder's own group. -/
theorem eventFrame_setEvents (s : State) (e : EventState) : EventFrame s { s with events := e } :=
  .of_groups rfl rfl rfl rfl ⟨rfl, rfl⟩ (by simp)

theorem eventFrame_dropRecord (s : State) : EventFrame s s.dropRecord :=
  (eventFrame_bump s Od.REC_PENDING_LOST 1 0 32 (by decide) (by decide) rfl).trans (eventFrame_setEvents _ _)

theorem eventFrame_setVal (s : State) (x v : Nat) (hx : x < 65536) (he : eventEntry x = true) : EventFrame s (s.setVal x v) :=
  eventFrame_odPut s 0 x 0 v hx (by decide) he

theorem eventFrame_thaw (s : State) (why : Nat) : EventFrame s (s.thaw why) := by
  unfold State.thaw
  dsimp only
  have h1 : ∀ r, EventFrame s (if s.dropsRecord 0 = true then s.dropRecord else s.addPending r) := fun r =>
    .ite (eventFrame_dropRecord s) (eventFrame_addPending s r)
  exact (((h1 _).trans (eventFrame_setEvents _ _)).trans (eventFrame_setVal _ Od.REC_FREEZE 0 (by decide) rfl)).trans
    (eventFrame_writeLog _)

theorem eventFrame_enterRecord (s : State) (r : Rec) : EventFrame s (s.enterRecord r) := by
  unfold State.enterRecord
  dsimp only
  refine .ite (eventFrame_dropRecord s) ?_
  have h1 : EventFrame s ((if 256 ≤ s.events.pendingRecs.length then s.writeLog else s).addPending r) :=
    (EventFrame.ite (eventFrame_writeLog s) (.refl s)).trans (eventFrame_addPending _ r)
  exact .ite (.ite (h1.trans (eventFrame_thaw _ _)) h1) (.ite (h1.trans (eventFrame_writeLog _)) h1)

theorem eventFrame_noticeTo (s : State) (src sev : Nat) (ps : List (BitVec 32)) (c : Nat) :
    EventFrame s (s.noticeTo src sev ps c) := by
  unfold State.noticeTo
  dsimp only
  exact .ite (.ite ((eventFrame_setSession s _ _ (by rfl)).trans (eventFrame_sessionSend _ _ _ _ _)) (eventFrame_setSession s _ _ (by rfl)))
    (.refl s)

theorem eventFrame_notices (s : State) (src sev : Nat) (ps : List (BitVec 32)) : EventFrame s (s.notices src sev ps) :=
  .foldl _ (fun t c => eventFrame_noticeTo t src sev ps c) _ s

theorem eventFrame_deliver (s : State) (src sev : Nat) (engine late : Bool) (ps : List (BitVec 32)) (dt sec : Nat) :
    EventFrame s (s.deliver src sev engine late ps dt sec) := by
  unfold State.deliver
  dsimp only
  have h1 : ∀ (b : Bool) (w : Bytes), EventFrame s (if b = true then
      ((s.odPut src Od.EVENT_COUNT 0 ((s.odGet src Od.EVENT_COUNT 0 + 1) % 2 ^ 32)).odPut src Od.EVENT_LAST_DT 0 dt).emit
        (.supervisorInterrupt src w) else s) := fun b _ =>
    .ite (((eventFrame_odPut s _ _ _ _ (by decide) (by decide) rfl).trans
      (eventFrame_odPut _ _ _ _ _ (by decide) (by decide) rfl)).trans (eventFrame_emit _ _)) (.refl s)
  have h2 : ∀ (t : State) (b w : Bool), EventFrame t (if b = true then
      (if w = true then (t.countRaise src 1 true).emcyAll 0xFF01 (toBE 1 src ++ toLE 4 (ps.getD 0 0).toNat)
       else t.countRaise src 1 false) else t) := fun t b w =>
    .ite (.ite ((eventFrame_countRaise t _ _ _).trans (eventFrame_emcyAll _ _ _)) (eventFrame_countRaise t _ _ _)) (.refl t)
  have h3 : ∀ (t : State) (b w : Bool) (r : Rec), EventFrame t (if b = true then
      (if w = true then (t.countRaise src 3 true).enterRecord r else t.countRaise src 3 false) else t) := fun t b w r =>
    .ite (.ite ((eventFrame_countRaise t _ _ _).trans (eventFrame_enterRecord _ _)) (eventFrame_countRaise t _ _ _)) (.refl t)
  exact ((h1 _ _).trans (h2 _ _ _)).trans (h3 _ _ _ _)

theorem eventFrame_raiseOnce (s : State) (src : Nat) (ps : List (BitVec 32)) : EventFrame s (s.raiseOnce src ps) := by
  unfold State.raiseOnce
  split
  · exact .refl s
  · rename_i sev hsev
    dsimp only
    have h0 := eventFrame_perf s 191 1
    have h1 : ∀ (t : State) (b w : Bool), EventFrame t (if b = true then
        (if w = true then (t.countRaise src 2 true).notices src sev ps else t.countRaise src 2 false) else t) := fun t b w =>
      .ite (.ite ((eventFrame_countRaise t _ _ _).trans (eventFrame_notices _ _ _ _)) (eventFrame_countRaise t _ _ _)) (.refl t)
    refine (h0.trans (h1 _ (bitOf 2 ((s.perf 191 1).odGet src Od.EVENT_ROUTE 0)) ((s.perf 191 1).withinRate src 2 sev))).trans ?_
    refine .ite (.ite (.of_groups rfl rfl rfl rfl ⟨rfl, rfl⟩ (by simp)) ?_) (eventFrame_deliver _ _ _ _ _ _ _ _)
    exact eventFrame_bump _ Od.SEAM_EVENTS_LOST 1 0 32 (by decide) (by decide) rfl

theorem eventFrame_reportOverflow (s : State) (n : Nat) : EventFrame s (s.reportOverflow n) := by
  unfold State.reportOverflow
  exact .ite ((eventFrame_setEvents s _).trans (eventFrame_raiseOnce _ _ _)) (.refl s)

/-- Raising an event leaves everything but its own bookkeeping as it was (R556). -/
theorem eventFrame_raise (s : State) (src : Nat) (ps : List Nat) : EventFrame s (s.raise src ps) :=
  (eventFrame_raiseOnce s src _).trans (eventFrame_reportOverflow _ _)

/-- Making a record leaves everything but its own bookkeeping as it was (R563). -/
theorem eventFrame_record (s : State) (code : Nat) (ps : List Nat) : EventFrame s (s.record code ps) :=
  (eventFrame_enterRecord s _).trans (eventFrame_reportOverflow _ _)

theorem eventFrame_portCount (s : State) (p sub n : Nat) (h : sub < 256) : EventFrame s (s.portCount p sub n) := by
  unfold State.portCount
  dsimp only
  exact .ite ((eventFrame_portAdd s p sub n h).trans (eventFrame_raise _ _ _)) (eventFrame_portAdd s p sub n h)

theorem linkFrame_linkLost (s : State) (p : Nat) : LinkFrame s (s.linkLost p) := by
  unfold State.linkLost
  dsimp only
  refine .ite ?_ (.refl s)
  have h1 : ∀ (x : Port) (n : Nat), LinkFrame s (if n = 0 then s.setPort p x else (s.setPort p x).portCount p 46 n) :=
    fun x n => .ite (linkFrame_setPort s p x) ((linkFrame_setPort s p x).trans (eventFrame_portCount _ _ _ _ (by decide)).toLinkFrame)
  exact ((h1 _ _).trans (eventFrame_portCount _ _ _ _ (by decide)).toLinkFrame).trans (eventFrame_raise _ _ _).toLinkFrame

theorem linkFrame_holdDown (s : State) (p : Nat) : LinkFrame s (s.holdDown p) :=
  (linkFrame_linkLost s p).trans (linkFrame_setPort _ _ _)

theorem eventFrame_emcyClear (s b : State) (n : Nat) (h : n < 2) : EventFrame s (s.emcyClear b n) := by
  unfold State.emcyClear
  exact .ite (eventFrame_emcy s n _ _ h) (.refl s)

end Sys2Proof.Machine
end

