-- ==== Sys2Proof/Laws/Quiet.lean ====
section
/-! SUPPORT. The event frame field by field, for rewriting. -/

namespace Sys2Proof.Machine

@[simp] theorem State.raise_hw (s : State) (src : Nat) (ps : List Nat) : (s.raise src ps).hw = s.hw := (eventFrame_raise s src ps).hw
@[simp] theorem State.raise_clock (s : State) (src : Nat) (ps : List Nat) : (s.raise src ps).clock = s.clock := (eventFrame_raise s src ps).clock
@[simp] theorem State.raise_seq (s : State) (src : Nat) (ps : List Nat) : (s.raise src ps).seq = s.seq := (eventFrame_raise s src ps).seq
@[simp] theorem State.raise_kv (s : State) (src : Nat) (ps : List Nat) : (s.raise src ps).kv = s.kv := (eventFrame_raise s src ps).kv
@[simp] theorem State.raise_pocket (s : State) (src : Nat) (ps : List Nat) : (s.raise src ps).pocket = s.pocket := (eventFrame_raise s src ps).pocket
@[simp] theorem State.raise_flash (s : State) (src : Nat) (ps : List Nat) : (s.raise src ps).flash = s.flash := (eventFrame_raise s src ps).flash
@[simp] theorem State.raise_matcher (s : State) (src : Nat) (ps : List Nat) : (s.raise src ps).matcher = s.matcher := (eventFrame_raise s src ps).matcher
@[simp] theorem State.raise_seals (s : State) (src : Nat) (ps : List Nat) : (s.raise src ps).seals = s.seals := (eventFrame_raise s src ps).seals
@[simp] theorem State.raise_power (s : State) (src : Nat) (ps : List Nat) : (s.raise src ps).power = s.power := (eventFrame_raise s src ps).power
@[simp] theorem State.raise_health (s : State) (src : Nat) (ps : List Nat) : (s.raise src ps).health = s.health := (eventFrame_raise s src ps).health
@[simp] theorem State.raise_fw (s : State) (src : Nat) (ps : List Nat) : (s.raise src ps).fw = s.fw := (eventFrame_raise s src ps).fw
@[simp] theorem State.raise_admin (s : State) (src : Nat) (ps : List Nat) : (s.raise src ps).admin = s.admin := (eventFrame_raise s src ps).admin
@[simp] theorem State.raise_pending (s : State) (src : Nat) (ps : List Nat) : (s.raise src ps).pending = s.pending := (eventFrame_raise s src ps).pending
@[simp] theorem State.raise_draws (s : State) (src : Nat) (ps : List Nat) : (s.raise src ps).draws = s.draws := (eventFrame_raise s src ps).draws
theorem State.raise_odGet (s : State) (src : Nat) (ps : List Nat) (i : Nat) {x j : Nat} (hx : x < 65536) (hj : j < 256) (he : eventEntry x = false) :
    (s.raise src ps).odGet i x j = s.odGet i x j := (eventFrame_raise s src ps).od i x j hx hj he
theorem State.raise_val (s : State) (src : Nat) (ps : List Nat) {x : Nat} (hx : x < 65536) (he : eventEntry x = false) :
    (s.raise src ps).val x = s.val x := (eventFrame_raise s src ps).od 0 x 0 hx (by decide) he

@[simp] theorem State.record_hw (s : State) (code : Nat) (ps : List Nat) : (s.record code ps).hw = s.hw := (eventFrame_record s code ps).hw
@[simp] theorem State.record_clock (s : State) (code : Nat) (ps : List Nat) : (s.record code ps).clock = s.clock := (eventFrame_record s code ps).clock
@[simp] theorem State.record_seq (s : State) (code : Nat) (ps : List Nat) : (s.record code ps).seq = s.seq := (eventFrame_record s code ps).seq
@[simp] theorem State.record_kv (s : State) (code : Nat) (ps : List Nat) : (s.record code ps).kv = s.kv := (eventFrame_record s code ps).kv
@[simp] theorem State.record_pocket (s : State) (code : Nat) (ps : List Nat) : (s.record code ps).pocket = s.pocket := (eventFrame_record s code ps).pocket
@[simp] theorem State.record_flash (s : State) (code : Nat) (ps : List Nat) : (s.record code ps).flash = s.flash := (eventFrame_record s code ps).flash
@[simp] theorem State.record_matcher (s : State) (code : Nat) (ps : List Nat) : (s.record code ps).matcher = s.matcher := (eventFrame_record s code ps).matcher
@[simp] theorem State.record_seals (s : State) (code : Nat) (ps : List Nat) : (s.record code ps).seals = s.seals := (eventFrame_record s code ps).seals
@[simp] theorem State.record_power (s : State) (code : Nat) (ps : List Nat) : (s.record code ps).power = s.power := (eventFrame_record s code ps).power
@[simp] theorem State.record_health (s : State) (code : Nat) (ps : List Nat) : (s.record code ps).health = s.health := (eventFrame_record s code ps).health
@[simp] theorem State.record_fw (s : State) (code : Nat) (ps : List Nat) : (s.record code ps).fw = s.fw := (eventFrame_record s code ps).fw
@[simp] theorem State.record_admin (s : State) (code : Nat) (ps : List Nat) : (s.record code ps).admin = s.admin := (eventFrame_record s code ps).admin
@[simp] theorem State.record_pending (s : State) (code : Nat) (ps : List Nat) : (s.record code ps).pending = s.pending := (eventFrame_record s code ps).pending
@[simp] theorem State.record_draws (s : State) (code : Nat) (ps : List Nat) : (s.record code ps).draws = s.draws := (eventFrame_record s code ps).draws
theorem State.record_odGet (s : State) (code : Nat) (ps : List Nat) (i : Nat) {x j : Nat} (hx : x < 65536) (hj : j < 256) (he : eventEntry x = false) :
    (s.record code ps).odGet i x j = s.odGet i x j := (eventFrame_record s code ps).od i x j hx hj he
theorem State.record_val (s : State) (code : Nat) (ps : List Nat) {x : Nat} (hx : x < 65536) (he : eventEntry x = false) :
    (s.record code ps).val x = s.val x := (eventFrame_record s code ps).od 0 x 0 hx (by decide) he

@[simp] theorem State.sessionSend_hw (s : State) (c q : Nat) (m : Msg) (b : Bool) : (s.sessionSend c q m b).hw = s.hw := (eventFrame_sessionSend s c q m b).hw
@[simp] theorem State.sessionSend_clock (s : State) (c q : Nat) (m : Msg) (b : Bool) : (s.sessionSend c q m b).clock = s.clock := (eventFrame_sessionSend s c q m b).clock
@[simp] theorem State.sessionSend_seq (s : State) (c q : Nat) (m : Msg) (b : Bool) : (s.sessionSend c q m b).seq = s.seq := (eventFrame_sessionSend s c q m b).seq
@[simp] theorem State.sessionSend_kv (s : State) (c q : Nat) (m : Msg) (b : Bool) : (s.sessionSend c q m b).kv = s.kv := (eventFrame_sessionSend s c q m b).kv
@[simp] theorem State.sessionSend_pocket (s : State) (c q : Nat) (m : Msg) (b : Bool) : (s.sessionSend c q m b).pocket = s.pocket := (eventFrame_sessionSend s c q m b).pocket
@[simp] theorem State.sessionSend_flash (s : State) (c q : Nat) (m : Msg) (b : Bool) : (s.sessionSend c q m b).flash = s.flash := (eventFrame_sessionSend s c q m b).flash
@[simp] theorem State.sessionSend_matcher (s : State) (c q : Nat) (m : Msg) (b : Bool) : (s.sessionSend c q m b).matcher = s.matcher := (eventFrame_sessionSend s c q m b).matcher
@[simp] theorem State.sessionSend_seals (s : State) (c q : Nat) (m : Msg) (b : Bool) : (s.sessionSend c q m b).seals = s.seals := (eventFrame_sessionSend s c q m b).seals
@[simp] theorem State.sessionSend_power (s : State) (c q : Nat) (m : Msg) (b : Bool) : (s.sessionSend c q m b).power = s.power := (eventFrame_sessionSend s c q m b).power
@[simp] theorem State.sessionSend_health (s : State) (c q : Nat) (m : Msg) (b : Bool) : (s.sessionSend c q m b).health = s.health := (eventFrame_sessionSend s c q m b).health
@[simp] theorem State.sessionSend_fw (s : State) (c q : Nat) (m : Msg) (b : Bool) : (s.sessionSend c q m b).fw = s.fw := (eventFrame_sessionSend s c q m b).fw
@[simp] theorem State.sessionSend_admin (s : State) (c q : Nat) (m : Msg) (b : Bool) : (s.sessionSend c q m b).admin = s.admin := (eventFrame_sessionSend s c q m b).admin
@[simp] theorem State.sessionSend_pending (s : State) (c q : Nat) (m : Msg) (b : Bool) : (s.sessionSend c q m b).pending = s.pending := (eventFrame_sessionSend s c q m b).pending
@[simp] theorem State.sessionSend_draws (s : State) (c q : Nat) (m : Msg) (b : Bool) : (s.sessionSend c q m b).draws = s.draws := (eventFrame_sessionSend s c q m b).draws
theorem State.sessionSend_odGet (s : State) (c q : Nat) (m : Msg) (b : Bool) (i : Nat) {x j : Nat} (hx : x < 65536) (hj : j < 256) (he : eventEntry x = false) :
    (s.sessionSend c q m b).odGet i x j = s.odGet i x j := (eventFrame_sessionSend s c q m b).od i x j hx hj he
theorem State.sessionSend_val (s : State) (c q : Nat) (m : Msg) (b : Bool) {x : Nat} (hx : x < 65536) (he : eventEntry x = false) :
    (s.sessionSend c q m b).val x = s.val x := (eventFrame_sessionSend s c q m b).od 0 x 0 hx (by decide) he

@[simp] theorem State.txPut_hw (s : State) (p q : Nat) (f : TxFrame) : (s.txPut p q f).hw = s.hw := (eventFrame_txPut s p q f).hw
@[simp] theorem State.txPut_clock (s : State) (p q : Nat) (f : TxFrame) : (s.txPut p q f).clock = s.clock := (eventFrame_txPut s p q f).clock
@[simp] theorem State.txPut_seq (s : State) (p q : Nat) (f : TxFrame) : (s.txPut p q f).seq = s.seq := (eventFrame_txPut s p q f).seq
@[simp] theorem State.txPut_kv (s : State) (p q : Nat) (f : TxFrame) : (s.txPut p q f).kv = s.kv := (eventFrame_txPut s p q f).kv
@[simp] theorem State.txPut_pocket (s : State) (p q : Nat) (f : TxFrame) : (s.txPut p q f).pocket = s.pocket := (eventFrame_txPut s p q f).pocket
@[simp] theorem State.txPut_flash (s : State) (p q : Nat) (f : TxFrame) : (s.txPut p q f).flash = s.flash := (eventFrame_txPut s p q f).flash
@[simp] theorem State.txPut_matcher (s : State) (p q : Nat) (f : TxFrame) : (s.txPut p q f).matcher = s.matcher := (eventFrame_txPut s p q f).matcher
@[simp] theorem State.txPut_seals (s : State) (p q : Nat) (f : TxFrame) : (s.txPut p q f).seals = s.seals := (eventFrame_txPut s p q f).seals
@[simp] theorem State.txPut_power (s : State) (p q : Nat) (f : TxFrame) : (s.txPut p q f).power = s.power := (eventFrame_txPut s p q f).power
@[simp] theorem State.txPut_health (s : State) (p q : Nat) (f : TxFrame) : (s.txPut p q f).health = s.health := (eventFrame_txPut s p q f).health
@[simp] theorem State.txPut_fw (s : State) (p q : Nat) (f : TxFrame) : (s.txPut p q f).fw = s.fw := (eventFrame_txPut s p q f).fw
@[simp] theorem State.txPut_admin (s : State) (p q : Nat) (f : TxFrame) : (s.txPut p q f).admin = s.admin := (eventFrame_txPut s p q f).admin
@[simp] theorem State.txPut_pending (s : State) (p q : Nat) (f : TxFrame) : (s.txPut p q f).pending = s.pending := (eventFrame_txPut s p q f).pending
@[simp] theorem State.txPut_draws (s : State) (p q : Nat) (f : TxFrame) : (s.txPut p q f).draws = s.draws := (eventFrame_txPut s p q f).draws
theorem State.txPut_odGet (s : State) (p q : Nat) (f : TxFrame) (i : Nat) {x j : Nat} (hx : x < 65536) (hj : j < 256) (he : eventEntry x = false) :
    (s.txPut p q f).odGet i x j = s.odGet i x j := (eventFrame_txPut s p q f).od i x j hx hj he
theorem State.txPut_val (s : State) (p q : Nat) (f : TxFrame) {x : Nat} (hx : x < 65536) (he : eventEntry x = false) :
    (s.txPut p q f).val x = s.val x := (eventFrame_txPut s p q f).od 0 x 0 hx (by decide) he

@[simp] theorem State.canSend_hw (s : State) (n cob : Nat) (d : Bytes) : (s.canSend n cob d).hw = s.hw := (eventFrame_canSend s n cob d).hw
@[simp] theorem State.canSend_clock (s : State) (n cob : Nat) (d : Bytes) : (s.canSend n cob d).clock = s.clock := (eventFrame_canSend s n cob d).clock
@[simp] theorem State.canSend_seq (s : State) (n cob : Nat) (d : Bytes) : (s.canSend n cob d).seq = s.seq := (eventFrame_canSend s n cob d).seq
@[simp] theorem State.canSend_kv (s : State) (n cob : Nat) (d : Bytes) : (s.canSend n cob d).kv = s.kv := (eventFrame_canSend s n cob d).kv
@[simp] theorem State.canSend_pocket (s : State) (n cob : Nat) (d : Bytes) : (s.canSend n cob d).pocket = s.pocket := (eventFrame_canSend s n cob d).pocket
@[simp] theorem State.canSend_flash (s : State) (n cob : Nat) (d : Bytes) : (s.canSend n cob d).flash = s.flash := (eventFrame_canSend s n cob d).flash
@[simp] theorem State.canSend_matcher (s : State) (n cob : Nat) (d : Bytes) : (s.canSend n cob d).matcher = s.matcher := (eventFrame_canSend s n cob d).matcher
@[simp] theorem State.canSend_seals (s : State) (n cob : Nat) (d : Bytes) : (s.canSend n cob d).seals = s.seals := (eventFrame_canSend s n cob d).seals
@[simp] theorem State.canSend_power (s : State) (n cob : Nat) (d : Bytes) : (s.canSend n cob d).power = s.power := (eventFrame_canSend s n cob d).power
@[simp] theorem State.canSend_health (s : State) (n cob : Nat) (d : Bytes) : (s.canSend n cob d).health = s.health := (eventFrame_canSend s n cob d).health
@[simp] theorem State.canSend_fw (s : State) (n cob : Nat) (d : Bytes) : (s.canSend n cob d).fw = s.fw := (eventFrame_canSend s n cob d).fw
@[simp] theorem State.canSend_admin (s : State) (n cob : Nat) (d : Bytes) : (s.canSend n cob d).admin = s.admin := (eventFrame_canSend s n cob d).admin
@[simp] theorem State.canSend_pending (s : State) (n cob : Nat) (d : Bytes) : (s.canSend n cob d).pending = s.pending := (eventFrame_canSend s n cob d).pending
@[simp] theorem State.canSend_draws (s : State) (n cob : Nat) (d : Bytes) : (s.canSend n cob d).draws = s.draws := (eventFrame_canSend s n cob d).draws
theorem State.canSend_odGet (s : State) (n cob : Nat) (d : Bytes) (i : Nat) {x j : Nat} (hx : x < 65536) (hj : j < 256) (he : eventEntry x = false) :
    (s.canSend n cob d).odGet i x j = s.odGet i x j := (eventFrame_canSend s n cob d).od i x j hx hj he
theorem State.canSend_val (s : State) (n cob : Nat) (d : Bytes) {x : Nat} (hx : x < 65536) (he : eventEntry x = false) :
    (s.canSend n cob d).val x = s.val x := (eventFrame_canSend s n cob d).od 0 x 0 hx (by decide) he

@[simp] theorem State.canSendBoth_hw (s : State) (n cob : Nat) (d : Bytes) : (s.canSendBoth n cob d).hw = s.hw := (eventFrame_canSendBoth s n cob d).hw
@[simp] theorem State.canSendBoth_clock (s : State) (n cob : Nat) (d : Bytes) : (s.canSendBoth n cob d).clock = s.clock := (eventFrame_canSendBoth s n cob d).clock
@[simp] theorem State.canSendBoth_seq (s : State) (n cob : Nat) (d : Bytes) : (s.canSendBoth n cob d).seq = s.seq := (eventFrame_canSendBoth s n cob d).seq
@[simp] theorem State.canSendBoth_kv (s : State) (n cob : Nat) (d : Bytes) : (s.canSendBoth n cob d).kv = s.kv := (eventFrame_canSendBoth s n cob d).kv
@[simp] theorem State.canSendBoth_pocket (s : State) (n cob : Nat) (d : Bytes) : (s.canSendBoth n cob d).pocket = s.pocket := (eventFrame_canSendBoth s n cob d).pocket
@[simp] theorem State.canSendBoth_flash (s : State) (n cob : Nat) (d : Bytes) : (s.canSendBoth n cob d).flash = s.flash := (eventFrame_canSendBoth s n cob d).flash
@[simp] theorem State.canSendBoth_matcher (s : State) (n cob : Nat) (d : Bytes) : (s.canSendBoth n cob d).matcher = s.matcher := (eventFrame_canSendBoth s n cob d).matcher
@[simp] theorem State.canSendBoth_seals (s : State) (n cob : Nat) (d : Bytes) : (s.canSendBoth n cob d).seals = s.seals := (eventFrame_canSendBoth s n cob d).seals
@[simp] theorem State.canSendBoth_power (s : State) (n cob : Nat) (d : Bytes) : (s.canSendBoth n cob d).power = s.power := (eventFrame_canSendBoth s n cob d).power
@[simp] theorem State.canSendBoth_health (s : State) (n cob : Nat) (d : Bytes) : (s.canSendBoth n cob d).health = s.health := (eventFrame_canSendBoth s n cob d).health
@[simp] theorem State.canSendBoth_fw (s : State) (n cob : Nat) (d : Bytes) : (s.canSendBoth n cob d).fw = s.fw := (eventFrame_canSendBoth s n cob d).fw
@[simp] theorem State.canSendBoth_admin (s : State) (n cob : Nat) (d : Bytes) : (s.canSendBoth n cob d).admin = s.admin := (eventFrame_canSendBoth s n cob d).admin
@[simp] theorem State.canSendBoth_pending (s : State) (n cob : Nat) (d : Bytes) : (s.canSendBoth n cob d).pending = s.pending := (eventFrame_canSendBoth s n cob d).pending
@[simp] theorem State.canSendBoth_draws (s : State) (n cob : Nat) (d : Bytes) : (s.canSendBoth n cob d).draws = s.draws := (eventFrame_canSendBoth s n cob d).draws
theorem State.canSendBoth_odGet (s : State) (n cob : Nat) (d : Bytes) (i : Nat) {x j : Nat} (hx : x < 65536) (hj : j < 256) (he : eventEntry x = false) :
    (s.canSendBoth n cob d).odGet i x j = s.odGet i x j := (eventFrame_canSendBoth s n cob d).od i x j hx hj he
theorem State.canSendBoth_val (s : State) (n cob : Nat) (d : Bytes) {x : Nat} (hx : x < 65536) (he : eventEntry x = false) :
    (s.canSendBoth n cob d).val x = s.val x := (eventFrame_canSendBoth s n cob d).od 0 x 0 hx (by decide) he

@[simp] theorem State.emcyAll_hw (s : State) (code : Nat) (d : Bytes) : (s.emcyAll code d).hw = s.hw := (eventFrame_emcyAll s code d).hw
@[simp] theorem State.emcyAll_clock (s : State) (code : Nat) (d : Bytes) : (s.emcyAll code d).clock = s.clock := (eventFrame_emcyAll s code d).clock
@[simp] theorem State.emcyAll_seq (s : State) (code : Nat) (d : Bytes) : (s.emcyAll code d).seq = s.seq := (eventFrame_emcyAll s code d).seq
@[simp] theorem State.emcyAll_kv (s : State) (code : Nat) (d : Bytes) : (s.emcyAll code d).kv = s.kv := (eventFrame_emcyAll s code d).kv
@[simp] theorem State.emcyAll_pocket (s : State) (code : Nat) (d : Bytes) : (s.emcyAll code d).pocket = s.pocket := (eventFrame_emcyAll s code d).pocket
@[simp] theorem State.emcyAll_flash (s : State) (code : Nat) (d : Bytes) : (s.emcyAll code d).flash = s.flash := (eventFrame_emcyAll s code d).flash
@[simp] theorem State.emcyAll_matcher (s : State) (code : Nat) (d : Bytes) : (s.emcyAll code d).matcher = s.matcher := (eventFrame_emcyAll s code d).matcher
@[simp] theorem State.emcyAll_seals (s : State) (code : Nat) (d : Bytes) : (s.emcyAll code d).seals = s.seals := (eventFrame_emcyAll s code d).seals
@[simp] theorem State.emcyAll_power (s : State) (code : Nat) (d : Bytes) : (s.emcyAll code d).power = s.power := (eventFrame_emcyAll s code d).power
@[simp] theorem State.emcyAll_health (s : State) (code : Nat) (d : Bytes) : (s.emcyAll code d).health = s.health := (eventFrame_emcyAll s code d).health
@[simp] theorem State.emcyAll_fw (s : State) (code : Nat) (d : Bytes) : (s.emcyAll code d).fw = s.fw := (eventFrame_emcyAll s code d).fw
@[simp] theorem State.emcyAll_admin (s : State) (code : Nat) (d : Bytes) : (s.emcyAll code d).admin = s.admin := (eventFrame_emcyAll s code d).admin
@[simp] theorem State.emcyAll_pending (s : State) (code : Nat) (d : Bytes) : (s.emcyAll code d).pending = s.pending := (eventFrame_emcyAll s code d).pending
@[simp] theorem State.emcyAll_draws (s : State) (code : Nat) (d : Bytes) : (s.emcyAll code d).draws = s.draws := (eventFrame_emcyAll s code d).draws
theorem State.emcyAll_odGet (s : State) (code : Nat) (d : Bytes) (i : Nat) {x j : Nat} (hx : x < 65536) (hj : j < 256) (he : eventEntry x = false) :
    (s.emcyAll code d).odGet i x j = s.odGet i x j := (eventFrame_emcyAll s code d).od i x j hx hj he
theorem State.emcyAll_val (s : State) (code : Nat) (d : Bytes) {x : Nat} (hx : x < 65536) (he : eventEntry x = false) :
    (s.emcyAll code d).val x = s.val x := (eventFrame_emcyAll s code d).od 0 x 0 hx (by decide) he

@[simp] theorem State.emcyDrainAll_hw (s : State) : (s.emcyDrainAll).hw = s.hw := (eventFrame_emcyDrainAll s).hw
@[simp] theorem State.emcyDrainAll_clock (s : State) : (s.emcyDrainAll).clock = s.clock := (eventFrame_emcyDrainAll s).clock
@[simp] theorem State.emcyDrainAll_seq (s : State) : (s.emcyDrainAll).seq = s.seq := (eventFrame_emcyDrainAll s).seq
@[simp] theorem State.emcyDrainAll_kv (s : State) : (s.emcyDrainAll).kv = s.kv := (eventFrame_emcyDrainAll s).kv
@[simp] theorem State.emcyDrainAll_pocket (s : State) : (s.emcyDrainAll).pocket = s.pocket := (eventFrame_emcyDrainAll s).pocket
@[simp] theorem State.emcyDrainAll_flash (s : State) : (s.emcyDrainAll).flash = s.flash := (eventFrame_emcyDrainAll s).flash
@[simp] theorem State.emcyDrainAll_matcher (s : State) : (s.emcyDrainAll).matcher = s.matcher := (eventFrame_emcyDrainAll s).matcher
@[simp] theorem State.emcyDrainAll_seals (s : State) : (s.emcyDrainAll).seals = s.seals := (eventFrame_emcyDrainAll s).seals
@[simp] theorem State.emcyDrainAll_power (s : State) : (s.emcyDrainAll).power = s.power := (eventFrame_emcyDrainAll s).power
@[simp] theorem State.emcyDrainAll_health (s : State) : (s.emcyDrainAll).health = s.health := (eventFrame_emcyDrainAll s).health
@[simp] theorem State.emcyDrainAll_fw (s : State) : (s.emcyDrainAll).fw = s.fw := (eventFrame_emcyDrainAll s).fw
@[simp] theorem State.emcyDrainAll_admin (s : State) : (s.emcyDrainAll).admin = s.admin := (eventFrame_emcyDrainAll s).admin
@[simp] theorem State.emcyDrainAll_pending (s : State) : (s.emcyDrainAll).pending = s.pending := (eventFrame_emcyDrainAll s).pending
@[simp] theorem State.emcyDrainAll_draws (s : State) : (s.emcyDrainAll).draws = s.draws := (eventFrame_emcyDrainAll s).draws
theorem State.emcyDrainAll_odGet (s : State)  (i : Nat) {x j : Nat} (hx : x < 65536) (hj : j < 256) (he : eventEntry x = false) :
    (s.emcyDrainAll).odGet i x j = s.odGet i x j := (eventFrame_emcyDrainAll s).od i x j hx hj he
theorem State.emcyDrainAll_val (s : State)  {x : Nat} (hx : x < 65536) (he : eventEntry x = false) :
    (s.emcyDrainAll).val x = s.val x := (eventFrame_emcyDrainAll s).od 0 x 0 hx (by decide) he

@[simp] theorem State.startPort_hw (s : State) (p : Nat) : (s.startPort p).hw = s.hw := (eventFrame_startPort s p).hw
@[simp] theorem State.startPort_clock (s : State) (p : Nat) : (s.startPort p).clock = s.clock := (eventFrame_startPort s p).clock
@[simp] theorem State.startPort_seq (s : State) (p : Nat) : (s.startPort p).seq = s.seq := (eventFrame_startPort s p).seq
@[simp] theorem State.startPort_kv (s : State) (p : Nat) : (s.startPort p).kv = s.kv := (eventFrame_startPort s p).kv
@[simp] theorem State.startPort_pocket (s : State) (p : Nat) : (s.startPort p).pocket = s.pocket := (eventFrame_startPort s p).pocket
@[simp] theorem State.startPort_flash (s : State) (p : Nat) : (s.startPort p).flash = s.flash := (eventFrame_startPort s p).flash
@[simp] theorem State.startPort_matcher (s : State) (p : Nat) : (s.startPort p).matcher = s.matcher := (eventFrame_startPort s p).matcher
@[simp] theorem State.startPort_seals (s : State) (p : Nat) : (s.startPort p).seals = s.seals := (eventFrame_startPort s p).seals
@[simp] theorem State.startPort_power (s : State) (p : Nat) : (s.startPort p).power = s.power := (eventFrame_startPort s p).power
@[simp] theorem State.startPort_health (s : State) (p : Nat) : (s.startPort p).health = s.health := (eventFrame_startPort s p).health
@[simp] theorem State.startPort_fw (s : State) (p : Nat) : (s.startPort p).fw = s.fw := (eventFrame_startPort s p).fw
@[simp] theorem State.startPort_admin (s : State) (p : Nat) : (s.startPort p).admin = s.admin := (eventFrame_startPort s p).admin
@[simp] theorem State.startPort_pending (s : State) (p : Nat) : (s.startPort p).pending = s.pending := (eventFrame_startPort s p).pending
@[simp] theorem State.startPort_draws (s : State) (p : Nat) : (s.startPort p).draws = s.draws := (eventFrame_startPort s p).draws
theorem State.startPort_odGet (s : State) (p : Nat) (i : Nat) {x j : Nat} (hx : x < 65536) (hj : j < 256) (he : eventEntry x = false) :
    (s.startPort p).odGet i x j = s.odGet i x j := (eventFrame_startPort s p).od i x j hx hj he
theorem State.startPort_val (s : State) (p : Nat) {x : Nat} (hx : x < 65536) (he : eventEntry x = false) :
    (s.startPort p).val x = s.val x := (eventFrame_startPort s p).od 0 x 0 hx (by decide) he

@[simp] theorem State.linkLost_hw (s : State) (p : Nat) : (s.linkLost p).hw = s.hw := (linkFrame_linkLost s p).hw
@[simp] theorem State.linkLost_clock (s : State) (p : Nat) : (s.linkLost p).clock = s.clock := (linkFrame_linkLost s p).clock
@[simp] theorem State.linkLost_seq (s : State) (p : Nat) : (s.linkLost p).seq = s.seq := (linkFrame_linkLost s p).seq
@[simp] theorem State.linkLost_kv (s : State) (p : Nat) : (s.linkLost p).kv = s.kv := (linkFrame_linkLost s p).kv
@[simp] theorem State.linkLost_pocket (s : State) (p : Nat) : (s.linkLost p).pocket = s.pocket := (linkFrame_linkLost s p).pocket
@[simp] theorem State.linkLost_flash (s : State) (p : Nat) : (s.linkLost p).flash = s.flash := (linkFrame_linkLost s p).flash
@[simp] theorem State.linkLost_matcher (s : State) (p : Nat) : (s.linkLost p).matcher = s.matcher := (linkFrame_linkLost s p).matcher
@[simp] theorem State.linkLost_seals (s : State) (p : Nat) : (s.linkLost p).seals = s.seals := (linkFrame_linkLost s p).seals
@[simp] theorem State.linkLost_power (s : State) (p : Nat) : (s.linkLost p).power = s.power := (linkFrame_linkLost s p).power
@[simp] theorem State.linkLost_health (s : State) (p : Nat) : (s.linkLost p).health = s.health := (linkFrame_linkLost s p).health
@[simp] theorem State.linkLost_fw (s : State) (p : Nat) : (s.linkLost p).fw = s.fw := (linkFrame_linkLost s p).fw
@[simp] theorem State.linkLost_admin (s : State) (p : Nat) : (s.linkLost p).admin = s.admin := (linkFrame_linkLost s p).admin
@[simp] theorem State.linkLost_pending (s : State) (p : Nat) : (s.linkLost p).pending = s.pending := (linkFrame_linkLost s p).pending
@[simp] theorem State.linkLost_draws (s : State) (p : Nat) : (s.linkLost p).draws = s.draws := (linkFrame_linkLost s p).draws
theorem State.linkLost_odGet (s : State) (p : Nat) (i : Nat) {x j : Nat} (hx : x < 65536) (hj : j < 256) (he : eventEntry x = false) :
    (s.linkLost p).odGet i x j = s.odGet i x j := (linkFrame_linkLost s p).od i x j hx hj he
theorem State.linkLost_val (s : State) (p : Nat) {x : Nat} (hx : x < 65536) (he : eventEntry x = false) :
    (s.linkLost p).val x = s.val x := (linkFrame_linkLost s p).od 0 x 0 hx (by decide) he

@[simp] theorem State.holdDown_hw (s : State) (p : Nat) : (s.holdDown p).hw = s.hw := (linkFrame_holdDown s p).hw
@[simp] theorem State.holdDown_clock (s : State) (p : Nat) : (s.holdDown p).clock = s.clock := (linkFrame_holdDown s p).clock
@[simp] theorem State.holdDown_seq (s : State) (p : Nat) : (s.holdDown p).seq = s.seq := (linkFrame_holdDown s p).seq
@[simp] theorem State.holdDown_kv (s : State) (p : Nat) : (s.holdDown p).kv = s.kv := (linkFrame_holdDown s p).kv
@[simp] theorem State.holdDown_pocket (s : State) (p : Nat) : (s.holdDown p).pocket = s.pocket := (linkFrame_holdDown s p).pocket
@[simp] theorem State.holdDown_flash (s : State) (p : Nat) : (s.holdDown p).flash = s.flash := (linkFrame_holdDown s p).flash
@[simp] theorem State.holdDown_matcher (s : State) (p : Nat) : (s.holdDown p).matcher = s.matcher := (linkFrame_holdDown s p).matcher
@[simp] theorem State.holdDown_seals (s : State) (p : Nat) : (s.holdDown p).seals = s.seals := (linkFrame_holdDown s p).seals
@[simp] theorem State.holdDown_power (s : State) (p : Nat) : (s.holdDown p).power = s.power := (linkFrame_holdDown s p).power
@[simp] theorem State.holdDown_health (s : State) (p : Nat) : (s.holdDown p).health = s.health := (linkFrame_holdDown s p).health
@[simp] theorem State.holdDown_fw (s : State) (p : Nat) : (s.holdDown p).fw = s.fw := (linkFrame_holdDown s p).fw
@[simp] theorem State.holdDown_admin (s : State) (p : Nat) : (s.holdDown p).admin = s.admin := (linkFrame_holdDown s p).admin
@[simp] theorem State.holdDown_pending (s : State) (p : Nat) : (s.holdDown p).pending = s.pending := (linkFrame_holdDown s p).pending
@[simp] theorem State.holdDown_draws (s : State) (p : Nat) : (s.holdDown p).draws = s.draws := (linkFrame_holdDown s p).draws
theorem State.holdDown_odGet (s : State) (p : Nat) (i : Nat) {x j : Nat} (hx : x < 65536) (hj : j < 256) (he : eventEntry x = false) :
    (s.holdDown p).odGet i x j = s.odGet i x j := (linkFrame_holdDown s p).od i x j hx hj he
theorem State.holdDown_val (s : State) (p : Nat) {x : Nat} (hx : x < 65536) (he : eventEntry x = false) :
    (s.holdDown p).val x = s.val x := (linkFrame_holdDown s p).od 0 x 0 hx (by decide) he

@[simp] theorem State.notices_hw (s : State) (src sev : Nat) (ps : List (BitVec 32)) : (s.notices src sev ps).hw = s.hw := (eventFrame_notices s src sev ps).hw
@[simp] theorem State.notices_clock (s : State) (src sev : Nat) (ps : List (BitVec 32)) : (s.notices src sev ps).clock = s.clock := (eventFrame_notices s src sev ps).clock
@[simp] theorem State.notices_seq (s : State) (src sev : Nat) (ps : List (BitVec 32)) : (s.notices src sev ps).seq = s.seq := (eventFrame_notices s src sev ps).seq
@[simp] theorem State.notices_kv (s : State) (src sev : Nat) (ps : List (BitVec 32)) : (s.notices src sev ps).kv = s.kv := (eventFrame_notices s src sev ps).kv
@[simp] theorem State.notices_pocket (s : State) (src sev : Nat) (ps : List (BitVec 32)) : (s.notices src sev ps).pocket = s.pocket := (eventFrame_notices s src sev ps).pocket
@[simp] theorem State.notices_flash (s : State) (src sev : Nat) (ps : List (BitVec 32)) : (s.notices src sev ps).flash = s.flash := (eventFrame_notices s src sev ps).flash
@[simp] theorem State.notices_matcher (s : State) (src sev : Nat) (ps : List (BitVec 32)) : (s.notices src sev ps).matcher = s.matcher := (eventFrame_notices s src sev ps).matcher
@[simp] theorem State.notices_seals (s : State) (src sev : Nat) (ps : List (BitVec 32)) : (s.notices src sev ps).seals = s.seals := (eventFrame_notices s src sev ps).seals
@[simp] theorem State.notices_power (s : State) (src sev : Nat) (ps : List (BitVec 32)) : (s.notices src sev ps).power = s.power := (eventFrame_notices s src sev ps).power
@[simp] theorem State.notices_health (s : State) (src sev : Nat) (ps : List (BitVec 32)) : (s.notices src sev ps).health = s.health := (eventFrame_notices s src sev ps).health
@[simp] theorem State.notices_fw (s : State) (src sev : Nat) (ps : List (BitVec 32)) : (s.notices src sev ps).fw = s.fw := (eventFrame_notices s src sev ps).fw
@[simp] theorem State.notices_admin (s : State) (src sev : Nat) (ps : List (BitVec 32)) : (s.notices src sev ps).admin = s.admin := (eventFrame_notices s src sev ps).admin
@[simp] theorem State.notices_pending (s : State) (src sev : Nat) (ps : List (BitVec 32)) : (s.notices src sev ps).pending = s.pending := (eventFrame_notices s src sev ps).pending
@[simp] theorem State.notices_draws (s : State) (src sev : Nat) (ps : List (BitVec 32)) : (s.notices src sev ps).draws = s.draws := (eventFrame_notices s src sev ps).draws
theorem State.notices_odGet (s : State) (src sev : Nat) (ps : List (BitVec 32)) (i : Nat) {x j : Nat} (hx : x < 65536) (hj : j < 256) (he : eventEntry x = false) :
    (s.notices src sev ps).odGet i x j = s.odGet i x j := (eventFrame_notices s src sev ps).od i x j hx hj he
theorem State.notices_val (s : State) (src sev : Nat) (ps : List (BitVec 32)) {x : Nat} (hx : x < 65536) (he : eventEntry x = false) :
    (s.notices src sev ps).val x = s.val x := (eventFrame_notices s src sev ps).od 0 x 0 hx (by decide) he

end Sys2Proof.Machine
end

