-- ==== Sys2Proof/Laws/Kv.lean ====
section
/-! SUPPORT. Key-value commands: what the version of a key is after a write, and what a command that runs, is fenced or
fails its checks comes to. -/

namespace Sys2Proof.Machine

/-- A later version than all of a list is the latest of the list and it. -/
theorem foldl_laterOf_append (l : List Version) (v : Version) (a : Option Version) (ha : ∀ w ∈ a, w.stamp.csn < v.stamp.csn)
    (h : ∀ w ∈ l, w.stamp.csn < v.stamp.csn) : (l ++ [v]).foldl laterOf a = some v := by
  induction l generalizing a with
  | nil =>
    cases a with
    | none => rfl
    | some w => simp [laterOf, ha w rfl]
  | cons w l ih =>
    refine ih (laterOf a w) ?_ (fun x hx => h x (List.mem_cons_of_mem _ hx))
    intro x hx
    cases a with
    | none => simp [laterOf] at hx; exact hx ▸ h w (by simp)
    | some y =>
      simp only [laterOf] at hx
      split at hx
      · simp at hx; exact hx ▸ h w (by simp)
      · simp at hx; exact hx ▸ ha y rfl

theorem State.versionAt_congr {s t : State} (h : t.kv.versions = s.kv.versions) (ns : Nat) (key : Bytes) (c : Nat) :
    t.versionAt ns key c = s.versionAt ns key c := by simp [State.versionAt, h]

/-- The version just written is the newest of its key, when it is later than every other (R211). -/
theorem State.versionAt_addVersion_same (s : State) (v : Version) (rs : List Record) (c : Nat) (hc : v.stamp.csn < c)
    (h : ∀ w ∈ s.kv.versions, w.ns = v.ns → w.key = v.key → w.stamp.csn < v.stamp.csn) :
    (s.addVersion v rs).versionAt v.ns v.key c = some v := by
  simp only [State.addVersion, State.versionAt, List.filter_append]
  have : [v].filter (fun w => w.ns == v.ns && decide (w.stamp.csn < c) && w.key == v.key) = [v] := by simp [hc]
  rw [this]
  refine foldl_laterOf_append _ v none (by simp) (fun w hw => ?_)
  simp only [List.mem_filter, Bool.and_eq_true, beq_iff_eq, decide_eq_true_eq] at hw
  exact h w hw.1 hw.2.1.1 hw.2.2

/-- A write leaves every other key's version (R211). -/
theorem State.versionAt_addVersion_other (s : State) (v : Version) (rs : List Record) (ns : Nat) (key : Bytes) (c : Nat)
    (h : ns ≠ v.ns ∨ key ≠ v.key) : (s.addVersion v rs).versionAt ns key c = s.versionAt ns key c := by
  simp only [State.addVersion, State.versionAt, List.filter_append]
  have : [v].filter (fun w => w.ns == ns && decide (w.stamp.csn < c) && w.key == key) = [] := by
    simp only [List.filter_cons, List.filter_nil]
    rcases h with h | h
    · simp [Ne.symm h]
    · simp [Ne.symm h]
  rw [this, List.append_nil]

/-- A command that runs takes its effect and retires (R164, R201). -/
theorem runKv_of_runs {s : State} {n : Nat} {acc : Cmd → Bool} (h : s.runs n acc) (f : Slot → Cmd → State → State × Reply) :
    s.runKv n acc f = (f (s.slot n) (s.cmdOf n) s).1.retire n (s.slot n) (s.cmdOf n) (f (s.slot n) (s.cmdOf n) s).2 := by
  obtain ⟨h1, h2, h3, h4, h5⟩ := h
  simp only [State.cmdOf] at *
  simp [State.runKv, h1, h2, h3, h4, h5]

/-- What `valueAt` finds is the version, visible at the command's clock. -/
theorem State.valueAt_eq_some {s : State} {ns : Nat} {key : Bytes} {c k : Nat} {v : Version} :
    s.valueAt ns key c k = some v ↔ s.versionAt ns key c = some v ∧ s.visibleAt c k v = true := by
  simp only [State.valueAt]
  split
  · rename_i w hw
    split
    · rename_i hv
      simp only [hw, Option.some.injEq]
      exact ⟨fun e => ⟨e, e ▸ hv⟩, fun e => e.1⟩
    · rename_i hv
      simp only [hw, Option.some.injEq, reduceCtorEq, false_iff]
      rintro ⟨rfl, h⟩
      exact hv h
  · rename_i hw
    simp [hw]

theorem mem_foldl_laterOf (l : List Version) (a : Option Version) (v : Version) (h : l.foldl laterOf a = some v) :
    v ∈ l ∨ a = some v := by
  induction l generalizing a with
  | nil => exact .inr h
  | cons w l ih =>
    rcases ih _ h with h1 | h1
    · exact .inl (List.mem_cons_of_mem _ h1)
    · cases a with
      | none => simp [laterOf] at h1; exact .inl (by simp [h1])
      | some x =>
        simp only [laterOf] at h1
        split at h1
        · simp at h1; exact .inl (by simp [h1])
        · exact .inr h1

/-- The version found at a key is one of that key. -/
theorem State.versionAt_key {s : State} {ns : Nat} {key : Bytes} {c : Nat} {v : Version} (h : s.versionAt ns key c = some v) :
    v ∈ s.kv.versions ∧ v.ns = ns ∧ v.key = key ∧ v.stamp.csn < c := by
  rcases mem_foldl_laterOf _ _ _ h with h1 | h1
  · simp only [List.mem_filter, Bool.and_eq_true, beq_iff_eq, decide_eq_true_eq] at h1
    exact ⟨h1.1, h1.2.1.1, h1.2.2, h1.2.1.2⟩
  · simp at h1

theorem State.target_key {s : State} {n : Nat} {v : Version} (h : s.target n = some v) :
    v.ns = (s.cmdOf n).ns ∧ v.key = (s.cmdOf n).key :=
  have h1 := State.versionAt_key (State.valueAt_eq_some.1 h).1
  ⟨h1.2.1, h1.2.2.1⟩

@[simp] theorem State.startRoutine_kv (s : State) (r : Routine) (c k : Nat) : (s.startRoutine r c k).kv = s.kv := by
  unfold State.startRoutine
  split <;> rfl

/-- A routine that starts changes the slots only. -/
theorem State.startRoutine_groups (s : State) (r : Routine) (c k : Nat) : OnlyGroups [.seq] s (s.startRoutine r c k) := by
  unfold State.startRoutine
  split <;> intro g hg <;> cases g <;> first | rfl | simp at hg

theorem OnlyGroups.trans {gs : List Group} {s t u : State} (h : OnlyGroups gs s t) (k : OnlyGroups gs t u) : OnlyGroups gs s u := by
  intro g hg
  have h1 := h g hg
  have h2 := k g hg
  cases g <;> exact h2.trans h1

theorem OnlyGroups.mono {gs hs : List Group} {s t : State} (h : OnlyGroups gs s t) (hh : ∀ g ∈ gs, g ∈ hs) : OnlyGroups hs s t :=
  fun g hg => h g (fun e => hg (hh g e))

theorem OnlyGroups.refl (gs : List Group) (s : State) : OnlyGroups gs s s := by
  intro g _
  cases g <;> rfl

end Sys2Proof.Machine
end

