-- ==== Sys2Proof/Laws/Extents.lean ====
section
/-! SUPPORT. The bytes of extent objects: what an address reads as after bytes are laid over a range or cut out. -/

namespace Sys2Proof.Machine

/-- The first cell of an address survives a filter that keeps that address. -/
theorem find?_addr_filter (cells : List ExtCell) (q : ExtCell → Bool) (a : Nat) (h : ∀ c ∈ cells, c.addr = a → q c = true) :
    (cells.filter q).find? (fun c => c.addr == a) = cells.find? (fun c => c.addr == a) := by
  induction cells with
  | nil => rfl
  | cons c cs ih =>
    have ih := ih (fun d hd => h d (List.mem_cons_of_mem _ hd))
    by_cases hq : q c = true
    · simp [hq, List.find?_cons, ih]
    · have : c.addr ≠ a := fun e => hq (h c (by simp) e)
      simp [hq, this, ih]

theorem find?_addr_filter_none (cells : List ExtCell) (q : ExtCell → Bool) (a : Nat) (h : ∀ c ∈ cells, c.addr = a → q c = false) :
    (cells.filter q).find? (fun c => c.addr == a) = none := by
  simp only [List.find?_eq_none, List.mem_filter, beq_iff_eq]
  rintro x ⟨h1, h2⟩ h3
  simp [h x h1 h3] at h2

/-- The cell that bytes laid from `off` put at an address. -/
theorem find?_cellsFrom (frag : Nat) (bs : Bytes) (off a : Nat) :
    (cellsFrom frag off bs).find? (fun c => c.addr == a) =
      if off ≤ a ∧ a < off + bs.length then some ⟨a, bs.getD (a - off) 0, frag⟩ else none := by
  induction bs generalizing off with
  | nil => simp [cellsFrom]
  | cons b bs ih =>
    simp only [cellsFrom, List.find?_cons]
    by_cases h : off = a
    · subst h; simp
    · have : (off == a) = false := by simp [h]
      simp only [this, ih]
      by_cases h2 : off + 1 ≤ a ∧ a < off + 1 + bs.length
      · have h3 : off ≤ a ∧ a < off + (b :: bs).length := by simp; omega
        rw [if_pos h2, if_pos h3]
        have : a - off = (a - (off + 1)) + 1 := by omega
        simp [this]
      · have h3 : ¬ (off ≤ a ∧ a < off + (b :: bs).length) := by simp; omega
        rw [if_neg h2, if_neg h3]

/-- A write over a range places its bytes there and leaves every other byte (R65). -/
theorem cellByte_writeCells (cells : List ExtCell) (frag off : Nat) (bs : Bytes) (a : Nat) :
    cellByte (writeCells cells frag off bs) a =
      if off ≤ a ∧ a < off + bs.length then bs.getD (a - off) 0 else cellByte cells a := by
  simp only [cellByte, writeCells, List.find?_append, find?_cellsFrom]
  by_cases h : off ≤ a ∧ a < off + bs.length
  · rw [find?_addr_filter_none _ _ _ (by intro c _ e; simp; omega)]
    simp [h]
  · rw [if_neg h, if_neg h]
    by_cases h2 : a < off
    · rw [find?_addr_filter cells _ a (by intro c _ e; simp; omega),
        find?_addr_filter_none cells _ a (by intro c _ e; simp; omega)]
      simp
    · rw [find?_addr_filter_none cells _ a (by intro c _ e; simp; omega),
        find?_addr_filter cells _ a (by intro c _ e; simp; omega)]
      simp

/-- A filter of the cells leaves the bytes it keeps, and zero where it keeps none (R66). -/
theorem cellByte_filter (cells : List ExtCell) (q : Nat → Bool) (a : Nat) :
    cellByte (cells.filter (fun c => q c.addr)) a = if q a = true then cellByte cells a else 0 := by
  simp only [cellByte]
  split
  · rename_i h
    rw [find?_addr_filter cells _ a (by rintro c _ rfl; exact h)]
  · rename_i h
    rw [find?_addr_filter_none cells _ a (by rintro c _ rfl; simpa using h)]
    rfl

theorem readCells_length (cells : List ExtCell) (a n : Nat) : (readCells cells a n).length = n := by
  induction n generalizing a with
  | zero => rfl
  | succ n ih => simp [readCells, ih]

theorem readCells_getD (cells : List ExtCell) (a n k : Nat) (h : k < n) :
    (readCells cells a n).getD k 0 = cellByte cells (a + k) := by
  induction n generalizing a k with
  | zero => omega
  | succ n ih =>
    cases k with
    | zero => simp [readCells]
    | succ k =>
      have := ih (a + 1) k (by omega)
      simpa [readCells, Nat.add_assoc, Nat.add_comm 1 k] using this

theorem extent?_payload (v : Version) (e : Extent) :
    ({ v with payload := e.payload } : Version).extent? =
      some { e with frags := e.frags.filter (fun f => e.cells.any (fun c => c.frag == f.csn)) } := rfl

/-- A change of versions that keeps namespace, key and stamp changes the version found alike. -/
theorem State.versionAt_map (s t : State) (f : Version → Version)
    (hf : ∀ v, (f v).ns = v.ns ∧ (f v).key = v.key ∧ (f v).stamp = v.stamp) (ht : t.kv.versions = s.kv.versions.map f)
    (ns : Nat) (key : Bytes) (c : Nat) : t.versionAt ns key c = (s.versionAt ns key c).map f := by
  have hfold : ∀ (l : List Version) (a : Option Version),
      (l.map f).foldl laterOf (a.map f) = (l.foldl laterOf a).map f := by
    intro l
    induction l with
    | nil => intro a; rfl
    | cons w l ih =>
      intro a
      have h1 : laterOf (a.map f) (f w) = (laterOf a w).map f := by
        cases a with
        | none => rfl
        | some x =>
          simp only [laterOf, Option.map_some, (hf x).2.2, (hf w).2.2]
          split <;> rfl
      simpa [h1] using ih (laterOf a w)
  simp only [State.versionAt, ht, List.filter_map]
  have h2 := hfold (s.kv.versions.filter (fun v => v.ns == ns && decide (v.stamp.csn < c) && v.key == key)) none
  simp only [Option.map_none] at h2
  rw [← h2]
  congr 2
  exact List.filter_congr (fun v _ => by simp [hf v])

end Sys2Proof.Machine
end

