-- ==== Sys2Proof/Tests/Slice0.lean ====
section
/-! SUPPORT. Tests: commands that are not well formed, one for each check of WellFormed; single steps on small states, their expected
results from the spec; and for each statement a state and operands that meet its hypotheses. -/

namespace Sys2Proof.Machine.Tests

-- one theorem after another: each of them waits for the kernel
set_option Elab.async false

/-! ## Well-formedness: one term that each check refuses -/

theorem test_wf_slots : (Instr.put 447).wf = false ∧ (Instr.put 446).wf = true ∧ (Instr.hold 448).wf = false
    ∧ (Instr.hold 447).wf = true ∧ (Instr.supSlotTimeout 447).wf = false ∧ (Instr.supSlotTimeout 383).wf = false
    ∧ (Instr.tuckHoleOpen 500).wf = false := by decide

theorem test_wf_namespaces : (Instr.sealSigned 15).wf = false ∧ (Instr.sealSigned 16).wf = true
    ∧ (Instr.valueExpiry 16 []).wf = false ∧ (Instr.valueExpiry 3 [1]).wf = false := by decide

theorem test_wf_datagrams :
    (Instr.hello { port := 0, physical := 1, src := 0, srcPort := 0, dg := { type := 1 } }).wf = true
    ∧ (Instr.hello { port := 0, physical := 2, src := 0, srcPort := 0, dg := { type := 1 } }).wf = false
    ∧ (Instr.hello { port := 0, physical := 0, src := 0, srcPort := 0, dg := { type := 6 } }).wf = false
    ∧ (Instr.commandDatagram { port := 0, physical := 0, src := 0, srcPort := 0, dg := { type := 4 } }).wf = false
    ∧ (Instr.frameReceive 0 { len := 64, pcp := 3, carried := .arp }).wf = false
    ∧ (Instr.responseHoldExpiry 0 0).wf = false ∧ (Instr.cursorIdleExpiry 0).wf = false := by decide

theorem test_wf_ports : (Instr.linkUp 0 0).wf = false ∧ (Instr.pfcReceived 0 0 [0]).wf = false ∧ (Instr.macTc10Wake 1).wf = false
    ∧ (Instr.takeoverDelayExpiry 0).wf = false ∧ (Instr.takeoverAnnounceRepeat 4).wf = false ∧ (Instr.takebackDelayExpiry 1).wf = false
    ∧ (Instr.portStatsClear .supervisor 0 0 0).wf = false := by decide

theorem test_wf_can : (Instr.nmtStart 0 128).wf = false ∧ (Instr.sdoDownloadInitiate 0 0x2100 0 none false [0, 0, 0, 0, 0]).wf = false
    ∧ (Instr.rpdo 0 0 [0, 0, 0, 0, 0, 0, 0, 0, 0]).wf = false ∧ (Instr.canRxOverrun 0 0).wf = false
    ∧ (Instr.lssSwitchState 0 false (some [0, 0, 0, 0])).wf = false ∧ (Instr.lssFastscan 0 0 32 0 0).wf = false := by decide

theorem test_wf_others : (Instr.scapMeasurement [] [] 0).wf = false ∧ (Instr.humiditySample 101).wf = false
    ∧ (Instr.seamRegisterAccess { address := 4, write := false, value := 0, partition := true, writable := true, keyMaterial := false }).wf
        = false
    ∧ (Instr.seamSlotSubmit 0 []).wf = false ∧ (Instr.seamDegraded false false).wf = false ∧ (Instr.eventRaise 0 [0, 0, 0, 0]).wf = false
    ∧ (Instr.perfSelect .supervisor 0 0).wf = false ∧ (Instr.attestNonce .supervisor []).wf = false
    ∧ (Instr.listDefine .supervisor 0).wf = false ∧ (Instr.fwImageWrite .supervisor 0 [] true).wf = false
    ∧ (Instr.fwVrfy .supervisor (some (0, 0))).wf = false ∧ (Instr.fwVrfy .supervisor (some (5, 1))).wf = false ∧ (Instr.fwSelftestFail 0).wf = false := by decide

/-! ## States and operands that meet what each statement asks -/

/-- A COMMAND body (Table 4.1). -/
def msg (op cflags ns : Nat) (key params data : Bytes) : Bytes :=
  toBE 1 op ++ toBE 1 cflags ++ toBE 2 ns ++ toBE 1 key.length ++ toBE 1 params.length ++ [0, 0] ++ toBE 4 data.length
    ++ key ++ params ++ data

/-- A module that serves. -/
def up : State :=
  { State.reset with
    power := { phase := .running, firstOpen := true, inputValid := true, matcherReady := true, bankMj := 60000 }
    clock := { dt := 5000, expiry := 5000, te := 1, running := true }
    seam := { up := true, attached := true, attachedSe := 2 }
    kv := { loaded := true }
    seq := { csnLast := 20, blockHigh := some 0 }
    od := { vals := [(odKey 0 Od.INTAKE_STATE 0, 0)] } }

/-- A slot that executes a command. -/
def slotOf (m : Bytes) : Slot := { state := .executing, csn := 9, msgLen := m.length, frags := [(0, m)], params := { state := 1 } }

/-- A value of namespace 16. -/
def ver (key : Bytes) (p : Payload) : Version := { ns := 16, key := key, stamp := ⟨1, 100, 5⟩, createCsn := 5, payload := p }

/-- A store with a slot that executes a command. -/
def kvState (m : Bytes) (vs : List Version) : State := { up with kv := { up.kv with versions := vs }, seq := { up.seq with slots := [(3, slotOf m)] } }

/-- A plain value at key 1. -/
def plain1 : Version := ver [1] (.plain [6])
/-- A counter at key 1. -/
def counter1 (k : Int) (m : CtrMode) : Version := ver [1] (.counter k m)
/-- The bytes of an object: three mapped, the length 6. -/
def ext1 : Extent := { cells := [⟨0, 7, 5⟩, ⟨1, 8, 5⟩, ⟨4, 9, 5⟩], length := 6, closed := none, frags := [⟨5, 1, 100, 3, 256⟩] }
/-- An object at key 1. -/
def object1 : Version := ver [1] (.extent ext1.cells ext1.length ext1.closed ext1.frags)
/-- A store whose object at key 1 has a writer, handle 3 of context 0. -/
def writing (m : Bytes) : State := let s := kvState m [object1]; { s with kv := { s.kv with writers := [⟨0, 16, [1], 3, 5, 2, none⟩] } }
/-- HANDLE 3 and its reserved bytes. -/
def handle3 : Bytes := toBE 4 3 ++ [0, 0, 0, 0]

def put1 : State := kvState (msg 1 0 16 [1] (toBE 8 0) [7]) []
def cput1 : State := kvState (msg 2 0 16 [1] (toBE 8 0 ++ toBE 8 5) [7]) [plain1]

theorem meets_PutStoresValue :
    (put1.runs 3 (isOp 0x01) ∧ put1.target 3 = none ∧ bitOf 0 (put1.slot 3).params.kinds = true ∧ put1.restricted (put1.slot 3) = false
      ∧ put1.roomFor (put1.slot 3) (put1.cmdOf 3) (put1.countsAsNew (put1.cmdOf 3) (put1.target 3))
        (byteGrowth (put1.cmdOf 3) (if put1.countsAsNew (put1.cmdOf 3) (put1.target 3) then none else put1.target 3) (put1.cmdOf 3).dataLen) = none
      ∧ put1.latest 3)
    ∧ (cput1.runs 3 (isOp 0x02) ∧ (∀ v ∈ cput1.target 3, payloadKind v.payload = 1 ∧ cput1.heldAt (cput1.slot 3).csn v.stamp.csn = false)
      ∧ cput1.restricted (cput1.slot 3) = false ∧ (cput1.cmdOf 3).param 8 8 = ((cput1.target 3).map (·.stamp.csn)).getD 0
      ∧ (cput1.slot 3).params.writeOnce = false
      ∧ cput1.roomFor (cput1.slot 3) (cput1.cmdOf 3) (cput1.countsAsNew (cput1.cmdOf 3) (cput1.target 3))
        (byteGrowth (cput1.cmdOf 3) (if cput1.countsAsNew (cput1.cmdOf 3) (cput1.target 3) then none else cput1.target 3)
          (cput1.cmdOf 3).dataLen) = none
      ∧ cput1.latest 3) := by
  unfold State.runs State.latest
  try dsimp only
  and_intros <;> decide +kernel

/-- DELETE, and CDELETE of version 5. -/
def delete1 (vs : List Version) : State := kvState (msg 5 0 16 [1] [] []) vs
def cdelete1 : State := kvState (msg 6 0 16 [1] (toBE 8 5) []) [plain1]

theorem meets_DeleteLeavesTombstone :
    ((delete1 []).runs 3 (isOp 0x05) ∧ (delete1 []).restricted ((delete1 []).slot 3) = false ∧ (delete1 []).target 3 = none)
    ∧ (∀ p ∈ [(0x05, delete1 [plain1]), (0x06, cdelete1)], let s := p.2
      s.runs 3 (isOp p.1) ∧ s.restricted (s.slot 3) = false ∧ s.target 3 = some plain1
        ∧ s.heldAt (s.slot 3).csn plain1.stamp.csn = false ∧ (s.slot 3).params.writeOnce = false
        ∧ s.writerOf? (s.slot 3).csn plain1 = none ∧ s.latest 3)
    ∧ (cdelete1.cmdOf 3).param 0 8 = plain1.stamp.csn := by
  unfold State.runs State.latest
  try dsimp only
  and_intros <;> decide +kernel

/-- The record of version 5, somewhere. -/
def record1 (n : Nat) (loc : Loc) (bin : Option Nat) : Record :=
  { csn := 5, te := 1, dt := 100, ns := 16, key := [1], placed := n, expiry := none, loc := loc, bin := bin, small := false }
/-- The records of a store stand somewhere. -/
def stored (s : State) (loc : Loc) : State := { s with kv := { s.kv with records := [record1 256 loc none] } }

def get1 : State := kvState (msg 3 8 16 [1] [] []) [plain1]
def getmeta1 : State := kvState (msg 4 0 16 [1] [] []) [plain1]
def cread1 : State := kvState (msg 0x22 0 16 [1] [] []) [counter1 4 .wrap]

theorem meets_ReadsAnswerAndChangeNothing :
    (∀ s ∈ [get1, stored get1 (.flash 1), stored get1 .lost], s.runs 3 (isOp 0x03) ∧ s.target 3 = some plain1)
    ∧ plain1.payload = .plain [6] ∧ (get1.getFailsOn 3 none = none ∧ get1.lost plain1 = false ∧ get1.stripeOf? plain1.stamp.csn = none)
    ∧ (stored get1 .lost).lost plain1 = true ∧ (stored get1 (.flash 1)).getFailsOn 3 (some 0) = some 0
    ∧ (getmeta1.target 3 = some plain1 ∧ getmeta1.lost plain1 = false ∧ (stored getmeta1 .lost).lost plain1 = true)
    ∧ (∀ s ∈ [getmeta1, stored getmeta1 .lost], s.runs 3 (isOp 0x04))
    ∧ (∀ s ∈ [cread1, stored cread1 .lost], s.target 3 = some (counter1 4 .wrap) ∧ s.runs 3 (isOp 0x22))
    ∧ (cread1.lost (counter1 4 .wrap) = false ∧ (stored cread1 .lost).lost (counter1 4 .wrap) = true
      ∧ (counter1 4 .wrap).payload = .counter 4 .wrap)
    ∧ (∀ p ∈ [(0x03, msg 3 0 16 [1] [] []), (0x04, msg 4 0 16 [1] [] []), (0x22, msg 0x22 0 16 [1] [] [])],
      (kvState p.2 []).target 3 = none ∧ (kvState p.2 []).runs 3 (isOp p.1)) := by
  unfold State.runs
  and_intros <;> decide +kernel

/-- CADD of `d` to a counter that holds `k`, or to an absent key. -/
def cadd1 (v : Option (Int × CtrMode)) (d : Int) : State :=
  kvState (msg 0x20 0 16 [1] (toBE 8 0 ++ toBE 8 (unsigned 64 d)) []) (v.map (fun p => counter1 p.1 p.2)).toList
/-- CBADD of `d` within 0 and 9. -/
def cbadd1 (k d : Int) : State :=
  kvState (msg 0x21 0 16 [1] (toBE 8 0 ++ toBE 8 (unsigned 64 d) ++ toBE 8 0 ++ toBE 8 9) []) [counter1 k .refuse]
def cset1 : State := kvState (msg 0x24 0 16 [1] (toBE 8 0 ++ toBE 8 7) []) [counter1 4 .wrap]
def creadreset1 : State := kvState (msg 0x23 0 16 [1] [] []) [counter1 4 .wrap]

/-- What CountersCount asks of the store. -/
def counterReady (s : State) (k : Int) (m : CtrMode) : Bool :=
  (match s.target 3 with
    | some v => v.payload == .counter k m && !s.heldAt (s.slot 3).csn v.stamp.csn && !s.lost v
    | none => bitOf 2 (s.slot 3).params.kinds && k == 0 && m == newMode (s.slot 3) (s.cmdOf 3))
  && !s.restricted (s.slot 3)
  && s.roomFor (s.slot 3) (s.cmdOf 3) (s.target 3).isNone (byteGrowth (s.cmdOf 3) (s.target 3) 8) == none

theorem counterReady_meets (s : State) (k : Int) (m : CtrMode) (h : counterReady s k m = true) :
    s.counterAt 3 k m ∧ s.restricted (s.slot 3) = false
      ∧ s.roomFor (s.slot 3) (s.cmdOf 3) (s.target 3).isNone (byteGrowth (s.cmdOf 3) (s.target 3) 8) = none := by
  unfold counterReady at h
  unfold State.counterAt
  split at h <;> simp_all

theorem meets_CountersCount :
    (counterReady (cadd1 (some (2, .wrap)) 3) 2 .wrap = true ∧ (cadd1 (some (2, .wrap)) 3).latest 3
      ∧ (cadd1 (some (2, .wrap)) 3).runs 3 (isOp 0x20) ∧ counterFits (2 + ((cadd1 (some (2, .wrap)) 3).cmdOf 3).paramInt 8) = true)
    ∧ (counterReady (cadd1 none 3) 0 .saturate = true ∧ (cadd1 none 3).latest 3 ∧ (cadd1 none 3).runs 3 (isOp 0x20))
    ∧ (∀ m ∈ [CtrMode.wrap, .saturate, .refuse], let s := cadd1 (some (2 ^ 63 - 1, m)) 3
      counterReady s (2 ^ 63 - 1) m = true ∧ s.latest 3 ∧ s.runs 3 (isOp 0x20)
        ∧ counterFits (2 ^ 63 - 1 + (s.cmdOf 3).paramInt 8) = false)
    ∧ (let s := cbadd1 4 5
      counterReady s 4 .refuse = true ∧ s.latest 3 ∧ s.runs 3 (isOp 0x21) ∧ (s.cmdOf 3).paramInt 16 ≤ 4 + (s.cmdOf 3).paramInt 8
        ∧ 4 + (s.cmdOf 3).paramInt 8 ≤ (s.cmdOf 3).paramInt 24)
    ∧ (let s := cbadd1 4 6
      counterReady s 4 .refuse = true ∧ s.latest 3 ∧ s.runs 3 (isOp 0x21)
        ∧ ¬ ((s.cmdOf 3).paramInt 16 ≤ 4 + (s.cmdOf 3).paramInt 8 ∧ 4 + (s.cmdOf 3).paramInt 8 ≤ (s.cmdOf 3).paramInt 24))
    ∧ (counterReady cset1 4 .wrap = true ∧ cset1.latest 3 ∧ cset1.runs 3 (isOp 0x24))
    ∧ (counterReady creadreset1 4 .wrap = true ∧ creadreset1.latest 3 ∧ creadreset1.runs 3 (isOp 0x23)
      ∧ (creadreset1.target 3).isSome = true) := by
  unfold State.runs State.latest
  try dsimp only
  and_intros <;> decide +kernel

/-- XOPEN with a MODE. -/
def xopen1 (mode : Nat) (vs : List Version) : State := kvState (msg 0x10 0 16 [1] (toBE 1 mode ++ toBE 7 0 ++ toBE 8 0) []) vs
/-- XOPEN with MODE 1 of an object whose handle its session holds, or another. -/
def xopen2 (session : BitVec 32) : State :=
  let s := xopen1 1 [object1]
  { s with kv := { s.kv with writers := [⟨session, 16, [1], 3, 5, 2, none⟩] } }
/-- XCLOSE by the holder of the handle, in a write-once namespace or not. -/
def xclose1 (once : Bool) : State :=
  let s := writing (msg 0x15 0 16 [1] handle3 [])
  s.setSlot 3 { s.slot 3 with params := { state := 1, writeOnce := once } }

theorem object1_extent : object1.extent? = some ext1 := rfl

theorem meets_ObjectsOpenAndClose :
    ((xopen1 0 [object1]).runs 3 (fun c => c.opcode == 0x10 && c.param 0 1 != 1) ∧ (xopen1 0 [object1]).target 3 = some object1)
    ∧ ((xopen1 1 [object1]).runs 3 (fun c => c.opcode == 0x10 && c.param 0 1 == 1) ∧ (xopen1 1 [object1]).target 3 = some object1
      ∧ (xopen1 1 [object1]).heldAt ((xopen1 1 [object1]).slot 3).csn object1.stamp.csn = false ∧ ext1.closed = none
      ∧ (xopen1 1 [object1]).writerOf? ((xopen1 1 [object1]).slot 3).csn object1 = none ∧ (xopen1 1 [object1]).val Od.HEALTH_STATE ≠ 6)
    ∧ ((xopen2 0).runs 3 (fun c => c.opcode == 0x10 && c.param 0 1 == 1) ∧ (xopen2 0).target 3 = some object1
      ∧ (xopen2 0).writerOf? ((xopen2 0).slot 3).csn object1 = some ⟨0, 16, [1], 3, 5, 2, none⟩ ∧ ((xopen2 0).slot 3).session = 0)
    ∧ ((xopen2 9).runs 3 (fun c => c.opcode == 0x10 && c.param 0 1 == 1) ∧ (xopen2 9).target 3 = some object1
      ∧ (xopen2 9).writerOf? ((xopen2 9).slot 3).csn object1 = some ⟨9, 16, [1], 3, 5, 2, none⟩ ∧ ((xopen2 9).slot 3).session = 0)
    ∧ ((xopen1 1 []).runs 3 (fun c => c.opcode == 0x10 && c.param 0 1 == 1) ∧ (xopen1 1 []).target 3 = none
      ∧ bitOf 1 ((xopen1 1 []).slot 3).params.kinds = true ∧ (xopen1 1 []).restricted ((xopen1 1 []).slot 3) = false
      ∧ (xopen1 1 []).roomFor ((xopen1 1 []).slot 3) ((xopen1 1 []).cmdOf 3) true ((xopen1 1 []).cmdOf 3).key.length = none
      ∧ (xopen1 1 []).latest 3)
    ∧ (∀ b, (xclose1 b).runs 3 (isOp 0x15) ∧ (xclose1 b).target 3 = some object1
      ∧ (xclose1 b).holdsHandle ((xclose1 b).slot 3) ((xclose1 b).cmdOf 3) object1 = true ∧ ((xclose1 b).slot 3).params.writeOnce = b) := by
  unfold State.runs State.latest
  try dsimp only
  and_intros <;> decide +kernel

def xwrite1 : State := writing (msg 0x11 0 16 [1] (handle3 ++ toBE 8 5) [1, 2])
def xappend1 : State := writing (msg 0x12 0 16 [1] handle3 [1, 2])

theorem meets_ObjectWritesPlaceBytes :
    (∀ p ∈ [(0x11, xwrite1, 5), (0x12, xappend1, 6)], let s := p.2.1
      s.runs 3 (isOp p.1) ∧ s.target 3 = some object1 ∧ s.restricted (s.slot 3) = false ∧ s.heldAt (s.slot 3).csn object1.stamp.csn = false
        ∧ s.holdsHandle (s.slot 3) (s.cmdOf 3) object1 = true ∧ (s.slot 3).params.writeOnce = false
        ∧ s.roomFor (s.slot 3) (s.cmdOf 3) false (((s.cmdOf 3).dataLen : Int) - 0) = none ∧ s.latest 3
        ∧ (writeCells ext1.cells (s.slot 3).csn p.2.2 (s.cmdOf 3).data).length ≤ 1048576)
    ∧ (xwrite1.cmdOf 3).param 8 8 = 5 ∧ (xwrite1.cmdOf 3).dataLen = 2
    ∧ (ext1.cells.filter (fun k => 5 ≤ k.addr && k.addr < 5 + 2)).length = 0
    ∧ (ext1.cells.filter (fun k => ext1.length ≤ k.addr && k.addr < ext1.length + 2)).length = 0 := by
  unfold State.runs State.latest
  try dsimp only
  and_intros <;> decide +kernel

/-- XPUNCH of a length from 1 on, and TRUNCATE to a length. -/
def xpunch1 (n : Nat) : State := writing (msg 0x14 0 16 [1] (handle3 ++ toBE 8 1 ++ toBE 8 n) [])
def truncate1 (n : Nat) : State := writing (msg 0x16 0 16 [1] (handle3 ++ toBE 8 n) [])
def xread1 : State := kvState (msg 0x13 0 16 [1] (toBE 8 1 ++ toBE 8 3) []) [object1]

theorem meets_ObjectRangesReadAndDiscard :
    (∀ p ∈ [(0x14, xpunch1 4), (0x14, xpunch1 0), (0x16, truncate1 2), (0x16, truncate1 6)], let s := p.2
      s.target 3 = some object1 ∧ s.latest 3 ∧ (s.slot 3).params.writeOnce = false ∧ s.restricted (s.slot 3) = false
        ∧ s.heldAt (s.slot 3).csn object1.stamp.csn = false ∧ s.holdsHandle (s.slot 3) (s.cmdOf 3) object1 = true ∧ s.runs 3 (isOp p.1))
    ∧ (0 < ((xpunch1 4).cmdOf 3).param 16 8 ∧ ((xpunch1 0).cmdOf 3).param 16 8 = 0
      ∧ ((truncate1 2).cmdOf 3).param 8 8 ≠ ext1.length ∧ ((truncate1 6).cmdOf 3).param 8 8 = ext1.length)
    ∧ (∀ s ∈ [xread1, stored xread1 .lost, stored xread1 (.flash 1)], s.target 3 = some object1 ∧ s.runs 3 (isOp 0x13))
    ∧ (xread1.xreadFailsOn 3 none = none ∧ ∀ k ∈ ext1.cells, xread1.fragLost k.frag = false)
    ∧ ((stored xread1 .lost).xreadFailsOn 3 none = none ∧ (⟨1, 8, 5⟩ : ExtCell) ∈ ext1.cells ∧ (xread1.cmdOf 3).param 0 8 ≤ 1
      ∧ 1 < (xread1.cmdOf 3).param 0 8 + (xreadBytes ext1 ((xread1.cmdOf 3).param 0 8) ((xread1.cmdOf 3).param 8 8)).length
      ∧ (stored xread1 .lost).fragLost 5 = true)
    ∧ (stored xread1 (.flash 1)).xreadFailsOn 3 (some 0) = some 0 := by
  unfold State.runs State.latest
  try dsimp only
  and_intros <;> decide +kernel

/-- HOLD of the value at key 1, and of every value of namespace 16. -/
def hold1 : State := kvState (msg 0x30 0 16 [1] (toBE 8 0 ++ toBE 8 0 ++ toBE 8 (2 ^ 64 - 1)) []) [plain1]
def hold2 : State :=
  let s := kvState (msg 0x30 0 16 [] (toBE 1 2 ++ toBE 7 0 ++ toBE 8 0 ++ toBE 8 (2 ^ 64 - 1)) []) [plain1]
  { s with kv := { s.kv with loaded := false } }
def manyHolds : State := { hold1 with kv := { hold1.kv with holds := List.replicate 4096 ⟨1, [16], [], 0, none⟩ } }
/-- UNHOLD of a hold that covers namespace 16; the access list at its binding lets the slot's session hold. -/
def unhold1 (there : Bool) : State :=
  let s := kvState (msg 0x31 0 16 [] (toBE 8 7) []) [plain1]
  let t := s.setSlot 3 { s.slot 3 with access := [(odKey 16 Od.NS_ACCESS 1, 1 * 2 ^ 50 + 0xFFF * 2 ^ 36 + 0x200)] }
  { t with kv := { t.kv with holds := if there then [⟨7, [16], [5], 1, none⟩] else [] } }

theorem meets_HoldsPinAndRelease :
    (∀ s ∈ [hold1, hold2], s.runs 3 (isOp 0x30) ∧ (s.slot 3).incident = none ∧ (s.slot 3).routine = none ∧ s.activeHolds.length < 4096)
    ∧ ((hold1.cmdOf 3).param 0 1 = 0 ∧ (hold2.cmdOf 3).param 0 1 ≠ 0 ∧ hold2.val Od.HEALTH_STATE ≠ 6 ∧ hold2.val Od.CIPHER_CORES ≠ 0)
    ∧ (manyHolds.runs 3 (isOp 0x30) ∧ (manyHolds.slot 3).incident = none ∧ (manyHolds.slot 3).routine = none
      ∧ 4096 ≤ manyHolds.activeHolds.length)
    ∧ (∀ b, (unhold1 b).runs 3 (isOp 0x31) ∧ ((unhold1 b).slot 3).incident = none ∧ ((unhold1 b).slot 3).routine = none)
    ∧ ((unhold1 true).activeHolds.find? (fun k => k.csn == ((unhold1 true).cmdOf 3).param 0 8) = some ⟨7, [16], [5], 1, none⟩
      ∧ [16].contains ((unhold1 true).cmdOf 3).ns = true
      ∧ [16].all (fun ns => (unhold1 true).holdGranted ((unhold1 true).slot 3) ns) = true)
    ∧ (∀ h ∈ (unhold1 false).activeHolds, h.csn ≠ ((unhold1 false).cmdOf 3).param 0 8) := by
  unfold State.runs
  and_intros <;> decide +kernel

/-- A state with one slot, 3. -/
def holding (s : State) (x : Slot) : State := { s with seq := { s.seq with slots := [(3, x)] } }

def subscribe1 : State := kvState (msg 0x41 0 16 [] (List.replicate 32 255) []) []
def barrier1 : State := kvState (msg 0x50 0 0 [] [] []) []
def flush1 : State := kvState (msg 0x51 0 0 [] [] []) []
/-- FLUSH while a record of a lower CSN has not left the Pocket. -/
def flush2 : State := { flush1 with pocket := { flush1.pocket with journal := [{ type := 1, csn := 8 }] } }
def flushDone1 : State := { flush1 with seq := { flush1.seq with flushing := [9] } }
def fenceClear1 : State :=
  (kvState (msg 0x52 0 0 [] (toBE 4 5 ++ [0, 0, 0, 0]) []) []).setSession 0 { fence := some (5, St.NOT_FOUND), fencedCount := 2 }

/-- A command of a session that has ended. -/
def ended (s : State) : State := s.setSlot 3 { s.slot 3 with session := sessionId 0 1 }

theorem meets_SessionCommandsComplete :
    (subscribe1.runs 3 (isOp 0x41) ∧ subscribe1.sessionLives (subscribe1.slot 3) = true
      ∧ (subscribe1.subscribers.filter (fun k => k != (subscribe1.slot 3).context)).length < 256)
    ∧ ((ended subscribe1).runs 3 (isOp 0x41) ∧ (ended subscribe1).sessionLives ((ended subscribe1).slot 3) = false)
    ∧ barrier1.runs 3 (isOp 0x50)
    ∧ (flush1.runs 3 (isOp 0x51) ∧ flush1.flushedBelow (flush1.slot 3).csn = true)
    ∧ (flush2.runs 3 (isOp 0x51) ∧ flush2.flushedBelow (flush2.slot 3).csn = false)
    ∧ (flushDone1.runs 3 (isOp 0x51) ∧ flushDone1.seq.flushing.contains (flushDone1.slot 3).csn = true
      ∧ flushDone1.flushedBelow (flushDone1.slot 3).csn = true)
    ∧ (fenceClear1.runs 3 (isOp 0x52) ∧ fenceClear1.sameSession (fenceClear1.slot 3) = true
      ∧ (fenceClear1.session (fenceClear1.slot 3).context).fence = some (5, St.NOT_FOUND) ∧ (fenceClear1.cmdOf 3).param 0 4 = 5)
    ∧ ((ended fenceClear1).runs 3 (isOp 0x52) ∧ (ended fenceClear1).sameSession ((ended fenceClear1).slot 3) = false) := by
  unfold State.runs
  and_intros <;> decide +kernel

/-- Slot 0 of the matcher is a Tuck list, LIST_ID 1, of 8 places, with entries at addresses 0 to 2 that match any class 0. -/
def entry1 : MatchEntry := { keyValue := 65536, keyMask := 65535, action := 5, listNum := 0 }
def tuck (s : State) (size : Nat) (m : SMap MatchEntry) : State :=
  { ((s.odPut 0 Od.LIST_ID 0 1).odPut 0 Od.LIST_SIZE 0 size).setVal Od.MATCH_ENABLE 1 with matcher := { entries := m } }
def three : SMap MatchEntry := [(0, entry1), (1, entry1), (2, entry1)]
/-- TOKEN_QUERY of a class. -/
def query1 (cls : Nat) : State := tuck (kvState (msg 0x38 0 0 [] (toBE 16 7 ++ toBE 2 1 ++ toBE 2 cls ++ [0, 0, 0, 0]) []) []) 8 three

theorem meets_QueryAnswersLowestMatch :
    (∀ cls ∈ [0, 1], (query1 cls).runs 3 (isOp 0x38) ∧ ((query1 cls).slot 3).denied = false
      ∧ SMap.rising (query1 cls).matcher.entries = true)
    ∧ (SMap.get? (query1 0).matcher.entries 0 = some entry1
      ∧ entryHit ((query1 0).val Od.MATCH_ENABLE)
        (searchKey (((query1 0).cmdOf 3).param 0 16) (((query1 0).cmdOf 3).param 16 2) (((query1 0).cmdOf 3).param 18 2)) entry1 = true
      ∧ ∀ b, (0 : Nat) ≤ b)
    ∧ (∀ b f, SMap.get? (query1 1).matcher.entries b = some f → ¬ entryHit ((query1 1).val Od.MATCH_ENABLE)
        (searchKey (((query1 1).cmdOf 3).param 0 16) (((query1 1).cmdOf 3).param 16 2) (((query1 1).cmdOf 3).param 18 2)) f = true) := by
  unfold State.runs
  refine ⟨by decide +kernel, ⟨by decide +kernel, by decide +kernel, Nat.zero_le⟩, fun b f h => ?_⟩
  have e : f = entry1 := by
    change SMap.get? three b = some f at h
    simp only [three, SMap.get?] at h
    repeat' split at h
    all_goals simp_all
  subst e
  decide +kernel

/-- TOKEN_EDIT of LIST_ID 1. -/
def edit1 (op rank : Nat) : Bytes :=
  msg 0x39 0 0 [] (toBE 1 op ++ [0] ++ toBE 2 1 ++ toBE 4 rank ++ toBE 20 0 ++ toBE 20 65535 ++ toBE 8 77) []
def editState (op rank : Nat) : State := tuck (kvState (edit1 op rank) []) 8 three
/-- MATCH_ACCESS did not grant it; a query with a lower CSN is bound; the list is a Pleat list; it has an open hole. -/
def denyEdit (op : Nat) : State := let s := editState op 1; s.setSlot 3 { s.slot 3 with denied := true }
def heldEdit (op : Nat) : State := (editState op 1).setSlot 4 { slotOf (msg 0x38 0 0 [] [] []) with csn := 8 }
def pleatEdit (op : Nat) : State := (tuck (kvState (edit1 op 1) []) 32 three).odPut 0 Od.LIST_MODE 0 1
def holeEdit : State := let s := editState 1 1; { s with matcher := { s.matcher with holes := [(0, 1)], busy := [(0, 1)] } }

theorem meets_TokenEditsChangeTheirEntry :
    (∀ op ∈ [1, 2, 3], (editState op 1).editHeld 3 = false ∧ ((editState op 1).slot 3).denied = false
      ∧ (editState op 1).val Od.HEALTH_STATE ≠ 6 ∧ (denyEdit op).editHeld 3 = false ∧ ((denyEdit op).slot 3).denied = true
      ∧ (heldEdit op).editHeld 3 = true)
    ∧ (∀ s ∈ [editState 1 1, denyEdit 1, heldEdit 1, pleatEdit 1, holeEdit], s.runs 3 (isEdit (fun op => op != 2 && op != 3)))
    ∧ (∀ s ∈ [editState 2 1, denyEdit 2, heldEdit 2], s.runs 3 (isEdit (fun op => op == 2)))
    ∧ (∀ s ∈ [editState 3 1, editState 3 2, denyEdit 3, heldEdit 3, pleatEdit 3], s.runs 3 (isEdit (fun op => op == 3)))
    ∧ (∀ s ∈ [editState 1 1, holeEdit, pleatEdit 1], s.listOf? (editList (s.cmdOf 3)) = some 0
      ∧ (s.cmdOf 3).param 4 4 ≤ (s.listEntries 0).length ∧ (s.listEntries 0).length < s.listRoom 0
      ∧ s.editHeld 3 = false ∧ (s.slot 3).denied = false)
    ∧ (holeEdit.isPleat 0 = false ∧ SMap.get? holeEdit.matcher.holes 0 = some 1)
    ∧ ((editState 1 1).isPleat 0 = false ∧ SMap.get? (editState 1 1).matcher.holes 0 = none)
    ∧ (pleatEdit 1).isPleat 0 = true
    ∧ (editState 2 1).editTarget? ((editState 2 1).cmdOf 3) = some (0, 1, entry1)
    ∧ ((editState 3 1).editTarget? ((editState 3 1).cmdOf 3) = some (0, 1, entry1) ∧ (editState 3 1).isPleat 0 = false
      ∧ SMap.get? (SMap.erase (editState 3 1).matcher.entries 1) 2 = some entry1
      ∧ (editState 3 2).editTarget? ((editState 3 2).cmdOf 3) = some (0, 2, entry1)
      ∧ SMap.get? (SMap.erase (editState 3 2).matcher.entries 2) 3 = none)
    ∧ ((pleatEdit 3).editTarget? ((pleatEdit 3).cmdOf 3) = some (0, 1, entry1) ∧ (pleatEdit 3).isPleat 0 = true
      ∧ (pleatEdit 3).editHeld 3 = false ∧ ((pleatEdit 3).slot 3).denied = false) := by
  unfold State.runs
  and_intros <;> decide +kernel

theorem get?_range' (e : MatchEntry) (n : Nat) : ∀ a j, a ≤ j → j < a + n →
    SMap.get? ((List.range' a n).map (fun i => (i, e))) j = some e := by
  induction n with
  | zero => intro a j h k; omega
  | succ n ih =>
    intro a j h k
    rw [List.range'_succ, List.map_cons, SMap.get?]
    split
    · rfl
    · exact ih (a + 1) j (by omega) (by omega)

theorem moveDown_full (e : MatchEntry) (n : Nat) : ∀ (m : SMap MatchEntry) gap limit, gap + n < limit →
    (∀ j, gap < j → j ≤ gap + n → SMap.get? m j = some e) → (moveDown n m gap limit).2.2 = n := by
  induction n with
  | zero => intros; rfl
  | succ n ih =>
    intro m gap limit hl hm
    rw [moveDown, if_neg (by omega), hm (gap + 1) (by omega) (by omega)]
    dsimp only
    rw [ih _ _ _ (by omega) (fun j h1 h2 => ?_)]
    rw [SMap.get?_erase_other _ (by omega), SMap.get?_put_other _ _ (by omega)]
    exact hm j (by omega) (by omega)

/-- An access entry that lets every session do everything. -/
def openAcl : Nat := (2 ^ 6 - 1) * 2 ^ 50 + 0xFFF * 2 ^ 36 + 0xFFF
/-- A FILLED slot with a whole message. -/
def filledSlot (m : Bytes) : Slot := { slotOf m with state := .filled, csn := 0 }
def hole1 : State := (tuck (holding up (filledSlot (edit1 1 1))) 8 three).odPut 0 Od.MATCH_ACCESS 1 openAcl
/-- A list that closes up: its free place lies below `k` entries. -/
def closing1 (k : Nat) : State :=
  let s := tuck up 4000 ((List.range' 1 k).map (fun i => (i, entry1)))
  { s with matcher := { s.matcher with busy := [(0, 2)], holes := [(0, 0)] } }
/-- A list that is re-pleated, with no full segment; one whose first of two segments is full, and one whose second is. -/
def repleating (m : SMap MatchEntry) : State :=
  let s := (tuck up 32 m).odPut 0 Od.LIST_MODE 0 1
  { s with matcher := { s.matcher with busy := [(0, 3)] } }
def repleat1 : State := repleating three
def repleat2 : State := repleating ((List.range 16).map (fun i => (i, entry1)))
def repleat3 : State := repleating ((0, entry1) :: (List.range' 16 16).map (fun i => (i, entry1)))

theorem meets_MatcherRoutinesStep :
    (SMap.rising three = true ∧ SMap.get? three 3 = none)
    ∧ hole1.opensHole 3 (hole1.slot 3) (hole1.cmdOf 3) = some 0
    ∧ (moveUp 1024 hole1.matcher.entries ((SMap.get? hole1.matcher.holes 0).getD (hole1.listBase 0 + (hole1.listEntries 0).length))
        (hole1.listBase 0 + (hole1.cmdOf 3).param 4 4)).2.1 ≤ hole1.listBase 0 + (hole1.cmdOf 3).param 4 4
    ∧ (∀ k, SMap.get? (closing1 k).matcher.holes 0 = some 0 ∧ (closing1 k).listBusy 0 = 2)
    ∧ (moveDown 1024 (closing1 2).matcher.entries 0 ((closing1 2).listBase 0 + (closing1 2).listSize 0)).2.2 < 1024
    ∧ 1024 ≤ (moveDown 1024 (closing1 1024).matcher.entries 0 ((closing1 1024).listBase 0 + (closing1 1024).listSize 0)).2.2
    ∧ (repleat1.listBusy 0 = 3 ∧ repleat1.fullSegments 0 = [])
    ∧ (repleat2.listBusy 0 = 3 ∧ ((repleat2.fullSegments 0).filter (repleat2.roomAfter 0)).getLast? = some 0)
    ∧ (repleat3.listBusy 0 = 3 ∧ (repleat3.fullSegments 0).filter (repleat3.roomAfter 0) = []
      ∧ (repleat3.fullSegments 0).head? = some 16 ∧ repleat3.listBase 0 < 16) := by
  have h : (moveDown 1024 (closing1 1024).matcher.entries 0 4000).2.2 = 1024 :=
    by
    refine moveDown_full entry1 1024 _ 0 4000 (by omega) (fun j h1 h2 => ?_)
    rw [show (closing1 1024).matcher.entries = (List.range' 1 1024).map (fun i => (i, entry1)) from rfl]
    exact get?_range' entry1 1024 1 j h1 (by omega)
  refine ⟨by decide +kernel, by decide +kernel, by decide +kernel, fun k => ⟨rfl, rfl⟩, by decide +kernel, ?_, by decide +kernel,
    by decide +kernel, by decide +kernel⟩
  exact Nat.le_of_eq (by rw [show (closing1 1024).listBase 0 + (closing1 1024).listSize 0 = 4000 by decide +kernel, h])

/-- A FILLED slot that binds, and one whose session is fenced. -/
def bind1 : State := holding up (filledSlot (msg 0x50 0 0 [] [] []))
def bind2 : State :=
  (holding up { filledSlot (msg 0x50 0 0 [] [] []) with session := sessionId 0 1, ordered := true, tag := 6 }).setSession 0
    { state := .isOpen, gen := 1, ordered := true, fence := some (5, St.NOT_FOUND), seenTags := [0, 1, 2, 3, 4, 5], highTag := 5 }
/-- Intake is paused: the slot stays. -/
def bind3 : State := bind1.setVal Od.INTAKE_STATE 1
/-- A GET before the directory is loaded; an unknown opcode; a command behind one that met the conditions before. -/
def bind4 : State :=
  let s := holding up { filledSlot (msg 3 0 16 [1] [] []) with session := sessionId 0 1 }
  { s with kv := { s.kv with loaded := false } }
def bind5 : State := holding up (filledSlot (msg 0x4F 0 0 [] [] []))
def bind6 : State := { bind1 with seq := { bind1.seq with slots := [(2, filledSlot (msg 0x50 0 0 [] [] [])), (3, bind1.slot 3)] } }

theorem meets_BindingStampsCommand :
    (bind1.bindable 3 ∧ bind1.fenceAtBind (bind1.slot 3) = none ∧ (opInfo? (bind1.cmdOf 3).opcode).isSome = true
      ∧ bind1.nextCsn < 2 ^ 64)
    ∧ (bind2.bindable 3 ∧ bind2.fenceAtBind (bind2.slot 3) = some (5, St.NOT_FOUND) ∧ bind2.nextCsn < 2 ^ 64)
    ∧ (bind5.bindable 3 ∧ bind5.fenceAtBind (bind5.slot 3) = none ∧ opInfo? (bind5.cmdOf 3).opcode = none ∧ bind5.nextCsn < 2 ^ 64)
    ∧ (bind4.inTurn 3 (bind4.slot 3) = true ∧ bind4.unboundRefusal (bind4.slot 3) (bind4.cmdOf 3) = some St.WAKING)
    ∧ bind3.inTurn 3 (bind3.slot 3) = false
    ∧ (bind6.unboundRefusal (bind6.slot 3) (bind6.cmdOf 3) = none ∧ ¬ bind6.bindable 3) := by
  unfold State.bindable
  and_intros <;> decide +kernel

/-- A PUT of a fenced session, and one for a namespace that is not active. -/
def check1 : State :=
  (holding up { slotOf (msg 1 0 16 [1] (toBE 8 0) [7]) with session := sessionId 0 1, ordered := true, tag := 6 }).setSession 0
    { state := .isOpen, gen := 1, ordered := true, fence := some (5, St.NOT_FOUND) }
def check2 : State := holding up { slotOf (msg 1 0 16 [1] (toBE 8 0) [7]) with params := { state := 0 }, ope := some 4, supTag := some 9 }
def check3 : State := check1.setSession 0 { check1.session 0 with fence := none }

theorem meets_ChecksComeFirstAndRetiringFreesSlot :
    kvRow (.put 3) = some (3, isOp 0x01)
    ∧ (∀ s ∈ [check1, check2], (s.slot 3).state = .executing ∧ (s.slot 3).retry = none
      ∧ isOp 0x01 (s.cmdOf 3) = true)
    ∧ check1.fencesSlot (check1.slot 3) = some (5, St.NOT_FOUND)
    ∧ (check2.fencesSlot (check2.slot 3) = none ∧ check2.gate (check2.slot 3) (check2.cmdOf 3) = some St.BAD_NAMESPACE)
    ∧ ((check2.slot 3).ope = some 4 ∧ (check2.slot 3).session = 0 ∧ (check2.slot 3).supTag = some 9
      ∧ retireRecord (check2.slot 3) (check2.cmdOf 3) { status := St.DONE } = none)
    ∧ ((retireRecord (check3.slot 3) (check3.cmdOf 3) { status := St.NOT_FOUND }).isSome = true ∧ check3.val Od.HEALTH_STATE ≠ 6
      ∧ check3.val Od.CIPHER_CORES ≠ 0 ∧ (check3.slot 3).session ≠ 0 ∧ (check3.slot 3).ordered = true
      ∧ failsFence (check3.cmdOf 3).opcode (Reply.final { status := St.NOT_FOUND }) = true
      ∧ Reply.final { status := St.NOT_FOUND } ≠ St.FENCED ∧ check3.sameSession (check3.slot 3) = true
      ∧ (check3.session (check3.slot 3).context).fence = none ∧ (check3.session (check3.slot 3).context).state = .isOpen) := by
  refine ⟨rfl, ?_⟩
  and_intros <;> decide +kernel

def boundSlot : Slot := { slotOf (msg 0x50 0 0 [] [] []) with state := .bound }
def dispatch1 : State := holding up boundSlot
/-- The slot behind one of a higher priority. -/
def dispatch2 : State := { dispatch1 with seq := { dispatch1.seq with engines := [(0, { slot := some 8 })] } }
def longStep (k : Nat) : State := holding up { slotOf [] with routine := some .patrol, stepsLeft := k + 1 }
/-- A tag below has not come: the ordered command of the session waits. -/
def gap1 : State :=
  (holding up { filledSlot (msg 0x50 0 0 [] [] []) with session := sessionId 0 1, ordered := true, tag := 6 }).setSession 0
    { state := .isOpen, gen := 1, ordered := true, highTag := 6 }
def part1 : State := holding up { filledSlot (msg 0x50 0 0 [] [] []) with frags := [(0, [0x50])] }

/-- A HOLD that scans. -/
def scan1 : State := holding up { slotOf [] with routine := some (.holdScan 9) }

theorem meets_SlotsAdvance :
    (dispatch1.dispatchable 3 (dispatch1.slot 3) = true ∧ (dispatch1.slot 3).mchkOn.contains 0 = false
      ∧ dispatch1.seq.slots.any (fun p => p.1 != 3 && goesBefore p.2 (dispatch1.slot 3) && dispatch1.dispatchable p.1 p.2) = false
      ∧ (dispatch1.engine 0).inService = true ∧ (dispatch1.engine 0).retired = false ∧ (dispatch1.engine 0).reloading = false
      ∧ (dispatch1.engine 0).slot = none ∧ dispatch1.seq.stopped = false ∧ dispatch1.power.engine = .run)
    ∧ ((scan1.dispatchable 3 (scan1.slot 3) = false) ∧ (dispatch2.engine 0).slot ≠ none ∧ (dispatch1.slot 3).state = .bound)
    ∧ (∀ k ∈ [0, 1], ((longStep k).slot 3).state = .executing ∧ ((longStep k).slot 3).routine = some .patrol
      ∧ ((longStep k).slot 3).stepsLeft = k + 1 ∧ (longStep k).backgroundRuns = true)
    ∧ (∀ h, Routine.patrol ≠ .holdScan h)
    ∧ ((scan1.slot 3).state = .executing ∧ (scan1.slot 3).routine = some (.holdScan 9) ∧ scan1.kv.loaded = true
      ∧ scan1.live = true ∧ scan1.admin.pauseStage ≤ 2)
    ∧ ((barrier1.slot 3).state = .executing ∧ (barrier1.slot 3).routine = none)
    ∧ ((gap1.slot 3).state = .filled ∧ slotComplete (gap1.slot 3) = true ∧ gap1.waitsForTag 3 (gap1.slot 3) = true)
    ∧ ((part1.slot 3).state = .filled ∧ slotComplete (part1.slot 3) = false) := by
  refine ⟨?_, ?_, ?_, fun h => Routine.noConfusion, ?_, ?_, ?_, ?_⟩
  all_goals and_intros <;> decide +kernel

/-! ## Sessions -/

/-- A datagram from a source, as port P1 receives it. -/
def rx1 (type : Byte) (sid : BitVec 32) (payload : Bytes) (port : Fin 7 := 0) (secured : Bool := false) : Rx :=
  { port := port, physical := port, udp := if port = 6 then 7313 else 7311, src := 1, srcPort := 1
    dg := { type := type, session := sid, pn := 9, tag := 7, msgLen := BitVec.ofNat 32 payload.length, payload := payload
            flags := if secured then 2 else 0 } }
/-- One session, context 0. -/
def withSession (s : State) (y : Session) : State := { s with wkp := { s.wkp with sessions := [(0, y)] } }
def open1 : Session := { state := .isOpen, gen := 1, src := 1, srcPort := 1, creditUnits := 4, creditCmds := 4, unitLimit := 4
                         cmdLimit := 4, slotLimit := 4, maxPayload := 1400, seenTags := [0, 1, 2, 3, 4, 5, 6], highTag := 6 }

/-- A HELLO body (Table 3.9) with a cookie. -/
def helloBody1 (cookie : Bytes) : Bytes := [0, 0] ++ toBE 2 1400 ++ toBE 4 5 ++ cookie
/-- A RESUME body for session 1 of context 0. -/
def resumeBody1 (cookie : Bytes) : Bytes := helloBody1 cookie ++ toBE 4 1 ++ toBE 16 99
/-- A namespace whose access list admits sessions without a certificate. -/
def admitting : State := { (up.odPut 16 Od.NS_STATE 0 1).odPut 16 Od.NS_ACCESS 1 openAcl with wkp := { secretNow := 11, secretOld := 12 } }
/-- The cookie that `admitting` made for a HELLO or RESUME of the source. -/
def cookie1 (type : Byte) : Bytes := cookieFor 11 (rx1 type 0 (helloBody1 []))

theorem cookieValid_of (s : State) (rx : Rx) (h : HelloBody) (e : h.cookie = cookieFor s.wkp.secretNow rx)
    (z : h.cookie.all (fun b => b == 0) = false) : s.cookieValid rx h = true := by
  unfold State.cookieValid
  rw [z, e, beq_self_eq_true]
  rfl

def hello0 : Rx := rx1 1 0 (helloBody1 (List.replicate 16 0))
def hello1 : Rx := rx1 1 0 (helloBody1 (cookie1 1))
def resume1 : Rx := rx1 6 0 (resumeBody1 (cookie1 6))

/-- No namespace admits a session without a certificate. -/
def closedHouse : State := { up with wkp := admitting.wkp }

/-- A HELLO without a cookie, and one with the cookie that the module made; no value of the digest is known but by its use, so the
second asks that it is not all zeros. -/
theorem meets_HelloOpensContext :
    (admitting.wkpServed = true ∧ admitting.headerValid hello0 0x01 = true ∧ wholeMessage hello0.dg = true
      ∧ bitOf 1 hello0.dg.flags.toNat = false ∧ helloBodyValid false (hello0.dg.version == 2) hello0.dg.payload = true
      ∧ admitting.hellosFrom hello0.src < admitting.val Od.HELLO_RATE_PER_SOURCE ∧ admitting.admin.pauseStage = 0
      ∧ admitting.duplicateOf hello0 = none ∧ admitting.cookieValid hello0 (parseHello false hello0.dg.payload) = false)
    ∧ ((cookie1 1).all (fun b => b == 0) = false → ∀ s ∈ [admitting, closedHouse],
      s.wkpServed = true ∧ s.headerValid hello1 0x01 = true ∧ wholeMessage hello1.dg = true ∧ bitOf 1 hello1.dg.flags.toNat = false
      ∧ helloBodyValid false (hello1.dg.version == 2) hello1.dg.payload = true
      ∧ s.hellosFrom hello1.src < s.val Od.HELLO_RATE_PER_SOURCE ∧ s.admin.pauseStage = 0 ∧ s.duplicateOf hello1 = none
      ∧ s.cookieValid hello1 (parseHello false hello1.dg.payload) = true
      ∧ (s = admitting → s.helloRefusal hello1 (parseHello false hello1.dg.payload) = none)
      ∧ (s = closedHouse → s.helloRefusal hello1 (parseHello false hello1.dg.payload) = some St.NOT_PERMITTED))
    ∧ ∃ c, firstFree 0 32768 (Config.contextPick admitting.draws).val (fun k => (admitting.session k).state == .free) = some c := by
  refine ⟨by and_intros <;> decide +kernel, fun z s h => ?_, ?_⟩
  · have o := cookieValid_of admitting hello1 (parseHello false hello1.dg.payload) rfl z
    have r : admitting ≠ closedHouse := fun e => absurd (congrArg (fun x => x.odGet 16 Od.NS_STATE 0) e) (by decide +kernel)
    rcases List.mem_cons.1 h with rfl | h
    · refine ⟨?_, ?_, ?_, ?_, ?_, ?_, ?_, rfl, o, fun _ => ?_, fun e => absurd e r⟩ <;> decide +kernel
    · have e : s = closedHouse := by simpa using h
      subst e
      refine ⟨?_, ?_, ?_, ?_, ?_, ?_, ?_, rfl, cookieValid_of closedHouse hello1 _ rfl z, fun e => absurd e.symm r, fun _ => ?_⟩
        <;> decide +kernel
  · rw [firstFree, List.range_succ_eq_map (n := 32767)]
    exact ⟨_, rfl⟩

/-- A session that can be resumed, and one in a handshake with the service anchor's certificate. -/
def resumable : State := withSession admitting { open1 with state := .dormant, hasToken := true, tokenDigest := tokenDigestOf 99 }
def handshake1 (z : SessState) : State :=
  withSession up { open1 with state := z, secured := true, serviceAnchor := true, udp := 7313, port := 6, physical := 6 }
/-- FINISH with an empty chain and a signature of zeros; its first bytes alone. -/
def finishBody : Bytes := toBE 2 0 ++ List.replicate 132 0
def sealedBy (x : Session) (rx : Rx) : Rx :=
  { rx with dg := { rx.dg with gcm := (Config.aesGcm x.keyCd (sessionNonce false rx.dg.pn.toNat) (dgramHead rx.dg) rx.dg.payload).2 } }
def finish1 (b : Bytes) : Rx := sealedBy open1 (rx1 4 1 b 6 true)
def finish2 : Rx := let rx := rx1 4 1 [0, 0] 6 true; sealedBy open1 { rx with dg := { rx.dg with msgLen := 134 } }
def serviceCert (z : SessState) : CertCheck :=
  { serviceAnchor := true, anchor := none, signs := finishDigest ((handshake1 z).session 0) finishBody }

theorem verdict_of (s : State) (rx : Rx) (type : Nat) (states : SessState → Bool) (x : Session)
    (hx : s.session (contextOf rx.dg.session) = x) (h1 : s.headerValid rx type = true) (h2 : s.staleReason? rx.dg.session = none)
    (h3 : (!states x.state || x.version != rx.dg.version.toNat || x.secured != bitOf 1 rx.dg.flags.toNat
      || decide (x.maxPayload < rx.dg.payload.length)) = false) (h4 : sourceAccepted x rx = true) (h5 : tagVerifies x rx.dg = true)
    (h6 : (rx.dg.pn != 0 && x.rxPns.contains rx.dg.pn.toNat) = false) : s.verdict rx type states = .accept := by
  subst hx
  simp [State.verdict, h1, h2, h3, h4, h5]
  simpa using h6

theorem finish_accepted (z : SessState) (hz : z = .halfOpen true ∨ z = .halfOpen false) :
    (handshake1 z).verdict (finish1 finishBody) 0x04 (fun z => z == .halfOpen true || z == .halfOpen false) = .accept
    ∧ (handshake1 z).verdict finish2 0x04 (fun z => z == .halfOpen true || z == .halfOpen false) = .accept := by
  rcases hz with rfl | rfl <;>
    exact ⟨verdict_of _ _ _ _ _ rfl (by decide +kernel) (by decide +kernel) (by decide +kernel) rfl
        (beq_self_eq_true (finish1 finishBody).dg.gcm) rfl,
      verdict_of _ _ _ _ _ rfl (by decide +kernel) (by decide +kernel) (by decide +kernel) rfl (beq_self_eq_true finish2.dg.gcm) rfl⟩

theorem meets_HandshakesOpenSessions :
    ((cookie1 6).all (fun b => b == 0) = false →
      let h := parseHello true resume1.dg.payload
      let old := resumable.session (contextOf h.oldSession)
      resumable.wkpServed = true ∧ resumable.headerValid resume1 0x06 = true ∧ wholeMessage resume1.dg = true
      ∧ bitOf 1 resume1.dg.flags.toNat = false ∧ helloBodyValid true false resume1.dg.payload = true
      ∧ resumable.hellosFrom resume1.src < resumable.val Od.HELLO_RATE_PER_SOURCE ∧ resumable.admin.pauseStage = 0
      ∧ resumable.duplicateOf resume1 = none ∧ resumable.cookieValid resume1 h = true
      ∧ resumable.staleReason? h.oldSession = some 1 ∧ old.state = .dormant ∧ old.hasToken = true
      ∧ old.tokenDigest = tokenDigestOf h.token ∧ h.secured = old.secured ∧ old.secured = false)
    ∧ (∀ z, (z = .halfOpen true ∨ z = .halfOpen false) → let s := handshake1 z
      s.wkpServed = true ∧ s.securedUnreachable = false
      ∧ s.verdict finish2 0x04 (fun z => z == .halfOpen true || z == .halfOpen false) = .accept
      ∧ (s.session 0).gatherLen.all (· == finish2.dg.msgLen.toNat) = true
      ∧ (assemble (insertFrag (bitsOf 24 0 finish2.dg.frag.toNat) finish2.dg.payload (s.session 0).gathered)).length ≠ finish2.dg.msgLen.toNat
      ∧ s.verdict (finish1 finishBody) 0x04 (fun z => z == .halfOpen true || z == .halfOpen false) = .accept
      ∧ (s.session 0).gatherLen.all (· == (finish1 finishBody).dg.msgLen.toNat) = true
      ∧ assemble (insertFrag (bitsOf 24 0 (finish1 finishBody).dg.frag.toNat) (finish1 finishBody).dg.payload (s.session 0).gathered)
          = finishBody
      ∧ finishBody.length = (finish1 finishBody).dg.msgLen.toNat ∧ finishFormed finishBody = true
      ∧ s.anchorGroup? (serviceCert z) (finish1 finishBody) = some 0 ∧ s.certAccepted (serviceCert z) = true
      ∧ (s.session 0).group = 0 ∧ (s.session 0).serviceAnchor = (serviceCert z).serviceAnchor
      ∧ (serviceCert z).signs = finishDigest (s.session 0) finishBody
      ∧ s.certAccepted { serviceCert z with intermediates := 3 } = false ∧ (s.session 0).state = z) := by
  refine ⟨fun z => ?_, fun z hz => ?_⟩
  · refine ⟨?_, ?_, ?_, ?_, ?_, ?_, ?_, rfl, cookieValid_of _ _ _ rfl z, ?_, rfl, rfl, rfl, ?_, rfl⟩ <;> decide +kernel
  · have a := finish_accepted z hz
    refine ⟨?_, ?_, a.2, ?_, ?_, a.1, ?_, ?_, ?_, ?_, ?_, ?_, ?_, ?_, rfl, ?_, rfl⟩ <;> rcases hz with rfl | rfl <;> decide +kernel

def sess (z : SessState) : State := withSession up { open1 with state := z }
/-- The session of `sess`, with a slot. -/
def closing2 : State := holding (sess .isOpen) { boundSlot with session := 1 }

theorem meets_SessionsEnd :
    ((sess .isOpen).session 0).state = .isOpen ∧ ((sess (.halfOpen true)).session 0).state = .halfOpen true
    ∧ ((sess (.halfOpen false)).session 0).state = .halfOpen false
    ∧ (((withSession up { open1 with state := .dormant, windowRuns := true }).session 0).state = .dormant
      ∧ ((withSession up { open1 with state := .dormant, windowRuns := true }).session 0).windowRuns = true)
    ∧ (∀ s ∈ [sess .isOpen, closing2], s.wkpServed = true ∧ s.verdict (rx1 0x1E 1 [0, 0]) 0x1E (fun z => z == .isOpen) = .accept)
    ∧ (((sess .isOpen).sessionSlots 1).filter (fun e => e.2.state != .filled)).isEmpty = true
    ∧ ((closing2.sessionSlots 1).filter (fun e => e.2.state != .filled)).isEmpty = false
    ∧ ((sess .isOpen).verdict (rx1 0x12 1 []) 0x12 (fun z => z == .isOpen || z == .closing) = .accept) := by
  and_intros <;> decide +kernel

def command1 : Rx := rx1 0x10 1 (msg 1 0 16 [1] (toBE 8 0) [7])
/-- The second datagram of a message of ten bytes. -/
def command2 : Rx := { rx1 0x10 1 [1] with dg := { (rx1 0x10 1 [1]).dg with frag := 9, msgLen := 10 } }
def filling : State := holding (sess .isOpen) { state := .filled, session := 1, tag := 7, msgLen := 10, frags := [(0, [1])] }

theorem meets_DatagramsFillSlots :
    (filling.wkpServed = true ∧ filling.verdict command2 0x10 (fun z => z == .isOpen) = .accept
      ∧ filling.slotOfTag? command2.dg.session command2.dg.tag = some (3, filling.slot 3)
      ∧ (filling.slot 3).msgLen = command2.dg.msgLen.toNat ∧ (filling.slot 3).state = .filled ∧ slotComplete (filling.slot 3) = false
      ∧ windowBase (max 6 (extTag 6 command2.dg.tag.toNat)) ≤ extTag 6 command2.dg.tag.toNat)
    ∧ (let s := sess .isOpen
      let d := command1.dg
      s.wkpServed = true ∧ s.verdict command1 0x10 (fun z => z == .isOpen) = .accept ∧ s.slotOfTag? d.session d.tag = none ∧ d.tag ≠ 0
      ∧ windowBase (max (s.session 0).highTag (extTag (s.session 0).highTag d.tag.toNat)) ≤ extTag (s.session 0).highTag d.tag.toNat
      ∧ (windowTo (acceptDatagram (s.session 0) command1) (extTag (s.session 0).highTag d.tag.toNat)).replays.find?
          (fun r => r.tag == d.tag.toNat) = none
      ∧ s.lengthDiffers 0 (extTag (s.session 0).highTag d.tag.toNat) d = false ∧ s.exceedsGrant 0 d = false ∧ s.admin.pauseStage = 0
      ∧ (s.sessionSlots (sessionId 0 (s.session 0).gen)).length < (s.session 0).slotLimit
      ∧ ((originSlots command1).1 ≤ 0 ∧ 0 < (originSlots command1).1 + (originSlots command1).2 ∧ (s.slot 0).state = .free)
      ∧ 0 < reservationOf d ∧ s.valueAreaUsed + reservationOf d ≤ 83886080) := by
  refine ⟨?_, ?_⟩ <;> (try dsimp only) <;> and_intros <;> decide +kernel

/-- The Pocket is filled beyond POCKET_THROTTLE. -/
def fullPocket : State := holding (sess .isOpen) { state := .filled, reserved := 83886080 }

theorem meets_SessionTimersAct :
    (((withSession up { open1 with ackDue := true }).session 0).ackDue = true
      ∧ ((withSession up { open1 with ackDue := true }).session 0).state = .isOpen
      ∧ numbersUsed ((withSession up { open1 with ackDue := true }).session 0) = false)
    ∧ up.live = true
    ∧ (((sess .isOpen).session 0).state ≠ .free ∧ (sess .isOpen).pocketFill ≤ (sess .isOpen).val Od.POCKET_THROTTLE)
    ∧ ((fullPocket.session 0).state ≠ .free ∧ fullPocket.val Od.POCKET_THROTTLE < fullPocket.pocketFill) := by
  and_intros <;> decide +kernel

/-! ## Pause, power states and supply -/

/-- Stage `k` of a service pause. -/
def pausing (k : Nat) (y : Session) : State := { withSession up y with admin := { up.admin with pauseStage := k } }

theorem meets_ServicePauseRunsItsStages :
    (up.pathServed .supervisor = true ∧ 2 ≤ up.pathLevel (pathCode .supervisor) ∧ up.resetRefused = false ∧ up.admin.pauseStage = 0)
    ∧ ((pausing 1 open1).pathServed .supervisor = true ∧ (pausing 1 open1).resetRefused = false ∧ (pausing 1 open1).admin.pauseStage ≠ 0)
    ∧ (let s := { up with power := { up.power with firstOpen := false } }
      s.pathServed .supervisor = true ∧ 2 ≤ s.pathLevel (pathCode .supervisor) ∧ s.resetRefused = true)
    ∧ (∀ y ∈ [open1, { open1 with version := 2 }, { open1 with state := .closing }],
      (pausing 1 y).admin.pauseStage = 1 ∧ (pausing 1 y).boundWork = false ∧ SMap.rising (pausing 1 y).wkp.sessions = true
      ∧ (pausing 1 y).admin.formatRuns = false ∧ (pausing 1 y).session 0 = y)
    ∧ ((pausing 3 open1).admin.pauseStage = 3 ∧ (pausing 3 open1).admin.activation = false ∧ (pausing 3 open1).admin.formatRuns = false
      ∧ ((pausing 3 { open1 with state := .dormant }).session 0).state = .dormant) := by
  and_intros <;> decide +kernel

/-- A module in a phase of its life. -/
def phase1 (p : Phase) : State := { up with power := { up.power with phase := p } }
def engine1 (e : EnginePower) : State := { up with power := { up.power with engine := e } }

theorem meets_EnginePowerStatesFollowLoad :
    (up.power.phase = .running ∧ up.power.engine = .run ∧ up.seq.slots = [] ∧ up.mediaQuiet = true ∧ up.pocketUsed = 0
      ∧ up.power.engine ≠ .doze ∧ up.power.firstOpen = true)
    ∧ (engine1 .hush).power.engine = .hush ∧ (engine1 .doze).power.engine = .doze ∧ dispatch1.seq.slots ≠ [] := by
  and_intros <;> decide +kernel

def drowsy : State := { up with power := { up.power with ignTimer := true } }
/-- A Gusset runs on a die. -/
def gusset1 (s : State) : State := (s.setVal Od.GUSSET_STATE 1).setVal Od.GUSSET_DIE 9

def sanitising1 : State := { drowsy with admin := { drowsy.admin with sanitising := some 16 } }

theorem meets_DrowseIsEnteredInTwoPhases :
    (drowsy.power.phase = .running ∧ drowsy.power.firstOpen = true ∧ drowsy.power.ignTimer = true ∧ drowsy.power.rideThrough = false
      ∧ drowsy.drowseDefer = 0 ∧ drowsy.admin.pauseStage = 0 ∧ drowsy.noCommands = true ∧ drowsy.kv.loaded = true)
    ∧ (drowsy.setVal Od.DROWSE_ENABLE 0).drowseDefer ≠ 0 ∧ ((phase1 .drowse1).power.phase = .drowse1 ∧ (phase1 .drowse1).pocketFlushed = true)
    ∧ ({ drowsy with pocket := { drowsy.pocket with journal := [{ type := 1, csn := 8 }] } } : State).pocketFlushed = false
    ∧ ((phase1 .drowse2).power.phase = .drowse2 ∧ (phase1 .drowse2).boundWork = false ∧ (phase1 .drowse2).power.latchedWakes = [])
    ∧ dispatch1.boundWork = true
    ∧ ((gusset1 drowsy).power.ignTimer = true ∧ (gusset1 drowsy).drowseDefer = 1)
    ∧ (sanitising1.power.ignTimer = true ∧ sanitising1.drowseDefer = 2) := by
  and_intros <;> decide +kernel

/-- Every wake is enabled. -/
def waking (p : Phase) : State :=
  let s := ((((phase1 p).setVal Od.TC10_ENABLE 3).odPut 0 Od.CAN_WAKE_ENABLE 1 1).odPut 0 Od.CAN_WAKE_DLC 1 1).odPut 0 Od.CAN_WAKE_DATA_MASK 1 1
  { s with power := { s.power with ign := true }, flash := { s.flash with hemA := { commit := some 20 } } }

theorem meets_WakesStartTheModule :
    (∀ p ∈ [Phase.drowse, .drowse1, .drowse2], (waking p).power.phase = p ∧ (waking p).od.twoFormat = []
      ∧ (∀ w ∈ [Wake.ign, .tc10 0, .can 0], (waking p).wakeEnabled w = true)
      ∧ (waking p).wakeMatches 0 ((waking p).odGet 0 Od.CAN_WAKE_ID 1) 1 1 = true)
    ∧ (waking .drowse).replayBand.isSome = true ∧ (waking .drowse).wakeEnabled (.tc10 1) = false
    ∧ (up.power.phase ≠ .unpowered ∧ up.power.phase ≠ .drowse1) ∧ (up.setVal Od.WAKE_OUT_MODE 1).val Od.WAKE_OUT_MODE = 1 := by
  and_intros <;> decide +kernel

def hem1 : State := phase1 .hem
def ride (first : Bool) : State := { up with power := { up.power with rideThrough := true, firstOpen := first } }

theorem meets_LossOfInputEndsInTheHem :
    (up.power.phase = .running ∧ up.power.inputValid = true ∧ up.val Od.HEM_RESERVE ≤ up.power.bankMj)
    ∧ (let s := up.setVal Od.HEM_RESERVE 60001
      s.power.phase = .running ∧ s.power.inputValid = true ∧ s.power.bankMj < s.val Od.HEM_RESERVE ∧ s.power.firstOpen = true)
    ∧ (∀ b, (ride b).power.rideThrough = true ∧ (ride b).power.firstOpen = b)
    ∧ (let s : State := { hem1 with power := { hem1.power with inputValid := false } }
      s.power.phase = .hem ∧ s.boundWork = false ∧ s.power.startNext = none ∧ s.power.inputValid = false ∧ hem1.power.thermal = false)
    ∧ (holding hem1 boundSlot).power.phase = .hem ∧ (holding hem1 boundSlot).boundWork = true := by
  and_intros <;> decide +kernel

def surge : State := { up with power := { up.power with overvoltage := true } }

theorem meets_SupplyCapsAndFaults :
    up.power.inputValid = true ∧ (up.power.phase ≠ .unpowered ∧ up.power.phase ≠ .drowse)
    ∧ (36000 < (36001 : BitVec 32).toNat ∧ (58000 : BitVec 32).toNat ≤ 58000 ∧ 58000 < (58001 : BitVec 32).toNat)
    ∧ (surge.power.overvoltage = true ∧ surge.power.phase = .running ∧ surge.power.inputValid = true
      ∧ surge.val Od.HEM_RESERVE ≤ surge.power.bankMj)
    ∧ (36000 : BitVec 32).toNat ≤ 36000 ∧ 36000 < (36001 : BitVec 32).toNat := by
  and_intros <;> decide +kernel

/-- A boot that waits for its dies to warm. -/
def cold : State := { up with power := { up.power with phase := .boot, diesWarm := false } }

theorem meets_SamplesAreKept :
    (∀ s ∈ [up, phase1 .thermalStop, cold], s.canPowered = true)
    ∧ (∀ x ∈ [(-32768 : Int), -401, 999, 1149, 32767], -32768 ≤ x ∧ x < 32768)
    ∧ (up.power.phase ≠ .thermalStop ∧ up.power.firstOpen = true ∧ (phase1 .thermalStop).power.phase = .thermalStop)
    ∧ (cold.power.phase = .boot ∧ cold.power.diesWarm = false)
    ∧ up.val Od.SHOCK_THRESHOLD < (65535 : BitVec 16).toNat := by
  and_intros <;> decide +kernel

/-- A module without power, whose Hem completed or not, that recorded a block of CSNs. -/
def offWith (hem : Bool) : State :=
  { phase1 .unpowered with flash := { up.flash with hemA := { commit := if hem then some 20 else none } } }
def cooled (sec : Nat) : State := { up with power := { up.power with phase := .thermalStop, coolSeconds := sec } }
/-- Intake may open, and a session is DORMANT. -/
def opening : State := { withSession up { open1 with state := .dormant } with power := { up.power with phase := .boot, firstOpen := false } }

theorem meets_StartsAndOpenings :
    (∀ s ∈ [offWith true, offWith false, ride true, hem1, cooled 60, cooled 59, opening, up, hold2], s.od.twoFormat = [])
    ∧ ((offWith true).power.phase = .unpowered ∧ (offWith true).replayBand.isSome = true ∧ ({} : StartFindings).hemValid = true
      ∧ ({} : StartFindings).hemIntact = true)
    ∧ ((offWith false).power.phase = .unpowered ∧ (offWith false).replayBand.isSome = false ∧ (offWith false).seq.blockHigh = some 0)
    ∧ ((ride true).power.phase = .running ∧ (ride true).power.rideThrough = true) ∧ hem1.power.phase = .hem
    ∧ ((cooled 60).power.phase = .thermalStop ∧ 60 ≤ (cooled 60).power.coolSeconds ∧ (cooled 59).power.coolSeconds < 60)
    ∧ (opening.mayOpen = true ∧ (opening.session 0).state = .dormant ∧ up.mayOpen = false)
    ∧ (hold2.power.afterDue = [] ∧ hold2.live = true ∧ hold2.power.firstOpen = true ∧ hold2.kv.loaded = false ∧ hold2.val Od.KEYSTORE_STATE ≠ 2
      ∧ hold2.cipher.rootKey = true) := by
  and_intros <;> decide +kernel

/-! ## The object dictionary -/

/-- The row of an entry has a property. -/
def found (x k : Nat) (p : OdRow → Bool) : Bool := match odFind x k with | .ok r => p r | .error _ => false
def missing (x k : Nat) (e : OdRefusal) : Bool := match odFind x k with | .ok _ => false | .error f => f == e
/-- A module whose CAN1 server is Operational at level 1. -/
def canUp : State := up.odPut 0 Od.CAN_NMT_STATE 1 5

theorem meets_EntryWritesAreChecked :
    (canUp.pathServed (.sdo 0) = true ∧ canUp.pathServed .supervisor = true
      ∧ (matcherEntry 0x2021 && canUp.queriesBelow (canUp.seq.csnLast + 1)) = false)
    ∧ missing 0xFFFF 0 .noEntry = true ∧ missing 0x2021 1 .noSub = true ∧ found 0x2040 0 (fun r => r.wr == none) = true
    ∧ found 0x2021 0 (fun r => r.wr == some 2 && decide (canUp.pathLevel (pathCode (.sdo 0)) < 2)) = true
    ∧ found 0x2021 0 (fun r => r.wr == some 2 && decide (2 ≤ canUp.pathLevel (pathCode .supervisor)) && lengthBad 0x2021 r.ty 0 [1, 2]) = true
    ∧ found 0x2021 0 (fun r => !lengthBad 0x2021 r.ty 0 [2] && odNumeric r.ty && !canUp.rangeOk 0x2021 r.range 2) = true
    ∧ found 0x2210 0 (fun r => !lengthBad 0x2210 r.ty 0 [2] && odNumeric r.ty && r.ty == .bool && r.wr.isSome) = true
    ∧ found 0x2021 0 (fun r => !lengthBad 0x2021 r.ty 0 [1] && odNumeric r.ty && r.ty != .bool && canUp.rangeOk 0x2021 r.range 1
      && !canUp.stateRefuses 0 0x2021 0 r && plainEntry 0x2021) = true
    ∧ found Od.SERVICE_RESET 0 (fun r => r.wr.isSome && canUp.rangeOk Od.SERVICE_RESET r.range 1 && r.ty != .bool
      && !lengthBad Od.SERVICE_RESET r.ty 0 [1] && (phase1 .boot).stateRefuses 0 Od.SERVICE_RESET 0 r) = true
    ∧ found 0x2215 2 (fun r => r.wr == some 2 && !odNumeric r.ty && !lengthBad 0x2215 r.ty 0 (List.replicate 16 1)
      && !canUp.stateRefuses 0 0x2215 2 r) = true
    ∧ (0x2215 ≠ Od.FW_IMAGE ∧ 0x2215 ≠ Od.ATTEST_NONCE) := by
  and_intros <;> decide +kernel

def odRead1 (key : Bytes) : State := holding up { slotOf (msg 0x60 0 0 key (toBE 8 0 ++ toBE 8 8) []) with udp := 7312, level := 4 }
def odWrite1 : State := holding up { slotOf (msg 0x61 0 0 (odKeyBytes 0x2021 0) (toBE 8 0) [1]) with udp := 7312, level := 4 }

theorem meets_NamespaceZeroReadsAndWrites :
    (∀ x ∈ [0x2021, Od.SEAM_STATE], (odRead1 (odKeyBytes x 0)).seam.orphan = false
      ∧ ((odRead1 (odKeyBytes x 0)).cmdOf 3).key.length = 3 ∧ odKeyOf ((odRead1 (odKeyBytes x 0)).cmdOf 3).key = (x, 0)
      ∧ measuredEntry x = none ∧ ((odRead1 (odKeyBytes x 0)).cmdOf 3).param 0 8 = 0
      ∧ found x 0 (fun r => r.rd.isSome && odNumeric r.ty && decide ((odWidth r.ty).getD 9 ≤ ((odRead1 (odKeyBytes x 0)).cmdOf 3).param 8 8)) = true)
    ∧ (odRead1 (odKeyBytes 0x2021 0)).runs 3 (isOp 0x60)
    ∧ ((odRead1 [1]).runs 3 (isOp 0x60) ∧ ((odRead1 [1]).cmdOf 3).key.length ≠ 3)
    ∧ ((odRead1 [255, 255, 0]).runs 3 (isOp 0x60) ∧ odKeyOf ((odRead1 [255, 255, 0]).cmdOf 3).key = (0xFFFF, 0) ∧ missing 0xFFFF 0 .noEntry = true)
    ∧ (odWrite1.runs 3 (isOp 0x61) ∧ (odWrite1.cmdOf 3).key.length = 3 ∧ odKeyOf (odWrite1.cmdOf 3).key = (0x2021, 0)
      ∧ matcherEntry 0x2021 = false ∧ (odWrite1.cmdOf 3).data = [1] ∧ (odWrite1.cmdOf 3).param 0 8 = 0
      ∧ found 0x2021 0 (fun r => r.wr == some 2 && decide (2 ≤ (odWrite1.slot 3).level) && !lengthBad 0x2021 r.ty 0 [1] && odNumeric r.ty
        && odWrite1.rangeOk 0x2021 r.range 1 && !odWrite1.stateRefuses 0 0x2021 0 r && r.ty != .bool) = true
      ∧ plainEntry 0x2021 = true) := by
  unfold State.runs
  and_intros <;> decide +kernel

/-! ## Events, recorder, fatal errors -/

def wrapped : State := (up.odPut 0 Od.PERF_SELECT 1 2).odPut Ev.PERF_COUNTER_WRAP Od.EVENT_ROUTE 0 15
def wrapped1 : State := { wrapped with events := { perf := [(1, 2 ^ 48)] } }
def lostSeam : State := { up with seam := { up.seam with up := false } }
/-- The engine's events and the test event reach the supervisor. -/
def routed : State := ((up.odPut 64 Od.EVENT_ROUTE 0 1).odPut Ev.TEST_EVENT Od.EVENT_ROUTE 0 1)

theorem meets_EventsAreCountedAndRated :
    (routed.canPowered = true ∧ routed.tells 64 ∧ 64 ≠ Ev.REC_PENDING_OVF)
    ∧ (lostSeam.canPowered = true ∧ (severity? 64).isSome = true ∧ engineSource 64 = true ∧ lostSeam.seam.up = false
      ∧ lostSeam.seam.queue.length < 4096)
    ∧ severity? 255 = none
    ∧ (routed.pathServed .supervisor = true ∧ 3 ≤ routed.pathLevel (pathCode .supervisor) ∧ routed.tells Ev.TEST_EVENT
      ∧ routed.rangeOk Od.PERF_SELECT .perfEvent 2 = true)
    ∧ (wrapped1.live = true ∧ wrapped1.odGet 0 Od.PERF_SELECT 1 ≠ 0xFF ∧ 2 ^ 48 ≤ SMap.getD wrapped1.events.perf 1 0
      ∧ wrapped1.tells Ev.PERF_COUNTER_WRAP) := by
  unfold State.tells
  and_intros <;> decide +kernel

def rec1 (n : Nat) : Rec := { code := 64, sev := 0, engine := true, params := [0], seconds := 5, cycles := 1, seqNo := n }
/-- A recorder with a pending record and lost mirrors. -/
def recorder (frozen : Bool) (lost : List Nat) : State :=
  { up with events := { pendingRecs := [rec1 5], log := [rec1 4], frozen := frozen, mirrorsLost := lost } }

theorem meets_RecorderKeepsItsRecords :
    (∀ f, (recorder f []).pathServed .supervisor = true ∧ 3 ≤ (recorder f []).pathLevel (pathCode .supervisor)
      ∧ (recorder f []).events.frozen = f ∧ (recorder f []).canPowered = true)
    ∧ (recorder false [0, 1]).events.pendingRecs ≠ [] ∧ (recorder false [0]).events.mirrorsLost.length < 2
    ∧ 2 ≤ (recorder false [0, 1]).events.mirrorsLost.length ∧ (recorder false [0, 1]).events.pendingRecs.length ≤ 64
    ∧ 0 < ((recorder false []).recPage 0).length ∧ ((recorder false []).recPage 0).length < 65536
    ∧ ((recorder false [0]).setVal Od.REC_STATE 3).val Od.REC_STATE = 3
    ∧ (recorder false []).events.mirrorsLost = []
    ∧ ((recorder false [1]).events.mirrorsLost = [(1 : Fin 2).val] ∧ (0 : Fin 2) ≠ 1) := by
  and_intros <;> decide +kernel

/-- What every request of the supervisor asks: its path is served at its level. -/
def dumping1 (p : Phase) : State :=
  { phase1 p with events := { dumping := some { seqNo := 1, complete := false, live := true, fatal := 0, dt := 5, te := 3, epoch := 1, csnLast := 6, kib := 0 } } }
/-- The level of the supervisor's path. -/
def atLevel (s : State) (l : Nat) : Bool := s.pathServed .supervisor && decide (l ≤ s.pathLevel (pathCode .supervisor))

theorem atLevel_admits (s : State) (l : Nat) (h : atLevel s l = true) : s.admits .supervisor l := by
  simpa [atLevel, State.admits] using h

theorem meets_FatalErrorsStopTheEngine :
    (∀ s ∈ [up, pausing 1 open1, ride true, dumping1 .running, dumping1 .fatalStop], s.od.twoFormat = [])
    ∧ (up.power.phase = .running ∧ up.power.rideThrough = false)
    ∧ ((pausing 1 open1).admin.pauseStage ≠ 0 ∧ (pausing 1 open1).power.phase = .running ∧ (pausing 1 open1).power.rideThrough = false)
    ∧ ((ride true).power.phase = .running ∧ (ride true).power.rideThrough = true)
    ∧ (atLevel up 3 = true ∧ (1 : BitVec 32) ≠ 0x44554D50)
    ∧ (∀ p ∈ [Phase.running, .fatalStop], (dumping1 p).events.dumping.isSome = true ∧ (dumping1 p).power.phase = p)
    ∧ (let s : State := { phase1 .fatalStop with seam := { up.seam with orphan := true } }
      s.power.phase = .fatalStop ∧ s.seam.orphan = true) := by
  and_intros <;> decide +kernel

/-! ## Namespaces, seals and lists -/

/-- The supervisor has selected namespace 16, with parameters. -/
def selecting (sealPolicy writeOnce kinds : Nat) : State :=
  (((up.odPut 0 Od.NS_SELECT 0 16).odPut 16 Od.NS_SEAL_POLICY 0 sealPolicy).odPut 16 Od.NS_WRITE_ONCE 0 writeOnce).odPut 16 Od.NS_KIND_POLICY 0 kinds
/-- A stage of SANITISE of namespace 16. -/
def sanitisingAt (stage : Nat) : State :=
  let s := (up.setVal Od.SANITISE_STATE stage).odPut 16 Od.NS_STATE 0 2
  { s with admin := { s.admin with sanitising := some 16 } }
/-- Its first stage in slot 384, behind a command of the namespace that was bound before it, or not. -/
def stageOne (behind : Bool) : State :=
  let s := (sanitisingAt 1).setVal Od.SANITISE_CSN 12
  let x : Slot := { slotOf [] with routine := some (.sanitise 16), csn := 12 }
  { s with seq := { s.seq with slots := if behind then [(3, put1.slot 3), (384, x)] else [(384, x)] } }
/-- A SANITISE that is next, of a namespace that is defined or not. -/
def sanitiseNext (st : Nat) : State :=
  let s := up.odPut 16 Od.NS_STATE 0 st
  { s with admin := { s.admin with sanitiseQueue := [16, 17] } }
/-- A stage of FORMAT. -/
def formatAt (stage pause : Nat) : State :=
  let s := (up.setVal Od.FORMAT_STATE stage).odPut 16 Od.NS_STATE 0 2
  { s with admin := { s.admin with formatRuns := true, formatAsked := true, pauseStage := pause } }
def formatAsked1 : State := { up with admin := { up.admin with formatAsked := true } }

theorem supervisor_free (s : State) (h : ∀ i, i < 63 → (s.slot (384 + i)).state = .free) : s.freeSupervisor?.isSome = true := by
  unfold State.freeSupervisor? firstFree
  rw [List.find?_isSome]
  refine ⟨_, List.mem_map.mpr ⟨0, List.mem_range.mpr (by omega), rfl⟩, ?_⟩
  rw [h _ (Nat.mod_lt _ (by omega))]
  rfl

theorem meets_NamespacesAreDefinedAndErased :
    (∀ s ∈ [selecting 0 0 7, selecting 1 1 1, selecting 0 1 7], s.fw.phase ≠ .activating ∧ s.fw.phase ≠ .confirming ∧ atLevel s 2 = true
      ∧ s.selection (pathCode .supervisor) Od.NS_SELECT = 16 ∧ s.odGet 16 Od.NS_STATE 0 = 0 ∧ s.admin.formatRuns = false
      ∧ s.val Od.DRBG_STATE ≠ 2 ∧ 2 ≤ s.ledgerFree)
    ∧ ((selecting 0 1 7).nsForbidden 16 = true ∧ (selecting 0 0 7).nsForbidden 16 = false ∧ (selecting 1 1 1).nsForbidden 16 = false
      ∧ (selecting 1 1 1).odGet 16 Od.NS_SEAL_POLICY 0 = 1)
    ∧ ((1 : BitVec 32).toNat / 65536 ≠ 0x5A5A)
    ∧ (∀ n ∈ [16, 4095], (BitVec.ofNat 32 (0x5A5A0000 + n)).toNat / 65536 = 0x5A5A ∧ (BitVec.ofNat 32 (0x5A5A0000 + n)).toNat % 65536 = n
      ∧ 16 ≤ n ∧ n ≤ 4095 ∧ up.admin.sanitising ≠ some n ∧ up.admin.sanitiseQueue.contains n = false)
    ∧ (up.formatDue = false ∧ up.admin.sanitiseQueue.length < 16 ∧ atLevel up 3 = true)
    ∧ (∀ s ∈ [sanitiseNext 0, sanitiseNext 1, sanitisingAt 1, stageOne true, stageOne false, sanitisingAt 2, sanitisingAt 4, formatAt 3 0],
      s.backgroundRuns = true ∧ s.power.firstOpen = true ∧ s.power.routinesPaused = false ∧ s.settled)
    ∧ (∀ s ∈ [formatAsked1, formatAt 1 3, formatAt 2 0], s.live = true ∧ s.power.firstOpen = true ∧ s.power.routinesPaused = false
      ∧ s.settled)
    ∧ (∀ k ∈ [0, 1], (sanitiseNext k).admin.sanitising = none ∧ (sanitiseNext k).admin.sanitiseQueue = 16 :: [17]
      ∧ (sanitiseNext k).admin.formatRuns = false ∧ (sanitiseNext k).seq.stopped = false ∧ (sanitiseNext k).odGet 16 Od.NS_STATE 0 = k
      ∧ (∀ i, i < 63 → ((sanitiseNext k).slot (384 + i)).state = .free))
    ∧ (∀ b, (stageOne b).admin.sanitising = some 16 ∧ (stageOne b).val Od.SANITISE_STATE = 1
      ∧ (stageOne b).stageOneSlot? (.sanitise 16) = some 384
      ∧ (stageOne b).boundBefore 16 ((stageOne b).val Od.SANITISE_CSN) = b)
    ∧ (∀ k ∈ [1, 2, 4], (sanitisingAt k).admin.sanitising = some 16 ∧ (sanitisingAt k).val Od.SANITISE_STATE = k
      ∧ (sanitisingAt k).stageOneSlot? (.sanitise 16) = none ∧ (sanitisingAt k).kv.loaded = true
      ∧ (sanitisingAt k).admin.purging.filter (sanitisingAt k).stands = [] ∧ (sanitisingAt k).sealsDone 16 = true)
    ∧ (formatAsked1.admin.formatRuns = false ∧ formatAsked1.admin.formatAsked = true ∧ formatAsked1.admin.sanitising = none
      ∧ formatAsked1.admin.pauseStage = 0 ∧ formatAsked1.resetRefused = false
      ∧ (∀ i, i < 63 → (formatAsked1.slot (384 + i)).state = .free))
    ∧ (∀ k ∈ [(1, 3), (2, 0), (3, 0)], (formatAt k.1 k.2).admin.formatRuns = true ∧ (formatAt k.1 k.2).val Od.FORMAT_STATE = k.1
      ∧ (formatAt k.1 k.2).admin.pauseStage = k.2)
    ∧ (formatAt 3 0).admin.purging.filter (formatAt 3 0).stands = []
    ∧ (formatAt 3 0).definedNs.all (formatAt 3 0).sealsDone = true := by
  unfold State.settled
  and_intros <;> first | exact List.all_eq_true.mpr (fun _ _ => rfl) | decide +kernel

def seal1 (signed : Bool) : Seal :=
  { flags := 0, ns := 16, seqNo := 0, stamp := ⟨1, 100, 5⟩, source := .free, keyGen := 1, stepNs := 0, signature := if signed then some 7 else none }
/-- Namespace 16 is sealed, with a chain. -/
def sealedNs (x : Chain) : State := (up.setChain 16 x).odPut 16 Od.NS_STATE 0 1
/-- A put after the newest seal. -/
def unsealed : State := sealedNs { seals := [seal1 true], nextSeq := 1, links := [(6, 9)] }
/-- A seal that waits for its signature, above a put that it covers. -/
def unsigned1 : State := sealedNs { seals := [seal1 false], nextSeq := 1, links := [(4, 9)] }

/-- A seal of namespace 17 that a time step bound goes first. -/
def behind1 : State :=
  (unsigned1.setChain 17 { seals := [{ seal1 false with ns := 17, flags := 2, seqNo := 1 }], nextSeq := 2 }).odPut 17 Od.NS_STATE 0 1

theorem meets_SealsAreBoundAndSigned :
    (unsealed.live = true ∧ unsealed.openChains.contains (16 : BitVec 12).toNat = true
      ∧ (unsealed.chain 16).links = [(6, 9)] ∧ (unsealed.chain 16).newestSeal < 6)
    ∧ ((unsigned1.chain 16).links = [(4, 9)] ∧ 4 ≤ (unsigned1.chain 16).newestSeal)
    ∧ (unsigned1.sealDue? 16 = some (seal1 false) ∧ unsigned1.live = true ∧ unsigned1.val Od.DRBG_STATE ≠ 2
      ∧ unsigned1.sealAhead 16 = false ∧ (seal1 false).urgent = false ∧ behind1.sealDue? 16 = some (seal1 false)
      ∧ behind1.sealAhead 16 = true ∧ (unsigned1.setVal Od.DRBG_STATE 2).val Od.DRBG_STATE = 2
      ∧ (unsigned1.setVal Od.DRBG_STATE 2).sealDue? 16 = some (seal1 false) ∧ up.sealDue? 16 = none
      ∧ (unsigned1.chain 16).seals.find? (fun z => z.signature.isNone) = some (seal1 false)
      ∧ unsigned1.val Od.SEAL_INTERVAL < (100000 : BitVec 32).toNat)
    ∧ (atLevel up 1 = true ∧ (List.replicate 32 (1 : Byte)).length = 32 ∧ SMap.get? up.seals.nonceHot (pathCode .supervisor) = none
      ∧ (up.setVal Od.DRBG_STATE 2).val Od.DRBG_STATE = 2 ∧ atLevel (up.setVal Od.DRBG_STATE 2) 1 = true)
    ∧ (let s : State := { up with seals := { nonceHot := [(0, 0)] } }
      SMap.get? s.seals.nonceHot (pathCode .supervisor) = some 0 ∧ s.clock.ticks < 0 + 125000000) := by
  and_intros <;> decide +kernel

/-- The supervisor has selected list slot 1; slot 0 holds a list of eight places. -/
def lists1 (size mode : Nat) : State :=
  ((((tuck up 8 []).odPut 0 Od.MATCH_LIST_SELECT 0 1).odPut 1 Od.LIST_BASE 0 16).odPut 1 Od.LIST_SIZE 0 size).odPut 1 Od.LIST_MODE 0 mode
/-- A query that is bound. -/
def waiting1 : State := holding (lists1 16 0) { slotOf (msg 0x38 0 0 [] (List.replicate 24 0) []) with state := .bound }

theorem meets_ListsAndBinsAreDefined :
    (∀ s ∈ [lists1 16 0, lists1 131056 1, tuck up 8 [], tuck up 8 three],
      atLevel s 2 = true ∧ s.fw.phase ≠ .activating ∧ s.fw.phase ≠ .confirming ∧ ¬ s.queriesBelow (s.seq.csnLast + 1) = true)
    ∧ (∀ s ∈ [lists1 16 0, lists1 131056 1], s.selection (pathCode .supervisor) Od.MATCH_LIST_SELECT = 1 ∧ s.odGet 1 Od.LIST_ID 0 = 0
      ∧ 0 < (2 : BitVec 16).toNat ∧ (2 : BitVec 16).toNat < 0xFFFF ∧ s.listOf? (2 : BitVec 16).toNat = none ∧ 0 < s.listSize 1
      ∧ s.listBase 1 + s.listSize 1 ≤ s.matchEntries
      ∧ (∀ k, k < 64 → k ≠ 1 → s.odGet k Od.LIST_ID 0 ≠ 0 →
        s.listBase k + s.listSize k ≤ s.listBase 1 ∨ s.listBase 1 + s.listSize 1 ≤ s.listBase k)
      ∧ s.listBase 1 % 16 = 0 ∧ s.listSize 1 % 16 = 0)
    ∧ (lists1 131056 1).isPleat 1 = true
    ∧ (∀ m ∈ [[], three], (tuck up 8 m).selection (pathCode .supervisor) Od.MATCH_LIST_SELECT = 0 ∧ (tuck up 8 m).odGet 0 Od.LIST_ID 0 ≠ 0)
    ∧ ((tuck up 8 []).listEntries 0 = [] ∧ (tuck up 8 three).listEntries 0 ≠ [])
    ∧ waiting1.queriesBelow (waiting1.seq.csnLast + 1) = true
    ∧ (3600 ≤ (3600 : BitVec 32).toNat ∧ (604800 : BitVec 32).toNat ≤ 604800 ∧ (3599 : BitVec 32).toNat < 3600) := by
  and_intros <;> decide +kernel

/-- Tile 0 fails, with a spare or without. -/
def failingTile (spare : Nat) : State :=
  let s := (tuck up 8 three).setVal Od.MATCH_SPARE spare
  { s with matcher := { s.matcher with failing := [0, 7] } }

theorem meets_MatcherKeepsItsTable :
    (∀ s ∈ [failingTile 1, failingTile 0], s.live = true ∧ s.matcher.failing.contains (0 : Fin 8).val = true
      ∧ s.matcher.failing.contains (7 : Fin 8).val = true ∧ (0 : Fin 131072).val < s.matchEntries ∧ (131071 : Fin 131072).val < s.matchEntries
      ∧ 16384 * (7 : Fin 8).val < s.matchEntries ∧ s.power.engine ≠ .doze)
    ∧ (failingTile 1).val Od.MATCH_SPARE = 1 ∧ (failingTile 0).val Od.MATCH_SPARE = 0
    ∧ SMap.get? (failingTile 1).matcher.entries (2 : Fin 131072).val = some entry1 := by
  and_intros <;> decide +kernel

/-! ## Firmware -/

/-- A session of the service anchor on port 7313: an access path of level 4. -/
def service (s : State) : State := withSession s { open1 with secured := true, serviceAnchor := true, udp := 7313, port := 6 }
/-- A state of FW_STATE, the download owned by that session. -/
def fwAt (p : FwPhase) (image : Bytes) (ok : Bool) (len : Nat) : State :=
  { service up with fw := { phase := p, owner := some 0, image := image, headerOk := ok, imageLen := len } }
/-- An entry of the parts table; the ids that the parts ask for are those of the module (Table 18.1). -/
def partBytes (k : Nat) : Bytes :=
  toBE 1 k ++ toBE 1 3 ++ toBE 2 (if k = 3 ∨ k = 4 then 1 else 0) ++ toBE 4 9 ++ toBE 4 0
    ++ toBE 4 (match k with
      | 1 => Config.supRomId.toNat | 3 => Config.mcodeRomId.toNat | 4 => Config.mcodeRomId.toNat | 5 => Config.phySiliconId.toNat | _ => 0)
    ++ toBE 8 (4096 * k) ++ toBE 8 100 ++ toBE 64 5
/-- A header that passes every check (Table 18.2, Table 18.3). -/
def header1 : Bytes :=
  toBE 4 0x5A4B4657 ++ [1, 6, 7, 0] ++ toBE 4 9 ++ toBE 4 0 ++ toBE 8 40960 ++ List.replicate 40 0 ++ [1, 2, 3, 4, 5, 6].flatMap partBytes
    ++ List.replicate 132 0

theorem beNat_toBE4 (x : BitVec 32) : beNat (toBE 4 x.toNat) = x.toNat := by
  have h : x.toNat < 2 ^ 32 := x.isLt
  simp only [toBE, beNat, List.foldl, BitVec.toNat_ofNat]
  omega

set_option maxRecDepth 100000 in
/-- Every check passes, whatever the ids of the module's parts are. -/
theorem header1_reason : (fwAt .receiving [] false 0).headerReason header1 true = 0 := by
  have h1 : (partEntry header1 1).requires = Config.supRomId.toNat := beNat_toBE4 _
  have h3 : (partEntry header1 3).requires = Config.mcodeRomId.toNat := beNat_toBE4 _
  have h4 : (partEntry header1 4).requires = Config.mcodeRomId.toNat := beNat_toBE4 _
  have h5 : (partEntry header1 5).requires = Config.phySiliconId.toNat := beNat_toBE4 _
  have r : ∀ k ∈ [1, 2, 3, 4, 5, 6], requiresOk (headerParts header1) (partEntry header1 k) = true := by
    have c1 : (partEntry header1 1).code = 1 := by decide +kernel
    have c3 : (partEntry header1 3).code = 3 := by decide +kernel
    have c4 : (partEntry header1 4).code = 4 := by decide +kernel
    have c5 : (partEntry header1 5).code = 5 := by decide +kernel
    simp only [List.forall_mem_cons]
    refine ⟨?_, by decide +kernel, ?_, ?_, ?_, by decide +kernel, fun _ h => nomatch h⟩
    · unfold requiresOk; rw [h1, c1]; exact beq_self_eq_true _
    · unfold requiresOk; rw [h3, c3]; exact beq_self_eq_true _
    · unfold requiresOk; rw [h4, c4]; exact beq_self_eq_true _
    · unfold requiresOk; rw [h5, c5]; exact beq_self_eq_true _
  have q : (headerParts header1).any (fun p => !requiresOk (headerParts header1) p) = false := by
    refine List.any_eq_false.mpr (fun p hp => ?_)
    obtain ⟨k, hk, rfl⟩ := List.mem_map.mp hp
    simp [r k hk]
  unfold State.headerReason
  dsimp only
  rw [q, if_neg (by decide +kernel), if_neg (by decide +kernel), if_neg (by decide +kernel), if_neg (by decide +kernel),
    if_neg (by decide +kernel), if_neg (by decide +kernel), if_neg (by decide +kernel), if_neg (by decide +kernel)]

/-- A verification has passed `k` steps, and one fails or none. -/
def verifying1 (k : Nat) (f : Option (Fin 6 × Fin 7)) : State :=
  let s := fwAt .verifying [] true 0
  { holding s { slotOf [] with routine := some .verify, frags := [] } with
    fw := { s.fw with verify := some { done := k, path := some (pathCode (.wkp 0)), fails := f } } }

theorem meets_FirmwareIsReceivedAndVerified :
    (∀ p ∈ [FwPhase.empty, .receiving, .received, .verifying, .verified, .activating, .confirming, .fallingBack, .previous, .rejected],
      (fwAt p [] false 0).pathServed (.wkp 0) = true ∧ 3 ≤ (fwAt p [] false 0).pathLevel (pathCode (.wkp 0)) ∧ (fwAt p [] false 0).fw.phase = p)
    ∧ ((fwAt .receiving [] false 0).fwAccepts (pathCode (.wkp 0)) 0x4245474E = true
      ∧ (fwAt .receiving [] false 0).fwAccepts (pathCode .supervisor) 0x4245474E = false)
    ∧ ((fwAt .received [] true 0).seq.slots.all (fun e => e.2.routine != some .verify) = true
      ∧ ((fwAt .received [] true 0).slot 384).state = .free)
    ∧ (∀ v ∈ [((1 : Nat), (none : Option (Fin 6 × Fin 7))), (9, none), (1, some (1, 1))], let s := verifying1 v.1 v.2
      (s.slot 3).state = .executing ∧ (s.slot 3).routine = some .verify ∧ s.backgroundRuns = true ∧ (s.slot 3).frags = []
        ∧ s.fw.verify = some { done := v.1, path := some (pathCode (.wkp 0)), fails := v.2 }
        ∧ verifyFails v.1 v.2 = v.2.isSome ∧ v.1 ≠ 0
        ∧ s.pathServed (.wkp 0) = true ∧ 3 ≤ s.pathLevel (pathCode (.wkp 0)))
    ∧ (fwAt .verified [] false 0).val Od.CONFIG_STORE_STATE = 0
    ∧ ((fwAt .confirming [] false 0).setVal Od.FW_SELFTEST 0xBF).selftestsPassed = true
    ∧ (pathContext? (pathCode (.wkp 0)) = some 0 ∧ (fwAt .receiving [1] true 5).fw.owner = some 0
      ∧ (fwAt .receiving [1] true 5).fw.image.length < 2 ^ 64)
    ∧ (∀ len ∈ [2, 3], (fwAt .receiving [1] true len).fw.headerOk = true ∧ (fwAt .receiving [1] true len).fw.imageLen = len
      ∧ (fwAt .receiving [1] true len).fw.image.length + [(2 : Byte)].length ≤ len)
    ∧ (header1.length = 772 ∧ 772 < fieldAt ([] ++ header1) 16 8)
    ∧ (fwAt .receiving [] false 0).headerReason ([] ++ header1) true = 0
    ∧ ((List.replicate 772 (0 : Byte)).length = 772 ∧ (fwAt .receiving [] false 0).headerReason ([] ++ List.replicate 772 0) true ≠ 0) := by
  and_intros <;> first | decide +kernel | exact header1_reason

theorem meets_FirmwareIsExchangedAndFallsBack :
    (∀ p ∈ [FwPhase.activating, .confirming], (fwAt p [] true 0).canSwap = true ∧ (fwAt p [] true 0).fw.phase = p
      ∧ (fwAt p [] true 0).od.twoFormat = [] ∧ (fwAt p [] true 0).boundWork = false ∧ (fwAt p [] true 0).canPowered = true)
    ∧ ((fwAt .activating [] true 0).exchange.fw.unchanged.contains 3 = true
      ∧ (fwAt .activating [] true 0).exchange.fw.unchanged.contains 4 = true)
    ∧ ((holding (fwAt .activating [] true 0) boundSlot).canSwap = true ∧ (holding (fwAt .activating [] true 0) boundSlot).boundWork = true
      ∧ (holding (fwAt .activating [] true 0) boundSlot).admin.pauseStage = 0)
    ∧ ((1 : Fin 7) ≠ 0) := by
  and_intros <;> decide +kernel

/-! ## Incidents, flash and media -/

/-- A second hold that is due. -/
def second1 : IncidentHold := { dt := 7, toDt := some 9, tick := 0 }
/-- INCIDENT is released, and the interval after the last assertion runs or not. -/
def incident1 (low : Bool) (since : Option Nat) (first : Bool) : State :=
  { up with power := { up.power with incidentLow := low, rearmSince := since, firstOpen := first, afterDue := [second1] } }
/-- Slot 447 executes an INCIDENT hold. -/
def incident2 : State := { up with seq := { up.seq with slots := [(447, { slotOf [] with incident := some second1 })] } }

theorem meets_IncidentsHoldTheirWindow :
    (∀ l, ∀ t ∈ [none, some 0], ∀ f, (incident1 l t f).incidentSeen = true ∧ (incident1 l t f).power.incidentLow = l
      ∧ (incident1 l t f).power.firstOpen = f)
    ∧ ((incident1 false (some 0) true).rearming = true ∧ (incident1 false none true).rearming = false
      ∧ (incident1 false none false).rearming = false)
    ∧ ((incident1 false none true).seq.slots = [] ∧ (incident1 false none true).power.incidentLatched = []
      ∧ (incident1 false none true).activeHolds.length < 4096
      ∧ ((incident1 false none true).slot 447).state = .free ∧ (incident1 false none true).power.afterDue = [second1]
      ∧ second1.toDt.isSome = true ∧ (incident1 false none true).secondAtLoad = false)
    ∧ (let s : State := { incident1 false none true with kv := { up.kv with loaded := false }
                                                         power := { (incident1 false none true).power with startKind := 0 } }
      s.live = true ∧ s.kv.loaded = false ∧ s.val Od.KEYSTORE_STATE ≠ 2 ∧ s.cipher.rootKey = true ∧ s.power.startKind ≤ 1
        ∧ s.incidentSeen = true ∧ s.power.firstOpen = true ∧ s.power.afterDue = [second1] ∧ (s.slot 447).state = .free
        ∧ s.power.incidentLatched = [])
    ∧ (incident2.incidentSeen = true ∧ (incident2.slot 447).state = .executing ∧ (incident2.slot 447).incident = some second1
      ∧ incident2.activeHolds.length < 4096) := by
  and_intros <;> decide +kernel

/-- Bin `b` has stripe 1, of some state, with records. -/
def striped (b : Nat) (x : Stripe) (rs : List Record) : State :=
  { up with
    kv := { up.kv with versions := [plain1], records := rs }
    flash := { up.flash with stripes := [(1, { x with bin := b })], bins := [(b, { isOpen := true, quantum := 0, stripe := some 1 })] } }
/-- A record that waits for bin 32 and fills a row line of its stripe. -/
def lineState : State := striped 32 { state := .isOpen } [record1 40000000 .pocket (some 32)]
/-- An INDEX stripe is open, and the journal holds so many records. -/
def indexState (n : Nat) : State :=
  { striped 35 { state := .isOpen, qlc := false } [] with
    pocket := { up.pocket with journal := List.replicate n { type := 1, csn := 5 } } }
/-- FLUSH asks for the journal. -/
def flushing1 (n : Nat) : State := let s := indexState n; { s with seq := { s.seq with flushing := [9] } }
/-- A place of version 5 from 0 on. -/
def place1 : PlacedRec := { csn := 5, ns := 16, key := [1], kind := 0, size := 4096, stop := 4096 }
def programming (b : Nat) : State := striped b { state := .isOpen, inFlight := true, records := [place1], placed := 4096 } []

theorem meets_RecordsReachTheirStripes :
    (let a := lineState.assignBins
      let x := a.stripe 1
      lineState.live = true ∧ (32 : Fin 37).val < 35 ∧ a.openStripeOf? 32 = some 1 ∧ x.inFlight = false ∧ a.gussetHolds x = false
        ∧ (a.partialLine? 32).isSome = true
        ∧ x.programmed + nextLineBytes a.hw.grade x
          ≤ (placeUntil (stripeSpace a.hw.grade x) (nextLineBytes a.hw.grade x) (a.waiting 32) x).placed)
    ∧ (∀ s ∈ [indexState 1, flushing1 1, indexState 15360], s.live = true ∧ (s.openStripeOf? 35).isSome = true
      ∧ s.indexLine? = some 1 ∧ (s.stripe 1).inFlight = false ∧ s.gussetHolds (s.stripe 1) = false
      ∧ (s.stripe 1).pages.length - (s.stripe 1).programmed / 16384 = 0)
    ∧ ((indexState 1).pocket.journal.length < 256 * (nextLineBytes up.hw.grade ((indexState 1).stripe 1) / 16384)
      ∧ (indexState 1).flushNeeds 35 = false ∧ (flushing1 1).flushNeeds 35 = true ∧ 0 < (flushing1 1).pocket.journal.length
      ∧ 256 * (nextLineBytes up.hw.grade ((indexState 15360).stripe 1) / 16384) ≤ 15360)
    ∧ (∀ b ∈ [32, 35], ((programming b).stripe 1).state = .isOpen ∧ ((programming b).stripe 1).inFlight = true
      ∧ ((programming b).stripe 1).bin = b ∧ ((programming b).stripe 1).condemned = false
      ∧ place1 ∈ ((programming b).stripe 1).records ∧ place1.copy = false ∧ ((programming b).stripe 1).programmed < place1.stop
      ∧ place1.stop ≤ ((programming b).stripe 1).programmed + nextLineBytes up.hw.grade ((programming b).stripe 1))
    ∧ ((indexState 1).kv.records.all (fun r => !r.waits) = true ∧ (indexState 1).pocket.journal ≠ [])
    ∧ (∀ s ∈ [striped 0 { state := .isOpen } [record1 40 .pocket (some 0)]], (s.bin 0).isOpen = true ∧ s.openStripeOf? 0 = some 1
      ∧ s.clock.expiry < ((s.bin 0).quantum + 1) * (s.val Od.BIN_WIDTH * 1000000000))
    ∧ (let s : State := { striped 0 { state := .isOpen } [] with clock := { up.clock with expiry := 2 ^ 62 } }
      (s.bin 0).isOpen = true ∧ ((s.bin 0).quantum + 1) * (s.val Od.BIN_WIDTH * 1000000000) ≤ s.clock.expiry) := by
  and_intros <;> decide +kernel

theorem indexState_binsOwn : (indexState 1).binsOwn := by
  intro b i h
  change (SMap.getD [(35, ({ isOpen := true, quantum := 0, stripe := some 1 } : Bin))] b {}).stripe = some i at h
  unfold SMap.getD SMap.get? at h
  split at h
  · obtain rfl : 1 = i := by simpa using h
    subst b
    rfl
  · simp [SMap.get?] at h

/-- A stripe of a state in a bin, and a record in it or not. -/
def stripe2 (st : StripeState) (b : Nat) (inside : Bool) : State :=
  striped b { state := st, records := [place1], placed := 4096 } (if inside then [record1 4096 (.flash 1) none] else [])
/-- SMALL-FOLD is folded from two per cent on. -/
def folding1 : State := (stripe2 .full 34 true).setVal Od.FOLD_START 2
/-- The copy of the record is durable; plane 0 has bound a block to the stripe. -/
def copied1 : State := striped 0 { state := .reclaim, records := [place1], placed := 4096 } [{ record1 4096 (.flash 1) none with copy := some 7 }]
def bound1 : State := let s := stripe2 .erasing 0 false; { s with flash := { s.flash with planes := [(0, { map := [(1, 9)] })] } }

theorem meets_StripesAreCollected :
    up.live = true
    ∧ ((stripe2 .full 0 true).backgroundRuns = true ∧ (stripe2 .full 0 true).flash.collecting = none
      ∧ (stripe2 .full 0 true).victim? = some (1, false) ∧ folding1.backgroundRuns = true ∧ folding1.flash.collecting = none
      ∧ folding1.victim? = some (1, true) ∧ up.victim? = none)
    ∧ (folding1.flash.folding = none ∧ folding1.foldDue = true ∧ folding1.oldestFold? = some 1)
    ∧ (∀ s ∈ [stripe2 .reclaim 0 false, copied1], (s.stripe 1).state = .reclaim ∧ s.copiesDurable 1 = true ∧ s.endedCovered 1 = true
      ∧ s.flash.folding = none)
    ∧ copied1.liveIn 1 ≠ [] ∧ (stripe2 .reclaim 0 true).copiesDurable 1 = false
    ∧ ((bound1.stripe 1).state = .erasing ∧ bound1.stripeNeeded 1 = false ∧ bound1.val Od.GUSSET_STATE ≠ 1
      ∧ SMap.get? (bound1.plane 0).map 1 = some 9)
    ∧ (stripe2 .erasing 0 true).stripeNeeded 1 = true
    ∧ up.kv.loaded = true := by
  and_intros <;> decide +kernel

/-- A Gusset of die 9 runs over one stripe or two. -/
def gussetOver (rest : List (Nat × Stripe)) : State :=
  let s := gusset1 up
  { s with flash := { s.flash with stripes := (1, { state := .full }) :: rest } }

theorem meets_MediaFailuresAreCarried :
    (up.live = true ∧ up.backgroundRuns = true ∧ drowsy.backgroundRuns = true ∧ (phase1 .drowse1).backgroundRuns = false)
    ∧ 0 ≤ up.val Od.RELOCATE_BITS
    ∧ (∃ k ∈ (stripe2 .full 0 true).kv.records, k.loc = .flash 1
      ∧ k.csn ∈ (stripe2 .full 0 true).touched 1 (fun a b => (stripe2 .full 0 true).touchesLine 1 ((stripe2 .full 0 true).stripe 1) 0 0 a b))
    ∧ (up.flash.failed.contains 9 = false ∧ up.flash.replaced.contains 9 = false ∧ 9 % 10 = sparePosition up.hw.grade
      ∧ up.odGet 0 Od.SPARE_DIE (9 / 10 + 1) = 0 ∧ 8 % 10 < sparePosition up.hw.grade
      ∧ up.flash.failed.contains 8 = false ∧ up.flash.replaced.contains 8 = false)
    ∧ (∀ r ∈ [[], [(2, ({ state := .full } : Stripe))]], (gussetOver r).val Od.GUSSET_STATE = 1 ∧ ((gussetOver r).stripe 1).state = .full
      ∧ ((gussetOver r).stripe 1).rebuilt = false ∧ (gussetOver r).val Od.GUSSET_DIE < 160 ∧ (gussetOver r).rebuildsNext 1 = true
      ∧ (((gussetOver r).setStripe 1 { (gussetOver r).stripe 1 with rebuilt := true }).onDie = [] ↔ r = [])
      ∧ (gussetOver r).flash.gussetQueue = [])
    ∧ (up.val Od.CHANNELS_LOST).testBit (15 : Fin 16) = false := by
  and_intros <;> decide +kernel

/-! ## Faults inside the module -/

/-- Op engine `e` runs the step of slot 3, and has had machine checks at these seconds; so has the step, on other engines. -/
def stepping (e : Nat) (checks on : List Nat) (spares : Bool) : State :=
  { up with seq := { up.seq with
      slots := [(3, { slotOf (msg 0x50 0 0 [] [] []) with mchkOn := on, ope := some e })]
      engines := (e, { slot := some 3, checks := checks }) :: (if spares then [] else (List.range 4).map (fun k => (32 + k, { inService := true }))) } }
/-- The machine checks of op engine 2 within 24 hours. -/
def recent2 (s : State) : List Nat := (s.engine 2).checks.filter (fun at_ => decide (s.seconds < at_ + 86400))
/-- An op engine whose store is reloaded. -/
def reloading1 : State := { up with seq := { up.seq with engines := [(2, { reloading := true })] } }
/-- A read that waits for parity. -/
def retry1 : State := holding get1 { get1.slot 3 with retry := some (.parity 0) }

theorem meets_StepsRestartAfterFaults :
    (∀ c ∈ [[], [0], [0, 0]], ((stepping 2 c [7] true).engine 2).slot = some 3 ∧ ((stepping 2 c [7] true).slot 3).mchkOn.length < 2
      ∧ recent2 (stepping 2 c [7] true) = c)
    ∧ ((35 < 36 ∧ 35 ≠ 2) ∧ ((stepping 2 [0, 0] [] true).engine 35).inService = false
      ∧ ((stepping 2 [0, 0] [] true).engine 35).retired = false)
    ∧ (∀ k, k < 36 → k ≠ 2 →
      ((stepping 2 [0, 0] [] false).engine k).inService = true ∨ ((stepping 2 [0, 0] [] false).engine k).retired = true)
    ∧ (((stepping 2 [0] [7, 8] true).engine 2).slot = some 3 ∧ (stepping 2 [0] [7, 8] true).power.rideThrough = false
      ∧ ((stepping 2 [0] [7, 8] true).slot 3).mchkOn.length = 2 ∧ ((stepping 2 [0] [7, 8] true).slot 3).mchkOn.contains 2 = false
      ∧ (stepping 2 [0] [7, 8] true).power.phase = .running)
    ∧ (up.live = true ∧ (up.engine 2).slot = none ∧ (stepping 2 [0] [7] true).live = true)
    ∧ ((reloading1.engine 2).reloading = true ∧ reloading1.power.phase ≠ .hem)
    ∧ (let s : State := { up with flash := { up.flash with msqStopped := [15] } }
      s.flash.msqStopped.contains (15 : Fin 16).val = true)
    ∧ ((retry1.slot 3).retry = some (.parity 0)
      ∧ (retry1.setSlot 3 { retry1.slot 3 with retry := none }).retryOf { retry1.slot 3 with retry := none } (retry1.cmdOf 3) 0 = some (5, 0)) := by
  and_intros <;> decide +kernel

/-- Bank 0 has used so many of its spare rows, and spare banks are in use. -/
def bank1 (used : Nat) (m : SMap Nat) : State := { up with health := { up.health with sramRows := [(0, used)], bankFor := m } }
/-- A record in the Pocket. -/
def pocket1 : State := { up with kv := { up.kv with records := [record1 40 .pocket none] } }
/-- Holdup energy below its limit is told to the supervisor. -/
def holdup1 : State := up.odPut Ev.HOLDUP_LOW Od.EVENT_ROUTE 0 1
def lpddr1 : State := { up with health := { up.health with lpddrCopying := [1] } }

/-- Which records a line group holds is a free value of the module: the clause for a line with a record asks that it holds one. -/
theorem meets_PartsAreSparedAndHealthFollows :
    (up.canPowered = true ∧ up.seam.orphan = false)
    ∧ (let s : State := { up with seam := { up.seam with orphan := true } }
      s.canPowered = true ∧ s.seam.orphan = true ∧ s.seam.orphanLong = false)
    ∧ (SMap.getD (bank1 31 []).health.sramRows 0 0 < 32 ∧ 32 ≤ SMap.getD (bank1 32 []).health.sramRows 0 0
      ∧ (bank1 32 []).health.banksFailed.contains 0 = false ∧ (bank1 32 []).bankRole 0 = some 0
      ∧ (24 ≠ 0 ∧ (bank1 32 []).health.banksFailed.contains 24 = false ∧ SMap.get? (bank1 32 []).health.bankFor 24 = none)
      ∧ ¬ SMap.get? (bank1 32 [(24, 3), (25, 4)]).health.bankFor 24 = none ∧ ¬ SMap.get? (bank1 32 [(24, 3), (25, 4)]).health.bankFor 25 = none)
    ∧ (Config.entryInGroup 7 5 = true →
      pocket1.live = true ∧ pocket1.kv.records.any (fun r => r.loc == .pocket && Config.entryInGroup (7 : BitVec 17).toNat r.csn) = true)
    ∧ ((1 : BitVec 10).getLsbD 0 = true ∧ (1 : BitVec 10).getLsbD 1 = false ∧ up.odGet 0 Od.CIPHER_CORE_STATE (1 + 1) = 1
      ∧ (16 : BitVec 5).getLsbD 4 = true)
    ∧ ([(0 : BitVec 16)][0]? = some 0 ∧ [(0 : BitVec 14)][0]? = some 0 ∧ cellBad (0 : BitVec 16).toNat (0 : BitVec 14).toNat = true
      ∧ (11999 : BitVec 32).toNat < 12000 ∧ holdup1.tells Ev.HOLDUP_LOW)
    ∧ (up.power.phasesOff.contains 256 = false ∧ (let s : State := { up with power := { up.power with phasesOff := [256] } }
      s.power.phasesOff.contains 256 = true))
    ∧ (up.health.lpddrCopying.contains 7 = false ∧ (up.val Od.LPDDR_MAPPED_OUT).testBit 7 = false
      ∧ lpddr1.health.lpddrCopying.contains (1 : Fin 8).val = true) := by
  unfold State.tells
  refine ⟨?_, ?_, ?_, fun h => ⟨by decide +kernel, ?_⟩, ?_, ?_, ?_, ?_⟩
  case refine_4 => simp [pocket1, record1, h]
  all_goals and_intros <;> decide +kernel

/-! ## Time -/

/-- Device time runs, disciplined by a source. -/
def timed (c : ClockState) : State :=
  let s := (({ up with clock := { c with dt := 5000, expiry := 5000, te := 1, running := true } } : State).setVal Od.TIME_SOURCE_ENABLE 3)
  (s.odPut 0 (portIndex 0 0xA) 1 1).setPort 0 { linkUp := true, ptpRole := .slave }
/-- Two edges in a row have agreed outside 1 ms. -/
def edges (k : Nat) : State := timed { source := .pps, ppsAgree := k }
/-- A CAN1 server that consumes TIME. -/
def timeConsumer (src : TimeSource) : State := ((timed { source := src }).odPut 0 Od.CAN_NMT_STATE 1 5).odPut 0 Od.COB_ID_TIME 0 0x80000100
def ppsOut (valid : Nat) (last : Option Nat) (stepped : Bool) : State :=
  ((timed { ppsOutLast := last, ppsStepped := stepped }).setVal Od.TIME_VALID valid).setVal Od.PPS_OUT_ENABLE 1
/-- A value that expires. -/
def expiring : State := kvState [] [{ plain1 with expiry := some 6000 }]

theorem meets_TimeIsDisciplined :
    ((timed {}).live = true ∧ (timed {}).clock.running = true ∧ (timed {}).ptpSlave (0 : Fin 6) = true
      ∧ bitOf 0 ((timed {}).val Od.TIME_SOURCE_ENABLE) = true ∧ (timed {}).clock.te < 0xFFFF
      ∧ ((timed {}).val Od.STEP_THRESHOLD : Int) < 2 ^ 40)
    ∧ ((timed { source := .ptp, syncSince := true }).clock.source = .ptp ∧ (timed { source := .ptp, syncSince := true }).clock.holdover = false
      ∧ (timed { source := .ptp, syncSince := true }).clock.syncSince = true)
    ∧ ((edges 2).clock.source = .pps ∧ 1000000 < (1000001 : Int).natAbs ∧ 2 ≤ (edges 2).clock.ppsAgree ∧ ¬ 2 ≤ (edges 1).clock.ppsAgree
      ∧ (1000000 : Int).natAbs ≤ 1000000)
    ∧ ((timed {}).clock.source = .free ∧ (timed { source := .ptp }).clock.syncSince = false)
    ∧ (∀ src ∈ [TimeSource.free, .pps], (timeConsumer src).sdoServed (0 : Fin 2) = true
      ∧ bitOf 31 ((timeConsumer src).odGet ((timeConsumer src).netEntries 0) Od.COB_ID_TIME 0) = true ∧ (timeConsumer src).clock.source = src)
    ∧ ((edges 0).live = true ∧ (edges 0).clock.source ≠ .free ∧ (edges 0).clock.holdover = false
      ∧ (timed { source := .pps, holdover := true }).clock.source ≠ .free ∧ (timed { source := .pps, holdover := true }).clock.holdover = true)
    ∧ ((ppsOut 1 none true).live = true ∧ (ppsOut 1 none true).clock.running = true ∧ (ppsOut 1 none true).val Od.TIME_VALID = 1
      ∧ (ppsOut 1 none true).val Od.PPS_OUT_ENABLE = 1 ∧ (ppsOut 1 none true).clock.ppsOutLast = none
      ∧ (ppsOut 1 (some 0) false).clock.ppsStepped = false)
    ∧ ((ppsOut 1 (some 0) true).clock.ppsOutLast = some 0 ∧ (ppsOut 1 (some 0) true).clock.ppsStepped = true
      ∧ (ppsOut 1 (some 0) true).clock.ticks < 0 + 62500000 ∧ (ppsOut 0 none false).val Od.TIME_VALID ≠ 1)
    ∧ (up.val Od.CLK_STATE = 0 ∧ (up.setVal Od.CLK_STATE 1).val Od.CLK_STATE = 1)
    ∧ (expiring.newest.find? (fun v => v.ns == (16 : BitVec 12).toNat && v.key == [1]) = some { plain1 with expiry := some 6000 }
      ∧ expiring.clock.running = true ∧ expiring.clock.expiry < 6000 ∧ 6000 < 2 ^ 64 ∧ expiring.isHeld plain1.stamp.csn = false) := by
  and_intros <;> decide +kernel

/-! ## Ports -/

/-- Port P2 of a state, enabled; takeover is enabled for it. -/
def ported (x : Port) : State := (up.setVal 0x2200 1).setPort 1 x
def linked1 : Port := { linkUp := true, speed := 2 }

theorem meets_LinksComeAndGo :
    ((ported {}).mayLink 1 = true ∧ ((ported {}).port 1).linkUp = false ∧ (ported {}).speedAllowed 1 (2 : Fin 6) = true
      ∧ bitOf 4 ((ported {}).phyConfig 1) = true)
    ∧ ((ported {}).odPut Ev.MAC_LINK_UP Od.EVENT_ROUTE 0 1).tells Ev.MAC_LINK_UP
    ∧ ((ported { heldDown := true }).mayLink 1 = false ∧ (ported { removed := [2] }).speedAllowed 1 (2 : Fin 6) = false)
    ∧ ((ported linked1).port 1).linkUp = true
    ∧ (∀ c, ((ported linked1).session c).noticeMask = 0)
    ∧ ((ported linked1).receives 1 = true ∧ (ported linked1).takeoverEnabled 1 = true ∧ ((ported linked1).port (pairOf 1)).linkUp = false
      ∧ ((ported linked1).port 1).takeover = 0)
    ∧ (SMap.get? (withSession (ported linked1) open1).wkp.sessions 0 = some open1 ∧ open1.port = pairOf 1)
    ∧ ((ported { linked1 with announceDue := true }).receives 1 = true ∧ ((ported { linked1 with announceDue := true }).port 1).announceDue = true)
    ∧ ((ported { linked1 with takeover := 2 }).receives 1 = true ∧ ((ported { linked1 with takeover := 2 }).port 1).takeover = 2) := by
  unfold State.tells
  refine ⟨?_, ?_, ?_, ?_, fun _ => rfl, ?_, ?_, ?_, ?_⟩
  all_goals and_intros <;> decide +kernel

/-- Port P2 under a mode of PORT_FLOW, XOFF 75 and XON 50, all priorities enabled. -/
def flowing (mode : Nat) (x : Port) : State := (ported { x with linkUp := true }).setVal (portIndex 1 8) (mode * 2 ^ 30 + 255 * 2 ^ 16 + 75 * 256 + 50)
def fillTo (n : Nat) (xoff : List Nat) : Port := { rxq := [(3, n, 3)], xoff := xoff }

theorem meets_PauseHoldsQueues :
    (∀ m ∈ [0, 1, 2], (flowing m {}).receives 1 = true ∧ (flowing m {}).flowMode 1 = m)
    ∧ (((flowing 1 {}).port 1).ignoring = [] ∧ ((flowing 1 { ignoring := [0] }).port 1).ignoring ≠ [])
    ∧ (3 ∈ queuesOf 1 ∧ (8 : BitVec 8).getLsbD 3 = true ∧ (flowing 2 {}).pfcEnabled 1 3 = true)
    ∧ (let s := (flowing 2 { held := [(3, 7)] }).setVal (portIndex 1 9) 100
      s.val (portIndex 1 9) ≠ 0 ∧ (SMap.get? (s.port 1).held 3).isSome = true ∧ 3 ∈ s.timerQueues 1 3 ∧ 4 ∉ s.timerQueues 1 3)
    ∧ ((flowing 2 {}).setVal (portIndex 1 9) 0).val (portIndex 1 9) = 0
    ∧ (∀ p ∈ [(1, 4000000), (2, 500000)], (flowing p.1 (fillTo p.2 [])).sendsPause 1 3 = true
      ∧ (flowing p.1 (fillTo p.2 [])).fillAbove 1 3 ((flowing p.1 (fillTo p.2 [])).xoffOf 1) = true
      ∧ (flowing p.1 (fillTo p.2 [])).fillAbove 1 3 ((flowing p.1 (fillTo p.2 [])).xonOf 1) = true
      ∧ ((flowing p.1 (fillTo p.2 [])).port 1).xoff.contains ((flowing p.1 (fillTo p.2 [])).pauseMark 1 3) = false
      ∧ ((flowing p.1 (fillTo p.2 [0, 3])).port 1).xoff.contains ((flowing p.1 (fillTo p.2 [])).pauseMark 1 3) = true
      ∧ (flowing p.1 (fillTo 64 [0, 3])).fillBelow 1 3 ((flowing p.1 (fillTo 64 [])).xonOf 1) = true)
    ∧ (flowing 0 {}).sendsPause 1 3 = false := by
  and_intros <;> decide +kernel

def frame1 : Frame := { len := 64, carried := .wkp 7311 3, dest := .own }
def sending (kind : Option (BitVec 32 × Nat × Nat)) (k : Nat) : State :=
  ported { linked1 with
    inFlight := some { bytes := 64, msg := .echoReply, stampKind := kind }
    txq := [(3, [{ bytes := 64, msg := .echoReply }])], tsq := List.replicate k ⟨5, 3, 6, 16385, 3, false, 0⟩ }
/-- P2 takes part in PTP. -/
def ptp1 (role : PtpRole) : State := (ported { linked1 with ptpRole := role }).odPut 0 (portIndex 1 0xA) 1 1
/-- P2 has an IPv4 address, and has answered echoes in this second. -/
def echoing (k : Nat) : State := (ported { linked1 with echoCount := k }).setVal (portIndex 1 4) 5

theorem meets_FramesArePassedAndSent :
    ((ported linked1).receives 1 = true ∧ (ported {}).receives 1 = false)
    ∧ ((ported linked1).earlyDiscard? 1 { frame1 with fcsOk := false } = some 18 ∧ (ported linked1).earlyDiscard? 1 frame1 = none
      ∧ ({ frame1 with control := some true } : Frame).control.isSome = true ∧ frame1.control = none
      ∧ (ported linked1).lateDiscard? 1 { frame1 with dest := .otherUnicast } = some 23 ∧ (echoing 0).lateDiscard? 1 frame1 = none)
    ∧ (∀ k ∈ [0, 63, 64], ((sending (some (1, 6, 3)) k).port 1).inFlight = some { bytes := 64, msg := .echoReply, stampKind := some (1, 6, 3) }
      ∧ ((sending (some (1, 6, 3)) k).port 1).tsq.length = k)
    ∧ (((sending (some (0, 6, 0)) 0).port 1).inFlight = some { bytes := 64, msg := .echoReply, stampKind := some (0, 6, 0) }
      ∧ (0 : Nat) ≠ 3 ∧ queueBytes (SMap.getD ((sending (some (0, 6, 0)) 0).port 1).txq 6 []) + 94 ≤ 524288)
    ∧ (((sending none 0).port 1).linkUp = true ∧ ((sending none 0).port 1).control = [] ∧ nextQueue? ((sending none 0).port 1) = some 3
      ∧ SMap.getD ((sending none 0).port 1).txq 3 [] = [{ bytes := 64, msg := .echoReply }])
    ∧ (∀ k c, ((sending k 0).session c).noticeMask = 0)
    ∧ ((ported linked1).port 1).inFlight = none
    ∧ ((echoing 0).val (portIndex 1 4) ≠ 0 ∧ (ported linked1).val (portIndex 1 4) = 0 ∧ ((echoing 0).port 1).takeover ≠ 1
      ∧ ({ forPartner := true } : Asker).forPartner = true ∧ ({} : Asker).forPartner = false)
    ∧ (∀ k ∈ [0, 99, 100], ((echoing k).port 1).echoCount = k ∧ (echoing k).receives 1 = true)
    ∧ (queueBytes (SMap.getD ((echoing 0).port 1).txq 0 []) + 64 ≤ 524288
      ∧ queueBytes (SMap.getD ((echoing 0).port 1).txq 6 []) + 64 ≤ 524288 ∧ queueBytes (SMap.getD ((ptp1 .master).port 1).txq 6 []) + 94 ≤ 524288
      ∧ queueBytes (SMap.getD ((ptp1 .master).port 1).txq 7 []) + 72 ≤ 524288)
    ∧ (∀ r ∈ [PtpRole.master, .slave], (ptp1 r).receives 1 = true ∧ (ptp1 r).ptpOn 1 = true ∧ ((ptp1 r).port 1).ptpRole = r) := by
  refine ⟨?_, ?_, ?_, ?_, ?_, fun _ _ => rfl, ?_, ?_, ?_, ?_, ?_⟩
  all_goals and_intros <;> decide +kernel

theorem meets_PortEntriesAreServed :
    ((sending none 64).pathServed .supervisor = true ∧ ((sending none 64).port 1).tsq.length ≤ 64 ∧ 1 ≤ up.pathLevel (pathCode .supervisor)
      ∧ (52 : Fin 53).val ≠ 0)
    ∧ found (portIndex 1 0) 0 (fun r => r.wr.isSome && !lengthBad (portIndex 1 0) r.ty 0 [0] && !up.stateRefuses 0 (portIndex 1 0) 0 r
      && odNumeric r.ty && up.rangeOk (portIndex 1 0) r.range 0) = true
    ∧ found (portIndex 1 1) 0 (fun r => r.wr.isSome && !lengthBad (portIndex 1 1) r.ty 0 [0x0F, 0x70] && !up.stateRefuses 0 (portIndex 1 1) 0 r
      && odNumeric r.ty && r.ty != .bool && !up.rangeOk (portIndex 1 1) r.range 0xFFFF && up.rangeOk (portIndex 1 1) r.range (up.val (portIndex 1 1))) = true
    ∧ found (portIndex 1 7) 0 (fun r => r.wr.isSome && !lengthBad (portIndex 1 7) r.ty 0 (toBE 2 1500) && odNumeric r.ty && r.ty != .bool
      && up.rangeOk (portIndex 1 7) r.range 1500) = true
    ∧ found (portIndex 1 5) 2 (fun r => r.wr.isSome && !odNumeric r.ty && !lengthBad (portIndex 1 5) r.ty 0 (List.replicate 16 1)
      && !up.stateRefuses 0 (portIndex 1 5) 2 r) = true := by
  and_intros <;> decide +kernel

/-! ## CAN networks -/

/-- Network CAN1 of a node that is Operational, with level 3. -/
def netOf (x : CanNet) : State := (canUp.odPut 0 Od.CAN_SDO_LEVEL 1 3).setNet 0 x

theorem meets_NodesFollowNmtAndErrors :
    (∀ node ∈ [0, 0x3A], canUp.nmtFor 0 (BitVec.ofNat 8 node) = true)
    ∧ (canUp.nmtFor 0 1 = false ∧ (canUp.net 0).pendNode.getD (canUp.net 0).node ≠ 255)
    ∧ (let s := (canUp.odPut 0 Od.CAN_NMT_STATE 2 5)
      s.nmtFor 1 0 = true ∧ (s.net 1).mode ≠ 1 ∧ s.val Od.CAN2_MODE ≠ 1)
    ∧ (let s := canUp.odPut 0 Od.PRODUCER_HEARTBEAT_TIME 0 100
      s.canServed 0 = true ∧ s.nmt 0 ≠ 0 ∧ s.odGet (s.netEntries 0) Od.PRODUCER_HEARTBEAT_TIME 0 ≠ 0)
    ∧ (canUp.canPowered = true ∧ (canUp.net 0).busOff = false ∧ bitOf 31 (canUp.odGet (canUp.netEntries 0) Od.COB_ID_EMCY 0) = false
      ∧ (canUp.net 0).emcy = [] ∧ (canUp.net 0).inhibited = false ∧ canUp.emcyServed 0 = true ∧ (netOf { passive := true }).errorRegister 0 ≠ 0)
    ∧ ((netOf { busOff := true }).canPowered = true ∧ ((netOf { busOff := true }).net 0).busOff = true)
    ∧ (let s := (netOf { emcy := [(0x8120, [0, 0, 0, 0, 0])] }).odPut 0 Od.INHIBIT_TIME_EMCY 0 10
      (s.net 0).emcy = (0x8120, [0, 0, 0, 0, 0]) :: [] ∧ s.emcyServed 0 = true ∧ 0 < s.odGet (s.netEntries 0) Od.INHIBIT_TIME_EMCY 0)
    ∧ atLevel up 1 = true := by
  and_intros <;> decide +kernel

/-- A transfer of entry 0x2021, or of one of four bytes. -/
def transfer (upload block : Bool) (x : Nat) (size : Option Nat) (data : Bytes) : State :=
  netOf { sdo := some { upload := upload, key := 0, index := x, sub := 0, level := 3, size := size, block := block, data := data } }

theorem meets_SdoServersTransfer :
    ((netOf {}).sdoServed 0 = true ∧ ((netOf {}).net 0).sdo = none ∧ matcherEntry 0x2021 = false)
    ∧ (initRefusal false ((netOf {}).pathLevel 1) 0xFFFF 0 = some .noEntry ∧ initRefusal false ((netOf {}).pathLevel 1) 0x2021 0 = none
      ∧ initRefusal true ((netOf {}).pathLevel 1) 0xFFFF 0 = some .noEntry)
    ∧ found 0x2021 0 (fun r => r.wr == some 2 && decide (2 ≤ (netOf {}).pathLevel 1) && odNumeric r.ty && r.ty != .bool
      && !lengthBad 0x2021 r.ty 0 [1] && (netOf {}).rangeOk 0x2021 r.range (leNat [1]) && !(netOf {}).stateRefuses 0 0x2021 0 r
      && plainEntry 0x2021) = true
    ∧ ((1 : BitVec 32).toNat = [(1 : Byte)].length ∧ (2 : BitVec 32).toNat ≠ [(1 : Byte)].length)
    ∧ ((transfer false false 0x2021 none []).sdoServed 0 = true ∧ ((transfer false false 0x2021 none []).net 0).sdo.isSome = true)
    ∧ found 0x2021 0 (fun r => r.rd.isSome && odWidth r.ty == some 1 && (measuredEntry 0x2021).isNone) = true
    ∧ found 0x200B 0 (fun r => r.rd.isSome && odWidth r.ty == some 8 && odNumeric r.ty && (measuredEntry 0x200B).isNone) = true
    ∧ (∀ u, ∀ b, ((transfer u b 0x2021 (some 1) [1]).net 0).sdo.isSome = true)
    ∧ ((some 3 : Option Nat) = some 3 ∧ 3 ≠ ([(1 : Byte)] ++ [1]).length ∧ 1 = (([] : Bytes) ++ [1]).length ∧ 0x2021 < 65536) := by
  and_intros <;> decide +kernel

/-- Network CAN1 with TPDO1 mapped to one entry, of a transmission type. -/
def tpdo1 (type : Nat) (x : CanNet) : State :=
  ((((netOf x).odPut 0 0x1800 1 0x1BA).odPut 0 0x1800 2 type).odPut 0 0x1800 5 100).odPut 0 0x1A00 0 1 |>.odPut 0 0x1A00 1 0x20210008
/-- RPDO1, mapped to an entry of eight bits, or to no entry. -/
def rpdo1 (type word : Nat) : State := (((netOf {}).odPut 0 0x1400 1 0x201).odPut 0 0x1400 2 type).odPut 0 0x1600 0 1 |>.odPut 0 0x1600 1 word

theorem meets_PdosCarryValues :
    (∀ k ∈ [0, 1, 240, 241, 254, 255], (tpdo1 k {}).canServed 0 = true ∧ (tpdo1 k {}).nmt 0 = 5 ∧ ((tpdo1 k {}).net 0).rpdos = []
      ∧ (tpdo1 k {}).netEntries 0 = 0 ∧ (tpdo1 k {}).odGet 0 0x1800 2 = k ∧ (tpdo1 k {}).tpdoOn 0 0 = true
      ∧ SMap.get? ((tpdo1 k {}).net 0).lastSent 0 = none ∧ (tpdo1 k {}).tpdoInhibited 0 0 = false
      ∧ (tpdo1 k {}).odGet 0 0x1800 5 ≠ 0)
    ∧ (SMap.getD ((tpdo1 2 { syncs := [(0, 1)] }).net 0).syncs 0 0 = 1 ∧ 2 ≤ 1 + 1 ∧ 1 + 1 < 3)
    ∧ (canUp.odPut 0 Od.CAN_NMT_STATE 1 4).nmt 0 ≠ 5 ∧ canUp.tpdoOn 0 4 = false
    ∧ (∀ t ∈ [240, 241], (rpdo1 t 0x20210008).canServed 0 = true ∧ (rpdo1 t 0x20210008).nmt 0 = 5
      ∧ bitOf 31 ((rpdo1 t 0x20210008).odGet 0 0x1400 1) = false ∧ (rpdo1 t 0x20210008).rpdoHeld 0 0 = false
      ∧ (rpdo1 t 0x20210008).mapping 0 0x1600 = [0x20210008] ∧ (rpdo1 t 0x20210008).odGet 0 0x1400 2 = t)
    ∧ (8 * ([] : Bytes).length < mapLength [0x20210008] ∧ [(1 : Byte)].length = ceilDiv (mapLength [0x20210008]) 8
      ∧ mapWord 0x20210008 = (0x2021, 0, 8) ∧ leNat [(1 : Byte)] % 2 ^ 8 = 1)
    ∧ found 0x2021 0 (fun r => r.wr == some 2 && decide (2 ≤ (rpdo1 241 0x20210008).pathLevel 1) && odNumeric r.ty && r.ty != .bool
      && odWidth r.ty == some (ceilDiv 8 8) && (rpdo1 241 0x20210008).rangeOk 0x2021 r.range 1
      && !(rpdo1 241 0x20210008).stateRefuses 0 0x2021 0 r && plainEntry 0x2021) = true
    ∧ ((rpdo1 255 0x33330008).mapping 0 0x1600 = [0x33330008] ∧ mapWord 0x33330008 = (0x3333, 0, 8) ∧ missing 0x3333 0 .noEntry = true) := by
  and_intros <;> decide +kernel

/-- The LSS address of CAN1 as four numbers of 32 bits. -/
def lssAddress (s : State) : List (BitVec 32) := [1, 2, 3, 4].map (fun k => BitVec.ofNat 32 (s.lssWord 0 k))

theorem meets_LssConfiguresTheNode :
    (up.lssServed 0 = true ∧ (lssAddress up).map (·.toNat) = [up.lssWord 0 1, up.lssWord 0 2, up.lssWord 0 3, up.lssWord 0 4]
      ∧ [(1 : BitVec 32)].map (·.toNat) ≠ [up.lssWord 0 1, up.lssWord 0 2, up.lssWord 0 3, up.lssWord 0 4])
    ∧ (∀ k ∈ [0, 3], ((netOf { node := 255, fastscan := k }).net 0).lss = .waiting ∧ (netOf { node := 255, fastscan := k }).nodeOf 0 = 255
      ∧ (netOf { node := 255, fastscan := k }).lssServed 0 = true ∧ ((netOf { node := 255, fastscan := k }).net 0).fastscan = k)
    ∧ ((31 : Byte).toNat ≤ 31 ∧ up.lssWord 0 1 / 2 ^ 0 = (BitVec.ofNat 32 (up.lssWord 0 1)).toNat / 2 ^ 0
      ∧ up.lssWord 0 1 / 2 ^ 0 ≠ (BitVec.ofNat 32 (up.lssWord 0 1 + 1)).toNat / 2 ^ 0)
    ∧ ((netOf { lss := .configuration, pendRate := some 250 }).lssConfiguring 0 = true
      ∧ ((netOf { lss := .configuration, pendRate := some 250 }).net 0).pendRate = some 250)
    ∧ ((1 ≤ (1 : Byte).toNat ∧ (127 : Byte).toNat ≤ 127) ∧ ¬ ((1 ≤ (0 : Byte).toNat ∧ (0 : Byte).toNat ≤ 127) ∨ (0 : Byte) = 255)
      ∧ ¬ ((1 ≤ (128 : Byte).toNat ∧ (128 : Byte).toNat ≤ 127) ∨ (128 : Byte) = 255))
    ∧ ((lssRate? (0 : Byte).toNat).isSome = true ∧ lssRate? (255 : Byte).toNat = none ∧ (1 : Byte) ≠ 0) := by
  and_intros <;> decide +kernel

/-! ## The Seam and the supervisor -/

def orphan1 : State := { up with seam := { up.seam with orphan := true, up := false, attachSent := true } }
/-- The module has no supervisor yet. -/
def alone : State := { up with seam := { up.seam with attached := false } }
def access (a : BitVec 64) (write partn writable : Bool) : SeamAccess :=
  { address := a, write := write, value := 7, partition := partn, writable := writable, keyMaterial := false }
/-- An event of the engine waits. -/
def queued1 : State := { up with seam := { up.seam with queue := [⟨130, [1], 7, 5⟩] } }
/-- No slot of the supervisor is free. -/
def fullSlots : State := { up with seq := { up.seq with slots := (List.range 63).map (fun k => (384 + k, boundSlot)) } }

/-- The supervisor has written an engine register; it submits a PUT; the value area is full. -/
def written1 : State := { up with seam := { up.seam with registers := [(8, 7)] } }
def putBody : Bytes := msg 1 0 16 [1] (toBE 8 0) [7]

theorem meets_SeamAttachesAndOrphans :
    (up.live = true ∧ up.seam.orphan = false ∧ up.seam.attached = true ∧ alone.seam.attached = false ∧ alone.seam.orphan = false)
    ∧ (orphan1.seam.orphan = true ∧ orphan1.live = true ∧ orphan1.seam.orphanLong = false ∧ orphan1.canPowered = true ∧ orphan1.seam.attachSent = true)
    ∧ ((1 : BitVec 32).toNat < up.seam.attachedSe ∧ up.seam.attachedSe ≤ (2 : BitVec 32).toNat)
    ∧ (up.seam.up = true ∧ accessRefused (access 4294967289 true true true) = true ∧ accessRefused (access 4294967288 true true true) = false
      ∧ accessRefused (access 8 true false false) = true)
    ∧ (∀ w, ∀ p, accessRefused (access 8 w p true) = false)
    ∧ ((access 8 false false true).writable = true ∧ (access 8 false false true).keyMaterial = false
      ∧ ({ access 8 false false true with keyMaterial := true } : SeamAccess).keyMaterial = true
      ∧ accessRefused { access 8 false false true with keyMaterial := true } = false
      ∧ written1.live = true ∧ written1.seam.up = true ∧ SMap.get? written1.seam.registers (access 8 false false true).address.toNat = some 7)
    ∧ (0 < bodyReservation putBody.length (fieldAt putBody 0 1)
      ∧ up.valueAreaUsed + bodyReservation putBody.length (fieldAt putBody 0 1) ≤ 83886080
      ∧ 83886080 < fullPocket.valueAreaUsed + bodyReservation putBody.length (fieldAt putBody 0 1)
      ∧ fullPocket.live = true ∧ fullPocket.seam.up = true ∧ fullPocket.power.firstOpen = true ∧ fullPocket.admin.pauseStage = 0
      ∧ (fullPocket.slot 384).state = .free)
    ∧ up.partitionCanonical
    ∧ (up.power.firstOpen = true ∧ up.admin.pauseStage = 0 ∧ (384 ≤ 446 ∧ 446 < 447 ∧ (up.slot 446).state = .free))
    ∧ (fullSlots.live = true ∧ fullSlots.seam.up = true ∧ fullSlots.power.firstOpen = true ∧ fullSlots.admin.pauseStage = 0)
    ∧ (queued1.live = true ∧ queued1.seam.up = true ∧ queued1.seam.queue = ⟨130, [1], 7, 5⟩ :: [] ∧ 130 ≠ Ev.REC_PENDING_OVF
      ∧ bitOf 0 ((queued1.odPut 130 Od.EVENT_ROUTE 0 1).odGet 130 Od.EVENT_ROUTE 0) = true)
    ∧ ((fullSlots.slot 446).state ≠ .free ∧ fullSlots.resetRefused = false ∧ (phase1 .boot).resetRefused = true)
    ∧ up.pathServed .supervisor = true := by
  unfold State.partitionCanonical
  and_intros <;> decide +kernel

theorem fullSlots_full : ∀ k, 384 ≤ k → k < 447 → (fullSlots.slot k).state ≠ .free := by
  have h : ∀ i, i < 63 → (fullSlots.slot (384 + i)).state ≠ .free := by decide +kernel
  intro k h1 h2
  simpa [Nat.add_sub_cancel' h1] using h (k - 384) (by omega)

/-! ## The whole module -/

theorem meets_StepRunsTheFrontCommand :
    ({ up with pending := [.barrier 3] } : State).pending = .barrier 3 :: [] ∧ up.pending = [] ∧ up.exhausted = [] ∧ up.clock.dt < 2 ^ 64 ∧ up.clock.running = true ∧ up.clock.slew = 0
    ∧ State.reset.clock.running = false := by
  and_intros <;> decide +kernel

theorem meets_OnlyTheAbsoluteMaximumStops :
    beyondMaximum (.supplyOvervoltage 58001 5) = true ∧ beyondMaximum (.supplyReverse false false 36001) = true
    ∧ beyondMaximum (.supplyOvervoltage 58000 5) = false ∧ beyondMaximum (.put 3) = false := by
  and_intros <;> decide +kernel

/-- CSN_LAST ends its block, and a command waits to be bound. -/
def blockEnd : State := { bind1 with pending := [.commandBind 3], seq := { bind1.seq with csnLast := 2 ^ 20 - 1 } }

theorem meets_StepsNeverGoBack :
    (∃ t, step blockEnd = .next t) ∧ (∃ t, step State.reset = .next t) ∧ blockEnd.partitionCanonical
    ∧ (blockEnd.seq.blockHigh = some 0 ∧ blockEnd.seq.csnLast < (0 + 1) * 2 ^ 20) ∧ State.reset.seq.csnLast = 0 := by
  unfold State.partitionCanonical
  refine ⟨⟨_, rfl⟩, ⟨_, rfl⟩, ?_⟩
  and_intros <;> decide +kernel

/-- LIST of at most so many keys from a lower bound on, with a cursor or 0; SEAL_READ from a sequence number on; PING. -/
def list1 (limit cursor : Nat) (vs : List Version) : State :=
  kvState (msg 0x07 0 16 [0] (toBE 1 1 ++ toBE 3 0 ++ toBE 4 limit ++ toBE 8 cursor) [9]) vs
def cursor1 : Cursor := { ident := 5, session := 0, ns := 16, mode := 1, lower := [0], upper := [9], last := [1] }
/-- The cursor is open; two more keys follow its last. -/
def list2 : State :=
  let s := list1 1 5 [plain1, ver [2] (.plain [6]), ver [3] (.plain [6])]
  { s with kv := { s.kv with cursors := [cursor1] } }
def sealOf1 (k : Nat) : Seal :=
  { flags := 0, ns := 16, seqNo := k, stamp := ⟨k, 100, 5⟩, source := .free, keyGen := 0, stepNs := 0, signature := some 9 }
def sealRead1 : State :=
  let s := holding up { slotOf (msg 0x40 0 16 [] (toBE 8 1 ++ toBE 4 2 ++ [0, 0, 0, 0]) []) with params := { state := 1, isSealed := true } }
  { s with seals := { s.seals with chains := [(16, { seals := [sealOf1 0, sealOf1 1] })] } }
def ping1 : State := kvState (msg 0x53 0 0 [] [1, 2, 3, 4, 5, 6, 7, 8] []) []

theorem meets_ListsSealsAndPing :
    (∀ s ∈ [list1 8 0 [plain1], list1 1 0 [plain1, ver [2] (.plain [6])], list1 8 5 [plain1], list2],
      s.runs 3 (isOp 0x07) ∧ (s.cmdOf 3).ns ≠ 0)
    ∧ (((list1 8 0 [plain1]).cmdOf 3).param 8 8 = 0
      ∧ ((list1 8 0 [plain1]).entriesAfter ((list1 8 0 [plain1]).slot 3) ((list1 8 0 [plain1]).cmdOf 3) none).length
        ≤ ((list1 8 0 [plain1]).cmdOf 3).param 4 4)
    ∧ (let s := list1 1 0 [plain1, ver [2] (.plain [6])]
      (s.cmdOf 3).param 8 8 = 0 ∧ (s.cmdOf 3).param 4 4 < (s.entriesAfter (s.slot 3) (s.cmdOf 3) none).length
        ∧ s.sessionLives (s.slot 3) = true ∧ (s.kv.cursors.filter (fun k => k.session == (s.slot 3).session)).length < 16
        ∧ s.kv.cursors.length < 65536)
    ∧ ((list2.cmdOf 3).param 8 8 ≠ 0 ∧ list2.cursorOf? (list2.slot 3) (list2.cmdOf 3) = some cursor1
      ∧ (list2.cmdOf 3).param 4 4 < (list2.entriesAfter (list2.slot 3) (list2.cmdOf 3) (some cursor1.last)).length)
    ∧ (((list1 8 5 [plain1]).cmdOf 3).param 8 8 ≠ 0
      ∧ (list1 8 5 [plain1]).cursorOf? ((list1 8 5 [plain1]).slot 3) ((list1 8 5 [plain1]).cmdOf 3) = none)
    ∧ (sealRead1.runs 3 (isOp 0x40) ∧ (sealRead1.slot 3).params.isSealed = true
      ∧ ((sealRead1.chain (sealRead1.cmdOf 3).ns).seals.filter (fun y => y.signature.isSome && (sealRead1.cmdOf 3).param 0 8 ≤ y.seqNo)).take
        ((sealRead1.cmdOf 3).param 8 4) ≠ [])
    ∧ (let s := kvState (msg 0x40 0 16 [] (toBE 8 1 ++ toBE 4 2 ++ [0, 0, 0, 0]) []) []
      s.runs 3 (isOp 0x40) ∧ (s.slot 3).params.isSealed = false)
    ∧ ping1.runs 3 (isOp 0x53) := by
  unfold State.runs
  and_intros <;> decide +kernel

/-! ## Single steps, with the results that the spec gives -/

/-- The state that a command answers; reset where it answers none. -/
def after (o : Out) : State := match o with | .next t => t | _ => State.reset

/-- A wrapping counter goes round, a saturating one stays at its bound, a refusing one stays as it is (R70). -/
theorem test_cadd_past_the_range :
    ((after (exec (.cadd 3) (cadd1 (some (2 ^ 63 - 1, .wrap)) 3))).valueAt 16 [1] 10 5000).map (·.payload)
        = some (.counter (-2 ^ 63 + 2) .wrap)
    ∧ ((after (exec (.cadd 3) (cadd1 (some (2 ^ 63 - 1, .saturate)) 3))).valueAt 16 [1] 10 5000).map (·.payload)
        = some (.counter (2 ^ 63 - 1) .saturate)
    ∧ ((after (exec (.cadd 3) (cadd1 (some (2 ^ 63 - 1, .refuse)) 3))).valueAt 16 [1] 10 5000).map (·.payload)
        = some (.counter (2 ^ 63 - 1) .refuse) := by
  and_intros <;> decide +kernel

/-- CBADD within its bounds adds, and past a bound it leaves the counter (R71). -/
theorem test_cbadd_bounds :
    ((after (exec (.cbadd 3) (cbadd1 4 5))).valueAt 16 [1] 10 5000).map (·.payload) = some (.counter 9 .refuse)
    ∧ ((after (exec (.cbadd 3) (cbadd1 4 6))).valueAt 16 [1] 10 5000).map (·.payload) = some (.counter 4 .refuse) := by
  and_intros <;> decide +kernel

/-- PUT stores its value; DELETE leaves none (R29). -/
theorem test_put_delete :
    ((after (exec (.put 3) put1)).valueAt 16 [1] 10 5000).map (·.payload) = some (.plain [7])
    ∧ ((after (exec (.delete 3) (delete1 [plain1]))).valueAt 16 [1] 10 5000).isNone = true := by
  and_intros <;> decide +kernel

/-- NMT start makes a node Operational, state 5; stop makes it Stopped, state 4 (0x2024). -/
theorem test_nmt :
    (after (exec (.nmtStart 0 0) canUp)).nmt 0 = 5 ∧ (after (exec (.nmtStop 0 0) canUp)).nmt 0 = 4
    ∧ (after (exec (.nmtEnterPreOperational 0 0) canUp)).nmt 0 = 127 := by
  and_intros <;> decide +kernel

/-- A supply at 58 V is borne, and one above it is beyond the absolute maximum (Table 19.1). -/
theorem test_absolute_maximum :
    (match exec (.supplyOvervoltage 58000 5) up with | .next _ => true | _ => false) = true
    ∧ (match exec (.supplyOvervoltage 58001 5) up with | .fault _ => true | _ => false) = true := by
  and_intros <;> decide +kernel

/-- A step runs the command at the front and leaves the rest of the queue. -/
theorem test_step :
    (after (step { canUp with pending := [.nmtStop 0 0, .sync 0] })).pending = [.sync 0]
    ∧ (after (step { canUp with pending := [.nmtStop 0 0, .sync 0] })).nmt 0 = 4 := by
  and_intros <;> decide +kernel

/-- The table gives its rows no bits, so a word spells no command. -/
theorem test_no_word_spells_a_command : decodeTableWord 32 0 = none ∧ (State.reset.withFetchWord 32 7) = State.reset := ⟨rfl, rfl⟩

end Sys2Proof.Machine.Tests
end

section
/-! SUPPORT. The words of claims about frames, from the frames of Laws/Events.lean: which groups and entries a step leaves, and
the statistics of the ports through the report of an event. -/

namespace Sys2Proof.Machine

/-! ### Groups and entries -/

/-- Setting a port changes the ports alone. -/
theorem onlyGroups_setPort (s : State) (p : Nat) (x : Port) : OnlyGroups [.ports] s (s.setPort p x) := by
  intro g hg
  cases g
  case ports => simp at hg
  all_goals rfl

/-- A port that starts its next frame changes the ports alone (R423). -/
theorem onlyGroups_startPort (s : State) (p : Nat) : OnlyGroups [.ports] s (s.startPort p) := onlyGroups_setPort s p _

theorem mem_eventEntries_of_eventEntry {x : Nat} (h : eventEntry x = true) : x ∈ eventEntries := by
  simp only [eventEntry, Bool.or_eq_true, beq_iff_eq, Bool.and_eq_true, decide_eq_true_eq] at h
  simp only [eventEntries, List.mem_append, List.mem_cons, List.not_mem_nil, or_false, List.mem_map, List.mem_range, portIndex]
  rcases h with hx | ⟨⟨h1, h2⟩, h3⟩
  · exact .inl (by simpa only [or_assoc] using hx)
  · exact .inr ⟨(x - 0x2210) / 16, by omega, by omega⟩

/-- What a lost link or the report of an event leaves is all that `Reports` claims. -/
theorem LinkFrame.reports {s t : State} (h : LinkFrame s t) : Reports [] [] s t := by
  refine ⟨fun g hg => ?_, fun i x j hx hj hn => h.od i x j hx hj ?_, .inr h.cipher⟩
  · cases g
    case hw => exact h.hw
    case clock => exact h.clock
    case seq => exact h.seq
    case kv => exact h.kv
    case pocket => exact h.pocket
    case flash => exact h.flash
    case matcher => exact h.matcher
    case seals => exact h.seals
    case power => exact h.power
    case health => exact h.health
    case fw => exact h.fw
    case admin => exact h.admin
    case pending => exact h.pending
    case draws => exact h.draws
    all_goals simp [reporting] at hg
  · exact Bool.eq_false_iff.2 fun he => hn (mem_eventEntries_of_eventEntry he)

/-- A setting of a port outside its statistics is left (Table 11.10). -/
theorem LinkFrame.val {s t : State} (h : LinkFrame s t) {x : Nat} (hx : x < 65536) (he : eventEntry x = false) : t.val x = s.val x :=
  h.od 0 x 0 hx (by decide) he

/-! ### Statistics of the ports -/

/-- The statistics of the ports stand as they were, but for TX_QUEUE_DROP (sub 46), which a notice that finds no room in its queue
advances (R425). -/
def StatsKept (s t : State) : Prop := ∀ p sub, p < 7 → sub < 256 → sub ≠ 46 → t.portStat p sub = s.portStat p sub

theorem StatsKept.refl (s : State) : StatsKept s s := fun _ _ _ _ _ => rfl

theorem StatsKept.trans {s t u : State} (h : StatsKept s t) (k : StatsKept t u) : StatsKept s u :=
  fun p sub hp hs hn => (k p sub hp hs hn).trans (h p sub hp hs hn)

theorem StatsKept.ite {s a b : State} {c : Prop} [Decidable c] (ha : StatsKept s a) (hb : StatsKept s b) :
    StatsKept s (if c then a else b) := by
  split <;> assumption

theorem StatsKept.foldl {α : Type} (f : State → α → State) (h : ∀ s a, StatsKept s (f s a)) (l : List α) (s : State) :
    StatsKept s (l.foldl f s) := by
  induction l generalizing s with
  | nil => exact .refl s
  | cons a l ih => exact (h s a).trans (ih (f s a))

/-- An update that leaves the dictionary, the hardware and the networks alone. -/
theorem StatsKept.of_groups {s t : State} (hod : t.od = s.od) (hhw : t.hw = s.hw) (hcan : t.can = s.can) : StatsKept s t :=
  fun _ _ _ _ _ => State.odGet_congr (by rw [hod]) hhw (fun _ => by simp [State.net, hcan]) _ _ _

theorem statsKept_setNet (s : State) (n : Nat) (x : CanNet) (h : x.node = (s.net n).node) : StatsKept s (s.setNet n x) :=
  fun _ _ _ _ _ => State.odGet_setNet s n x h _ _ _

theorem statsKept_setPort (s : State) (p : Nat) (x : Port) : StatsKept s (s.setPort p x) := .of_groups rfl rfl rfl

theorem statsKept_startPort (s : State) (p : Nat) : StatsKept s (s.startPort p) := statsKept_setPort s p _

theorem statsKept_setSession (s : State) (c : Nat) (x : Session) : StatsKept s (s.setSession c x) := .of_groups rfl rfl rfl

theorem statsKept_emit (s : State) (x : Sent) : StatsKept s (s.emit x) := .of_groups rfl rfl rfl

theorem statsKept_perf (s : State) (e n : Nat) : StatsKept s (s.perf e n) := .of_groups rfl rfl rfl

theorem statsKept_setEvents (s : State) (e : EventState) : StatsKept s { s with events := e } := .of_groups rfl rfl rfl

/-- An entry outside the statistics of the ports, or TX_QUEUE_DROP, is written. -/
theorem statsKept_odPut (s : State) (i x j v : Nat) (hx : x < 65536) (hj : j < 256)
    (h : (∀ p, p < 7 → portIndex p 12 ≠ x) ∨ j = 46) : StatsKept s (s.odPut i x j v) := by
  intro p sub hp hs hn
  refine State.odGet_odPut_other s v hx (portIndex_lt hp) hj hs (.inr ?_)
  rcases h with h | rfl
  · exact .inl (h p hp)
  · exact .inr hn

theorem statsKept_portAdd_drop (s : State) (p n : Nat) : StatsKept s (s.portAdd p 46 n) := by
  unfold State.portAdd
  split
  · rename_i hp
    exact (statsKept_odPut s 0 (portIndex p 12) 46 _ (portIndex_lt hp) (by decide) (.inr rfl)).trans (statsKept_perf _ _ _)
  · exact .refl s

theorem statsKept_txPut (s : State) (p q : Nat) (f : TxFrame) : StatsKept s (s.txPut p q f) := by
  unfold State.txPut
  dsimp only
  exact .ite ((statsKept_setPort s _ _).trans (statsKept_startPort _ _)) (statsKept_portAdd_drop s p 1)

theorem statsKept_useKey (s : State) (k : Nat) : StatsKept s (s.useKey k) := by
  have hmiss : StatsKept s ((s.bump Od.KEY_CACHE_MISSES 1 0 64).perf 89 1) :=
    (statsKept_odPut s 0 Od.KEY_CACHE_MISSES 0 _ (by decide) (by decide) (.inl (by decide))).trans (statsKept_perf _ _ _)
  exact (StatsKept.ite (.refl s) hmiss).trans (.of_groups rfl rfl rfl)

theorem statsKept_sessionSend (s : State) (c q : Nat) (m : Msg) (b : Bool) : StatsKept s (s.sessionSend c q m b) := by
  unfold State.sessionSend State.sessionDatagram
  dsimp only
  exact .ite (.refl s)
    (((StatsKept.ite (statsKept_useKey s _) (.refl s)).trans (statsKept_setSession _ c _)).trans (statsKept_txPut _ _ _ _))

theorem statsKept_canSend (s : State) (n cob : Nat) (d : Bytes) : StatsKept s (s.canSend n cob d) := by
  unfold State.canSend
  exact .ite (statsKept_emit s _) (.refl s)

theorem statsKept_emcyLost (s : State) (j : Nat) (hj : j < 256) : StatsKept s (s.bump Od.CNT_EMCY_LOST 1 j) :=
  statsKept_odPut s 0 Od.CNT_EMCY_LOST j _ (by decide) hj (.inl (by decide))

theorem statsKept_emcy (s : State) (n code : Nat) (five : Bytes) (h : n < 2) : StatsKept s (s.emcy n code five) := by
  unfold State.emcy
  dsimp only
  have hout : StatsKept s (s.emcyOut n code five) := (statsKept_canSend s n _ _).trans (statsKept_setNet _ n _ rfl)
  have hlost : ∀ t : State, StatsKept t (t.bump Od.CNT_EMCY_LOST 1 (n + 1)) := fun t => statsKept_emcyLost t (n + 1) (by omega)
  exact .ite (.refl s) (.ite hout (.ite (statsKept_setNet s n _ rfl)
    (.ite ((statsKept_setNet s n _ (by rfl)).trans (hlost _)) (hlost s))))

theorem statsKept_emcyAll (s : State) (code : Nat) (five : Bytes) : StatsKept s (s.emcyAll code five) :=
  (statsKept_emcy s 0 code five (by decide)).trans (statsKept_emcy _ 1 code five (by decide))

theorem statsKept_countRaise (s : State) (src dest : Nat) (ok : Bool) : StatsKept s (s.countRaise src dest ok) :=
  statsKept_setEvents s _

theorem statsKept_addPending (s : State) (r : Rec) : StatsKept s (s.addPending r) := statsKept_setEvents s _

theorem statsKept_writeLog (s : State) : StatsKept s s.writeLog := by
  unfold State.writeLog
  dsimp only
  exact .ite (statsKept_setEvents s _) (statsKept_setEvents s _)

theorem statsKept_dropRecord (s : State) : StatsKept s s.dropRecord :=
  (statsKept_odPut s 0 Od.REC_PENDING_LOST 0 _ (by decide) (by decide) (.inl (by decide))).trans (statsKept_setEvents _ _)

theorem statsKept_thaw (s : State) (why : Nat) : StatsKept s (s.thaw why) := by
  unfold State.thaw
  dsimp only
  have hrec : ∀ r, StatsKept s (if s.dropsRecord 0 = true then s.dropRecord else s.addPending r) := fun r =>
    .ite (statsKept_dropRecord s) (statsKept_addPending s r)
  exact (((hrec _).trans (statsKept_setEvents _ _)).trans
    (statsKept_odPut _ 0 Od.REC_FREEZE 0 0 (by decide) (by decide) (.inl (by decide)))).trans (statsKept_writeLog _)

theorem statsKept_enterRecord (s : State) (r : Rec) : StatsKept s (s.enterRecord r) := by
  unfold State.enterRecord
  dsimp only
  have hadd : StatsKept s ((if 256 ≤ s.events.pendingRecs.length then s.writeLog else s).addPending r) :=
    (StatsKept.ite (statsKept_writeLog s) (.refl s)).trans (statsKept_addPending _ r)
  exact .ite (statsKept_dropRecord s)
    (.ite (.ite (hadd.trans (statsKept_thaw _ _)) hadd) (.ite (hadd.trans (statsKept_writeLog _)) hadd))

theorem statsKept_noticeTo (s : State) (src sev : Nat) (ps : List (BitVec 32)) (c : Nat) : StatsKept s (s.noticeTo src sev ps c) := by
  unfold State.noticeTo
  dsimp only
  have hnum : ∀ x, StatsKept s (s.setSession c x) := statsKept_setSession s c
  exact .ite (.ite ((hnum _).trans (statsKept_sessionSend _ _ _ _ _)) (hnum _)) (.refl s)

theorem statsKept_notices (s : State) (src sev : Nat) (ps : List (BitVec 32)) : StatsKept s (s.notices src sev ps) :=
  .foldl _ (fun t c => statsKept_noticeTo t src sev ps c) _ s

/-- A destination that a source's route names takes the raise, counted as delivered or as suppressed (R559). -/
theorem statsKept_routed (s t : State) (src dest : Nat) (b w : Bool) (h : StatsKept (s.countRaise src dest true) t) :
    StatsKept s (if b = true then (if w = true then t else s.countRaise src dest false) else s) :=
  .ite (.ite ((statsKept_countRaise s src dest true).trans h) (statsKept_countRaise s src dest false)) (.refl s)

theorem statsKept_deliver (s : State) (src sev : Nat) (engine late : Bool) (ps : List (BitVec 32)) (dt sec : Nat) :
    StatsKept s (s.deliver src sev engine late ps dt sec) := by
  unfold State.deliver
  dsimp only
  have hcount : ∀ (t : State) (v : Nat), StatsKept t (t.odPut src Od.EVENT_COUNT 0 v) := fun t v =>
    statsKept_odPut t src Od.EVENT_COUNT 0 v (by decide) (by decide) (.inl (by decide))
  have hlast : ∀ (t : State) (v : Nat), StatsKept t (t.odPut src Od.EVENT_LAST_DT 0 v) := fun t v =>
    statsKept_odPut t src Od.EVENT_LAST_DT 0 v (by decide) (by decide) (.inl (by decide))
  have htold : ∀ (b : Bool) (v : Nat) (x : Sent), StatsKept s (if b = true then
      ((s.odPut src Od.EVENT_COUNT 0 v).odPut src Od.EVENT_LAST_DT 0 dt).emit x else s) := fun _ v x =>
    .ite (((hcount s v).trans (hlast _ dt)).trans (statsKept_emit _ x)) (.refl s)
  exact ((htold _ _ _).trans (statsKept_routed _ _ src 1 _ _ (statsKept_emcyAll _ _ _))).trans
    (statsKept_routed _ _ src 3 _ _ (statsKept_enterRecord _ _))

theorem statsKept_raiseOnce (s : State) (src : Nat) (ps : List (BitVec 32)) : StatsKept s (s.raiseOnce src ps) := by
  unfold State.raiseOnce
  split
  · exact .refl s
  · dsimp only
    have hlost : ∀ t : State, StatsKept t (t.bump Od.SEAM_EVENTS_LOST) := fun t =>
      statsKept_odPut t 0 Od.SEAM_EVENTS_LOST 0 _ (by decide) (by decide) (.inl (by decide))
    exact ((statsKept_perf s 191 1).trans (statsKept_routed _ _ src 2 _ _ (statsKept_notices _ _ _ _))).trans
      (.ite (.ite (.of_groups rfl rfl rfl) (hlost _)) (statsKept_deliver _ _ _ _ _ _ _ _))

theorem statsKept_reportOverflow (s : State) (n : Nat) : StatsKept s (s.reportOverflow n) := by
  unfold State.reportOverflow
  exact .ite ((statsKept_setEvents s _).trans (statsKept_raiseOnce _ _ _)) (.refl s)

/-- Raising an event leaves the statistics of the ports as they were, but for TX_QUEUE_DROP (R556). -/
theorem statsKept_raise (s : State) (src : Nat) (ps : List Nat) : StatsKept s (s.raise src ps) :=
  (statsKept_raiseOnce s src _).trans (statsKept_reportOverflow _ _)

/-- A counter of Table 11.7 is advanced by what is added to it (R433). -/
theorem State.portAdd_portStat (s : State) {p : Nat} (hp : p < 7) (sub n : Nat) :
    (s.portAdd p sub n).portStat p sub = (s.portStat p sub + n) % 2 ^ 32 := by
  unfold State.portAdd
  rw [if_pos hp]
  have hput := State.odGet_odPut_same s 0 (portIndex p 12) sub ((s.portStat p sub + n) % 2 ^ 32)
  split <;> exact hput

/-- The report of a counter that crosses half its range leaves the counter itself (R435). -/
theorem State.portCount_portStat (s : State) {p sub : Nat} (hp : p < 7) (hs : sub < 256) (hn : sub ≠ 46) (n : Nat) :
    (s.portCount p sub n).portStat p sub = (s.portStat p sub + n) % 2 ^ 32 := by
  rw [← State.portAdd_portStat s hp]
  unfold State.portCount
  exact (StatsKept.ite (statsKept_raise _ _ _) (.refl _)) p sub hp hs hn

end Sys2Proof.Machine
end

section
/-! O49. Flow control (R15, R427 to R432): the timers of the queues that pause holds, and the pause frames that the receive buffer
sends. -/

namespace Sys2Proof.Machine

/-! ### Timers of the held queues -/

/-- A removed key has no timer, and every other keeps its own. -/
theorem SMap.get?_erase {α : Type} (m : SMap α) (q k : Nat) :
    SMap.get? (SMap.erase m q) k = if k = q then none else SMap.get? m k := by
  split
  · rename_i h
    rw [h, SMap.get?_erase_same]
  · rename_i h
    exact SMap.get?_erase_other m h

theorem SMap.get?_foldl_erase {α : Type} (qs : List Nat) (m : SMap α) (k : Nat) :
    SMap.get? (qs.foldl SMap.erase m) k = if k ∈ qs then none else SMap.get? m k := by
  induction qs generalizing m with
  | nil => rfl
  | cons q qs ih =>
    rw [List.foldl_cons, ih, SMap.get?_erase]
    by_cases hq : k = q <;> by_cases hm : k ∈ qs <;> simp [hq, hm]

/-- What the timer of a queue reads after a value is loaded into it: 0 stops it (R428). -/
def loaded (quanta : Nat) : Option Nat := if quanta = 0 then none else some quanta

theorem get?_loadTimer (quanta : Nat) (m : SMap Nat) (q k : Nat) :
    SMap.get? (loadTimer quanta m q) k = if k = q then loaded quanta else SMap.get? m k := by
  unfold loadTimer loaded
  by_cases hz : quanta = 0
  · simp only [hz, if_true, SMap.get?_erase]
  · simp only [hz, if_false]
    split
    · rename_i h
      rw [h, SMap.get?_put_same]
    · rename_i h
      exact SMap.get?_put_other m quanta h

theorem get?_foldl_loadTimer (f : Nat → Nat) (qs : List Nat) (m : SMap Nat) (k : Nat) :
    SMap.get? (qs.foldl (fun h q => loadTimer (f q) h q) m) k = if k ∈ qs then loaded (f k) else SMap.get? m k := by
  induction qs generalizing m with
  | nil => rfl
  | cons q qs ih =>
    rw [List.foldl_cons, ih, get?_loadTimer]
    by_cases hq : k = q <;> by_cases hm : k ∈ qs <;> simp [hq, hm]

theorem loaded_toNat {w : Nat} (x : BitVec w) : loaded x.toNat = if x = 0 then none else some x.toNat := by
  simp [loaded, ← BitVec.toNat_inj]

/-! ### Ports -/

theorem queueLike_startPort (s : State) (p k : Nat) : queueLike (s.port k) ((s.startPort p).port k) :=
  (eventFrame_startPort s p).port k

theorem queueLike.held {x y : Port} (h : queueLike x y) : y.held = x.held := by unfold queueLike at h; rw [h]
theorem queueLike.ignoring {x y : Port} (h : queueLike x y) : y.ignoring = x.ignoring := by unfold queueLike at h; rw [h]
theorem queueLike.xoff {x y : Port} (h : queueLike x y) : y.xoff = x.xoff := by unfold queueLike at h; rw [h]

/-- A port set and then started holds what was set, but for what waits to be sent. -/
theorem queueLike_setPort_startPort (s : State) (p : Nat) (x : Port) : queueLike x (((s.setPort p x).startPort p).port p) := by
  have h := queueLike_startPort (s.setPort p x) p p
  rwa [State.port_setPort, if_pos rfl] at h

/-- A port set and then started: no group but the ports has changed. -/
theorem onlyGroups_setPort_startPort (s : State) (p : Nat) (x : Port) : OnlyGroups [.ports] s ((s.setPort p x).startPort p) :=
  (onlyGroups_setPort s p x).trans (onlyGroups_startPort _ p)

theorem linkFrame_setPort_startPort (s : State) (p : Nat) (x : Port) : LinkFrame s ((s.setPort p x).startPort p) :=
  (linkFrame_setPort s p x).trans (eventFrame_startPort _ p).toLinkFrame

theorem statsKept_setPort_startPort (s : State) (p : Nat) (x : Port) : StatsKept s ((s.setPort p x).startPort p) :=
  (statsKept_setPort s p x).trans (statsKept_startPort _ p)

theorem portFlow_not_eventEntry {p : Nat} (hp : p < 7) : portIndex p 8 < 65536 ∧ eventEntry (portIndex p 8) = false := by
  have : p = 0 ∨ p = 1 ∨ p = 2 ∨ p = 3 ∨ p = 4 ∨ p = 5 ∨ p = 6 := by omega
  rcases this with rfl | rfl | rfl | rfl | rfl | rfl | rfl <;> decide

/-- PORT_FLOW is a setting: no report of an event changes it (Table 11.12). -/
theorem LinkFrame.portFlow {s t : State} (h : LinkFrame s t) {p : Nat} (hp : p < 7) :
    t.val (portIndex p 8) = s.val (portIndex p 8) :=
  h.val (portFlow_not_eventEntry hp).1 (portFlow_not_eventEntry hp).2

theorem LinkFrame.flowMode {s t : State} (h : LinkFrame s t) {p : Nat} (hp : p < 7) : t.flowMode p = s.flowMode p := by
  unfold State.flowMode; rw [h.portFlow hp]

theorem LinkFrame.pfcEnabled {s t : State} (h : LinkFrame s t) {p : Nat} (hp : p < 7) (q : Nat) :
    t.pfcEnabled p q = s.pfcEnabled p q := by
  unfold State.pfcEnabled; rw [h.portFlow hp]

/-! ### Pause received -/

/-- The timers of queues are loaded, and the port starts its next frame (R428, R430). -/
def State.loadTimers (s : State) (p : Nat) (qs : List Nat) (f : Nat → Nat) : State :=
  (s.setPort p { s.port p with held := qs.foldl (fun h q => loadTimer (f q) h q) (s.port p).held }).startPort p

theorem State.loadTimers_timer (s : State) (p : Nat) (qs : List Nat) (f : Nat → Nat) (k : Nat) :
    SMap.get? ((s.loadTimers p qs f).port p).held k = if k ∈ qs then loaded (f k) else SMap.get? (s.port p).held k := by
  rw [State.loadTimers, (queueLike_setPort_startPort s p _).held]
  exact get?_foldl_loadTimer f qs _ k

/-- A control frame is counted in a statistic of its own, and timers are loaded or not: what it reports and what it counts. -/
theorem counted_reports_loadTimers (s : State) {p sub : Nat} (hp : p < 7) (hs : sub < 256) (hn : sub ≠ 46) (qs : List Nat)
    (f : Nat → Nat) : counted (portIndex p 12) s ((s.portCount p sub).loadTimers p qs f) sub
      ∧ Reports [] [] s ((s.portCount p sub).loadTimers p qs f) :=
  ⟨(statsKept_setPort_startPort _ p _ p sub hp hs hn).trans (s.portCount_portStat hp hs hn 1),
    ((eventFrame_portCount s p sub 1 hs).toLinkFrame.trans (linkFrame_setPort_startPort _ p _)).reports⟩

theorem counted_reports_portCount (s : State) {p sub : Nat} (hp : p < 7) (hs : sub < 256) (hn : sub ≠ 46) :
    counted (portIndex p 12) s (s.portCount p sub) sub ∧ Reports [] [] s (s.portCount p sub) :=
  ⟨s.portCount_portStat hp hs hn 1, (eventFrame_portCount s p sub 1 hs).toLinkFrame.reports⟩

theorem exec_pauseReceived (s : State) (p : Fin 7) (w : BitVec 16) (hr : s.receives p = true) :
    exec (.pauseReceived p w) s =
      .next (if s.flowMode p = 1 ∧ (s.port p).ignoring = [] then (s.portCount p 7).loadTimers p (queuesOf p) (fun _ => w.toNat)
        else s.portCount p 7) := by
  have hf := eventFrame_portCount s p 7 1 (by decide)
  have hm : (s.portCount p 7).flowMode p = s.flowMode p := hf.toLinkFrame.flowMode p.isLt
  have hi : ((s.portCount p 7).port p).ignoring = (s.port p).ignoring := (hf.port p).ignoring
  change execPauseReceived p w s = _
  unfold execPauseReceived
  dsimp only
  rw [if_pos hr, ← hm, ← hi]
  split <;> rfl

/-- The queues whose timers a PFC frame loads: the priorities that it names, enabled and not ignored (R430, R432). -/
def State.obeyedQueues (s : State) (p : Nat) (v : BitVec 8) : List Nat :=
  (queuesOf p).filter (fun q => v.getLsbD q && s.pfcEnabled p q && !(s.port p).ignoring.contains q)

theorem exec_pfcReceived (s : State) (p : Fin 7) (v : BitVec 8) (ws : List (BitVec 16)) (hr : s.receives p = true) :
    exec (.pfcReceived p v ws) s =
      .next (if s.flowMode p = 2 then (s.portCount p 8).loadTimers p (s.obeyedQueues p v) (fun q => (ws.getD q 0).toNat)
        else s.portCount p 8) := by
  have hf := eventFrame_portCount s p 8 1 (by decide)
  have hm : (s.portCount p 8).flowMode p = s.flowMode p := hf.toLinkFrame.flowMode p.isLt
  have hi : ((s.portCount p 8).port p).ignoring = (s.port p).ignoring := (hf.port p).ignoring
  have hq : (s.portCount p 8).obeyedQueues p v = s.obeyedQueues p v := by
    simp only [State.obeyedQueues, hi, hf.toLinkFrame.pfcEnabled p.isLt]
  rw [← hq]
  change execPfcReceived p v ws s = _
  unfold execPfcReceived
  dsimp only
  rw [if_pos hr, ← hm]
  split <;> rfl

/-- R427 to R429, R432: a received PAUSE frame. -/
theorem pauseReceived_loads (s : State) (p : Fin 7) (w : BitVec 16) (hr : s.receives p = true) :
    Answers (exec (.pauseReceived p w) s) (fun t =>
      counted (portIndex p 12) s t 7 ∧ Reports [] [] s t
        ∧ (s.flowMode p = 1 → (s.port p).ignoring = [] → ∀ q ∈ queuesOf p,
            SMap.get? (t.port p).held q = if w = 0 then none else some w.toNat)
        ∧ (s.flowMode p ≠ 1 ∨ (s.port p).ignoring ≠ [] → (t.port p).held = (s.port p).held)) := by
  refine ⟨_, exec_pauseReceived s p w hr, ?_⟩
  by_cases h : s.flowMode p = 1 ∧ (s.port p).ignoring = []
  · rw [if_pos h]
    obtain ⟨hc, hrep⟩ := counted_reports_loadTimers s p.isLt (by decide : 7 < 256) (by decide) (queuesOf p) (fun _ => w.toNat)
    refine ⟨hc, hrep, fun _ _ q hq => ?_, fun hno => ?_⟩
    · rw [State.loadTimers_timer, if_pos hq, loaded_toNat]
    · exact hno.elim (absurd h.1) (absurd h.2)
  · rw [if_neg h]
    obtain ⟨hc, hrep⟩ := counted_reports_portCount s p.isLt (by decide : 7 < 256) (by decide)
    exact ⟨hc, hrep, fun h1 h2 => absurd ⟨h1, h2⟩ h, fun _ => ((eventFrame_portCount s p 7 1 (by decide)).port p).held⟩

/-- R427, R430, R432: a received PFC frame. -/
theorem pfcReceived_loads (s : State) (p : Fin 7) (v : BitVec 8) (ws : List (BitVec 16)) (hr : s.receives p = true) :
    Answers (exec (.pfcReceived p v ws) s) (fun t =>
      counted (portIndex p 12) s t 8 ∧ Reports [] [] s t
        ∧ (s.flowMode p ≠ 2 → (t.port p).held = (s.port p).held)
        ∧ (s.flowMode p = 2 → ∀ q ∈ queuesOf p,
          let obeyed := v.getLsbD q && s.pfcEnabled p q && !(s.port p).ignoring.contains q
          SMap.get? (t.port p).held q = if obeyed = true then (if ws.getD q 0 = 0 then none else some (ws.getD q 0).toNat)
            else SMap.get? (s.port p).held q)) := by
  have hheld : ((s.portCount p 8).port p).held = (s.port p).held := ((eventFrame_portCount s p 8 1 (by decide)).port p).held
  refine ⟨_, exec_pfcReceived s p v ws hr, ?_⟩
  by_cases h : s.flowMode p = 2
  · rw [if_pos h]
    obtain ⟨hc, hrep⟩ := counted_reports_loadTimers s p.isLt (by decide : 8 < 256) (by decide) (s.obeyedQueues p v)
      (fun q => (ws.getD q 0).toNat)
    refine ⟨hc, hrep, fun hno => absurd h hno, fun _ q hq => ?_⟩
    rw [State.loadTimers_timer, hheld, loaded_toNat]
    simp only [State.obeyedQueues, List.mem_filter, hq, true_and]
  · rw [if_neg h]
    obtain ⟨hc, hrep⟩ := counted_reports_portCount s p.isLt (by decide : 8 < 256) (by decide)
    exact ⟨hc, hrep, fun _ => hheld, fun h2 => absurd h2 h⟩

/-! ### Queues released -/

theorem State.release_timer (s : State) (p : Nat) (qs : List Nat) (k : Nat) :
    SMap.get? ((s.release p qs).port p).held k = if k ∈ qs then none else SMap.get? (s.port p).held k := by
  rw [State.release, (queueLike_setPort_startPort s p _).held]
  exact SMap.get?_foldl_erase qs _ k

/-- R428, R430: a timer that expires releases its queues. -/
theorem pauseTimerExpiry_releases (s : State) (p : Fin 7) (q : Fin 8) :
    Answers (exec (.pauseTimerExpiry p q) s) (fun t =>
      (∀ k, SMap.get? (t.port p).held k = if k ∈ s.timerQueues p q then none else SMap.get? (s.port p).held k)
        ∧ OnlyGroups [.ports] s t) :=
  ⟨_, rfl, s.release_timer p _, onlyGroups_setPort_startPort s p _⟩

/-- The port after the watchdog has run at one of its queues: the queues released, and pause ignored for them (R432). -/
def State.watchdogPort (s : State) (p : Nat) (qs : List Nat) : State :=
  (s.setPort p { s.port p with ignoring := qs ++ (s.port p).ignoring.filter (fun q => !qs.contains q) }).release p qs

theorem State.watchdogPort_timer (s : State) (p : Nat) (qs : List Nat) (k : Nat) :
    SMap.get? ((s.watchdogPort p qs).port p).held k = if k ∈ qs then none else SMap.get? (s.port p).held k := by
  rw [State.watchdogPort, State.release_timer, State.port_setPort, if_pos rfl]

theorem State.watchdogPort_ignoring (s : State) (p : Nat) (qs : List Nat) :
    ((s.watchdogPort p qs).port p).ignoring = qs ++ (s.port p).ignoring.filter (fun q => !qs.contains q) := by
  rw [State.watchdogPort, State.release, (queueLike_setPort_startPort _ p _).ignoring, State.port_setPort, if_pos rfl]

theorem linkFrame_watchdogPort (s : State) (p : Nat) (qs : List Nat) : LinkFrame s (s.watchdogPort p qs) :=
  (linkFrame_setPort s p _).trans (linkFrame_setPort_startPort _ p _)

theorem statsKept_watchdogPort (s : State) (p : Nat) (qs : List Nat) : StatsKept s (s.watchdogPort p qs) :=
  (statsKept_setPort s p _).trans (statsKept_setPort_startPort _ p _)

/-- R15, R432: the watchdog releases the queues of a timer, ignores pause for them, and is counted and told. -/
theorem macPauseWdog_releases (s : State) (p : Fin 7) (q : Fin 8) (hw : s.val (portIndex p 9) ≠ 0)
    (hq : (SMap.get? (s.port p).held q).isSome = true) :
    Answers (exec (.macPauseWdog p q) s) (fun t =>
      (∀ k, k ∈ s.timerQueues p q → SMap.get? (t.port p).held k = none ∧ (t.port p).ignoring.contains k = true)
        ∧ (∀ k, k ∉ s.timerQueues p q → SMap.get? (t.port p).held k = SMap.get? (s.port p).held k)
        ∧ counted (portIndex p 12) s t 48 ∧ Reports [] [] s t) := by
  let u := s.watchdogPort p (s.timerQueues p q)
  let ps := [p.val, if s.flowMode p = 2 then q.val else 0xFF]
  have hexec : exec (.macPauseWdog p q) s = .next ((u.portCount p 48).raise Ev.MAC_PAUSE_WDOG ps) := if_pos ⟨hw, hq⟩
  have hf : EventFrame u ((u.portCount p 48).raise Ev.MAC_PAUSE_WDOG ps) :=
    (eventFrame_portCount u p 48 1 (by decide)).trans (eventFrame_raise _ _ _)
  refine ⟨_, hexec, fun k hk => ⟨?_, ?_⟩, fun k hk => ?_, ?_, ?_⟩
  · rw [(hf.port p).held, s.watchdogPort_timer, if_pos hk]
  · rw [(hf.port p).ignoring, s.watchdogPort_ignoring]
    simp [hk]
  · rw [(hf.port p).held, s.watchdogPort_timer, if_neg hk]
  · have hstat : u.portStat p 48 = s.portStat p 48 := statsKept_watchdogPort s p _ p 48 p.isLt (by decide) (by decide)
    calc ((u.portCount p 48).raise Ev.MAC_PAUSE_WDOG ps).portStat p 48
        = (u.portCount p 48).portStat p 48 := statsKept_raise _ _ _ p 48 p.isLt (by decide) (by decide)
      _ = (u.portStat p 48 + 1) % 2 ^ 32 := u.portCount_portStat p.isLt (by decide) (by decide) 1
      _ = (s.portStat p 48 + 1) % 2 ^ 32 := by rw [hstat]
  · exact ((linkFrame_watchdogPort s p _).trans hf.toLinkFrame).reports

/-- R432: received pause is obeyed again. -/
theorem pauseWdogIgnoreEnd_obeys (s : State) (p : Fin 7) : Answers (exec (.pauseWdogIgnoreEnd p) s) (fun t =>
    t.port p = { s.port p with ignoring := [] } ∧ OnlyGroups [.ports] s t) :=
  ⟨_, rfl, by rw [State.port_setPort, if_pos rfl], onlyGroups_setPort s p _⟩

/-! ### Pause sent -/

/-- The control frame that a port sends under its mode (R431). -/
def State.pauseMsg (s : State) (p prio quanta : Nat) : Msg := if s.flowMode p = 1 then .pauseFrame quanta else .pfcFrame prio quanta

/-- A control frame of a port waits ahead of its queues, or leaves. -/
def State.leavesPort (t : State) (p : Nat) (m : Msg) : Prop :=
  ∃ f, f.msg = m ∧ f.bytes = 64 ∧ (f ∈ (t.port p).control ∨ (t.port p).inFlight = some f)

/-- A control frame that waits at a port still waits once the port has started its next frame, or is the frame started (R428). -/
theorem Port.start_control {x : Port} {f : TxFrame} (h : f ∈ x.control) (now : Nat × Nat) :
    f ∈ (x.start now).control ∨ (x.start now).inFlight = some f := by
  unfold Port.start
  split
  · cases hc : x.control with
    | nil => simp [hc] at h
    | cons g gs =>
      rw [hc] at h
      rcases List.mem_cons.1 h with rfl | hg
      · exact .inr rfl
      · exact .inl hg
  · exact .inl h

theorem State.sendPause_leaves (s : State) (p prio quanta : Nat) :
    (s.sendPause p prio quanta).leavesPort p (s.pauseMsg p prio quanta) := by
  refine ⟨{ bytes := 64, msg := s.pauseMsg p prio quanta, cast := 1 }, rfl, rfl, ?_⟩
  simp only [State.sendPause, State.startPort, State.port_setPort, if_true]
  exact Port.start_control (by simp [State.pauseMsg]) _

theorem State.sendPause_xoff (s : State) (p prio quanta : Nat) : ((s.sendPause p prio quanta).port p).xoff = (s.port p).xoff :=
  (queueLike_setPort_startPort s p _).xoff

theorem onlyGroups_sendPause (s : State) (p prio quanta : Nat) : OnlyGroups [.ports] s (s.sendPause p prio quanta) :=
  onlyGroups_setPort_startPort s p _

/-- A port's XOFF marks are set and a control frame is sent: the frame leaves, the marks stand, and only the ports change. -/
theorem State.markXoff_sendPause (s : State) (p prio quanta : Nat) (marks : List Nat) :
    let t := (s.setPort p { s.port p with xoff := marks }).sendPause p prio quanta
    t.leavesPort p (s.pauseMsg p prio quanta) ∧ (t.port p).xoff = marks ∧ OnlyGroups [.ports] s t :=
  ⟨State.sendPause_leaves _ p prio quanta, by rw [State.sendPause_xoff, State.port_setPort, if_pos rfl],
    (onlyGroups_setPort s p _).trans (onlyGroups_sendPause _ p prio quanta)⟩

section
variable {s : State} {p : Fin 7} {i : Fin 8}

/-- R431: a receive buffer above XOFF sends a pause and marks its priority. -/
theorem rxBufferXoff_sends (hr : s.receives p = true) (hs : s.sendsPause p i = true)
    (ha : s.fillAbove p i (s.xoffOf p) = true) (hk : (s.port p).xoff.contains (s.pauseMark p i) = false) :
    Answers (exec (.rxBufferXoff p i) s) (fun t => t.leavesPort p (s.pauseMsg p i 0xFFFF)
      ∧ (t.port p).xoff = s.pauseMark p i :: (s.port p).xoff ∧ OnlyGroups [.ports] s t) :=
  ⟨_, if_pos ⟨hr, hs, ha, hk⟩, s.markXoff_sendPause p i 0xFFFF _⟩

/-- R431: the pause is repeated while the buffer stays above XON. -/
theorem pauseRepeat_sends (hr : s.receives p = true) (hs : s.sendsPause p i = true)
    (ha : s.fillAbove p i (s.xonOf p) = true) (hk : (s.port p).xoff.contains (s.pauseMark p i) = true) :
    Answers (exec (.pauseRepeat p i) s) (fun t => t.leavesPort p (s.pauseMsg p i 0xFFFF)
      ∧ (t.port p).xoff = (s.port p).xoff ∧ OnlyGroups [.ports] s t) :=
  ⟨_, if_pos ⟨hr, hs, ha, hk⟩, s.sendPause_leaves p i 0xFFFF, s.sendPause_xoff p i 0xFFFF, onlyGroups_sendPause s p i 0xFFFF⟩

/-- R431: a receive buffer below XON after an XOFF ends the pause and clears its mark. -/
theorem rxBufferXon_sends (hr : s.receives p = true) (hs : s.sendsPause p i = true)
    (hb : s.fillBelow p i (s.xonOf p) = true) (hk : (s.port p).xoff.contains (s.pauseMark p i) = true) :
    Answers (exec (.rxBufferXon p i) s) (fun t => t.leavesPort p (s.pauseMsg p i 0)
      ∧ (t.port p).xoff.contains (s.pauseMark p i) = false ∧ OnlyGroups [.ports] s t) := by
  obtain ⟨hl, hx, hg⟩ := s.markXoff_sendPause p i 0 ((s.port p).xoff.filter (· != s.pauseMark p i))
  refine ⟨_, if_pos ⟨hr, hs, hb, hk⟩, hl, ?_, hg⟩
  rw [hx]
  simp

/-- R431: a priority that sends no pause under the mode of its port leaves the state as it is. -/
theorem pause_unsent (hs : s.sendsPause p i = false) : exec (.rxBufferXoff p i) s = .next s
    ∧ exec (.rxBufferXon p i) s = .next s ∧ exec (.pauseRepeat p i) s = .next s := by
  have hno : ¬ s.sendsPause p i = true := Bool.eq_false_iff.1 hs
  exact ⟨if_neg fun h => hno h.2.1, if_neg fun h => hno h.2.1, if_neg fun h => hno h.2.1⟩

end

/-- Settles O49: each clause is the lemma above about its command. -/
theorem pauseHoldsQueues : Obligations.PauseHoldsQueues := by
  intro s p
  refine ⟨fun w hr => pauseReceived_loads s p w hr, fun v ws hr => pfcReceived_loads s p v ws hr,
    fun q => pauseTimerExpiry_releases s p q, fun q hw hq => macPauseWdog_releases s p q hw hq, fun q hw => ?_,
    pauseWdogIgnoreEnd_obeys s p, fun i hr hs => ⟨rxBufferXoff_sends hr hs, pauseRepeat_sends hr hs, rxBufferXon_sends hr hs⟩,
    fun i hs => pause_unsent hs⟩
  exact if_neg fun h => h.1 hw

end Sys2Proof.Machine
end

section
/-! O56. The Seam (R495, R502): the ATTACH that ends orphan mode starts the Gusset of a die that waited (R289), which writes the
SPARE_DIE sub-index of that die's channel. The statement speaks of every state, and nothing in a state bounds the numbers of the dies
that wait: the sub-index of a number that no module has runs on into the entries of the Seam. -/

namespace Sys2Proof.Machine

/-- A die number that no module has: the place of its channel's sub-index of SPARE_DIE is the place of LAST_ATTACH. -/
def strayDie : Nat := 10 * (256 * (Od.LAST_ATTACH - Od.SPARE_DIE) - 1)

/-- The module serves in orphan mode, and the stray die waits for the Seam. -/
def strayDieWaits : State :=
  { State.reset with power := { phase := .running }, seam := { orphan := true }, flash := { gussetQueue := [strayDie] } }

/-- A supervisor of a later epoch than the one last attached. -/
def laterSupervisor : AttachMsg := { supervisorEpoch := 1, knownEe := 0 }

/-- What LAST_ATTACH holds in the state that a command answers. -/
def lastAttachAfter (o : Out) : Option Nat :=
  match o with
  | .next t => some (t.val Od.LAST_ATTACH)
  | _ => none

theorem lastAttachAfter_eq_some {o : Out} {t : State} {v : Nat} (ht : o = .next t) (hv : lastAttachAfter o = some v) :
    t.val Od.LAST_ATTACH = v := by
  subst ht
  exact Option.some.inj hv

/-- The outcome is RE-ATTACH (Table 13.4). -/
theorem attachOutcome_strayDieWaits : strayDieWaits.attachOutcome laterSupervisor = 3 := by decide

/-- The Gusset of the stray die starts, finds no stripe on it and ends: its SPARE_DIE becomes 2, in the place of LAST_ATTACH. -/
theorem lastAttachAfter_strayDieWaits : lastAttachAfter (exec (.attach laterSupervisor 0) strayDieWaits) = some 2 := by
  decide +kernel

/-- Refutes O56: an ATTACH with outcome RE-ATTACH ends orphan mode while a die number that no module has waits for its Gusset, and
LAST_ATTACH then holds 2 (RESUME). -/
theorem not_seamAttachesAndOrphans : ¬ Obligations.SeamAttachesAndOrphans := by
  unfold Obligations.SeamAttachesAndOrphans
  intro h
  obtain ⟨-, -, hattach, -⟩ := h strayDieWaits
  obtain ⟨-, haccepted⟩ := hattach laterSupervisor 0 rfl
  obtain ⟨t, ht, hlast, -⟩ := haccepted (by decide)
  have hval : t.val Od.LAST_ATTACH = 2 := lastAttachAfter_eq_some ht lastAttachAfter_strayDieWaits
  rw [attachOutcome_strayDieWaits, hval] at hlast
  exact absurd hlast (by decide)

end Sys2Proof.Machine
end

section
/-! SUPPORT. Frames of a step by groups and entries, and reading a slot, an op engine or the look-up of a bucket after an update. -/

namespace Sys2Proof.Machine

/-! ### One group, one entry -/

theorem onlyGroups_setOd (s : State) (x : OdState) : OnlyGroups [.od] s { s with od := x } := by
  intro g hg; cases g <;> simp_all [State.agree]

theorem onlyGroups_setSeq (s : State) (x : SeqState) : OnlyGroups [.seq] s { s with seq := x } := by
  intro g hg; cases g <;> simp_all [State.agree]

theorem onlyGroups_setFlash (s : State) (x : FlashState) : OnlyGroups [.flash] s { s with flash := x } := by
  intro g hg; cases g <;> simp_all [State.agree]

theorem onlyGroups_setCipher (s : State) (x : CipherState) : OnlyGroups [.cipher] s { s with cipher := x } := by
  intro g hg; cases g <;> simp_all [State.agree]

theorem onlyGroups_setEvents (s : State) (x : EventState) : OnlyGroups [.events] s { s with events := x } := by
  intro g hg; cases g <;> simp_all [State.agree]

theorem onlyGroups_setWkp (s : State) (x : WkpState) : OnlyGroups [.wkp] s { s with wkp := x } := by
  intro g hg; cases g <;> simp_all [State.agree]

theorem onlyGroups_setKv (s : State) (x : KvState) : OnlyGroups [.kv] s { s with kv := x } := by
  intro g hg; cases g <;> simp_all [State.agree]

theorem onlyGroups_draw (s : State) : OnlyGroups [.draws] s s.draw := by
  intro g hg; cases g <;> simp_all [State.agree]

theorem OnlyGroups.ite {gs : List Group} {s a b : State} {c : Prop} [Decidable c] (ha : OnlyGroups gs s a) (hb : OnlyGroups gs s b) :
    OnlyGroups gs s (if c then a else b) := by
  split <;> assumption

theorem OnlyGroups.seq_eq {gs : List Group} {s t : State} (h : OnlyGroups gs s t) (hg : .seq ∉ gs) : t.seq = s.seq := h .seq hg

theorem OnlyEntries.refl (xs : List Nat) (s : State) : OnlyEntries xs s s := fun _ _ _ _ _ _ => rfl

theorem OnlyEntries.trans {xs : List Nat} {s t u : State} (h : OnlyEntries xs s t) (k : OnlyEntries xs t u) : OnlyEntries xs s u :=
  fun i x j hx hj hn => (k i x j hx hj hn).trans (h i x j hx hj hn)

theorem OnlyEntries.ite {xs : List Nat} {s a b : State} {c : Prop} [Decidable c] (ha : OnlyEntries xs s a)
    (hb : OnlyEntries xs s b) : OnlyEntries xs s (if c then a else b) := by
  split <;> assumption

theorem onlyEntries_bump (s : State) (x n w : Nat) (hx : x < 65536) : OnlyEntries [x] s (s.bump x n 0 w) :=
  fun _ _ _ hx' hj hn => State.odGet_odPut_other s _ hx hx' (by decide) hj (.inr (.inl (by simpa using hn)))

theorem Only.refl (gs : List Group) (xs : List Nat) (s : State) : Only gs xs s s := ⟨.refl gs s, .refl xs s⟩

theorem Only.trans {gs : List Group} {xs : List Nat} {s t u : State} (h : Only gs xs s t) (k : Only gs xs t u) : Only gs xs s u :=
  ⟨h.1.trans k.1, h.2.trans k.2⟩

theorem Only.ite {gs : List Group} {xs : List Nat} {s a b : State} {c : Prop} [Decidable c] (ha : Only gs xs s a)
    (hb : Only gs xs s b) : Only gs xs s (if c then a else b) := by
  split <;> assumption

theorem Only.mono {gs hs : List Group} {xs : List Nat} {s t : State} (h : Only gs xs s t) (hh : ∀ g ∈ gs, g ∈ hs) :
    Only hs xs s t := ⟨h.1.mono hh, h.2⟩

/-- A step that leaves the dictionary, the grade and the networks leaves every entry. -/
theorem OnlyGroups.only {gs : List Group} {s t : State} (h : OnlyGroups gs s t) (xs : List Nat)
    (hn : .od ∉ gs ∧ .hw ∉ gs ∧ .can ∉ gs) : Only gs xs s t := by
  have hod : t.od = s.od := h .od hn.1
  have hcan : t.can = s.can := h .can hn.2.2
  exact ⟨h, fun i x j _ _ _ => State.odGet_congr (by rw [hod]) (h .hw hn.2.1) (fun n => by rw [State.net, State.net, hcan]) i x j⟩

theorem only_perf (xs : List Nat) (s : State) (e n : Nat) : Only [.events] xs s (s.perf e n) :=
  (onlyGroups_setEvents s _).only xs (by decide)

/-- A counter of the dictionary, advanced. -/
theorem only_bump (s : State) (x n w : Nat) (hx : x < 65536) : Only [.od] [x] s (s.bump x n 0 w) :=
  ⟨onlyGroups_setOd s _, onlyEntries_bump s x n w hx⟩

/-! ### Slots and op engines -/

theorem State.slot_setSlot (s : State) (n m : Nat) (x : Slot) : (s.setSlot n x).slot m = if m = n then x else s.slot m := by
  split
  · rename_i h; subst h; simp [State.setSlot, State.slot]
  · rename_i h; simp [State.setSlot, State.slot, SMap.getD_put_other _ _ _ h]

@[simp] theorem State.slot_setSlot_same (s : State) (n : Nat) (x : Slot) : (s.setSlot n x).slot n = x := by
  simp [State.slot_setSlot]

theorem State.slot_setSlot_other (s : State) {n m : Nat} (x : Slot) (h : m ≠ n) : (s.setSlot n x).slot m = s.slot m := by
  simp [State.slot_setSlot, h]

@[simp] theorem State.slot_freeSlot_same (s : State) (n : Nat) : (s.freeSlot n).slot n = {} := by
  simp [State.freeSlot, State.slot]

theorem State.slot_congr {s t : State} (h : t.seq.slots = s.seq.slots) (n : Nat) : t.slot n = s.slot n := by
  rw [State.slot, State.slot, h]

theorem State.engine_congr {s t : State} (h : t.seq.engines = s.seq.engines) (e : Nat) : t.engine e = s.engine e := by
  rw [State.engine, State.engine, h]

@[simp] theorem State.engine_setEngine_same (s : State) (e : Nat) (x : OpEngine) : (s.setEngine e x).engine e = x := by
  simp [State.setEngine, State.engine]

@[simp] theorem State.slot_bump (s : State) (x k j w n : Nat) : (s.bump x k j w).slot n = s.slot n := rfl

@[simp] theorem State.slot_restartOn (s : State) (k n : Nat) (f : Option Nat) (op m : Nat) :
    (s.restartOn k n f op).slot m = s.slot m := by
  cases f <;> rfl

theorem onlyGroups_restartOn (s : State) (k n : Nat) (f : Option Nat) (op : Nat) : OnlyGroups [.seq] s (s.restartOn k n f op) := by
  cases f <;> exact onlyGroups_setSeq s _

/-- The engine that a step restarts on holds the slot (R208, R230). -/
theorem State.engine_restartOn_slot (s : State) (k n : Nat) (f : Option Nat) (op : Nat) :
    ((s.restartOn k n f op).engine k).slot = some n := by
  cases f <;> simp [State.restartOn, State.enterRoutine]

/-- A step that has not begun elsewhere begins at the entry of its routine (R578). -/
theorem State.engine_restartOn_none (s : State) (k n op : Nat) :
    ((s.restartOn k n none op).engine k).pc = Config.routineEntry (BitVec.ofNat 8 op)
      ∧ ((s.restartOn k n none op).engine k).calls = [] := by
  simp [State.restartOn, State.enterRoutine]

@[simp] theorem State.slot_engineSteps (s : State) (x : Slot) (n : Nat) : (s.engineSteps x).slot n = s.slot n := by
  unfold State.engineSteps; split <;> rfl

@[simp] theorem State.engineSteps_kv (s : State) (x : Slot) : (s.engineSteps x).kv = s.kv := by
  unfold State.engineSteps; split <;> rfl

theorem onlyGroups_engineSteps (s : State) (x : Slot) : OnlyGroups [.seq] s (s.engineSteps x) := by
  unfold State.engineSteps
  split
  · exact onlyGroups_setSeq s _
  · exact .refl _ s

/-! ### The look-up of a bucket -/

/-- The groups and the entry that a look-up may change: the page cache, the key cache and their counts (R263, R405). -/
theorem only_useKey (s : State) (k : Nat) : Only [.cipher, .od, .events] [Od.KEY_CACHE_MISSES] s (s.useKey k) := by
  have hmiss : Only [.cipher, .od, .events] [Od.KEY_CACHE_MISSES] s ((s.bump Od.KEY_CACHE_MISSES 1 0 64).perf 89 1) :=
    ((only_bump s Od.KEY_CACHE_MISSES 1 64 (by decide)).mono (by decide)).trans ((only_perf _ _ 89 1).mono (by decide))
  unfold State.useKey
  exact (Only.ite (.refl _ _ s) hmiss).trans (((onlyGroups_setCipher _ _).only _ (by decide)).mono (by decide))

theorem only_lookUp (s : State) (ns : Nat) (key : Bytes) :
    Only [.flash, .cipher, .od, .events] [Od.KEY_CACHE_MISSES] s (s.lookUp ns key) := by
  have hkey (t : State) (k : Nat) : Only [.flash, .cipher, .od, .events] [Od.KEY_CACHE_MISSES] t (t.useKey k) :=
    (only_useKey t k).mono (by decide)
  have hperf (t : State) (e : Nat) : Only [.flash, .cipher, .od, .events] [Od.KEY_CACHE_MISSES] t (t.perf e 1) :=
    (only_perf _ t e 1).mono (by decide)
  have hcache (f : FlashState) : Only [.flash, .cipher, .od, .events] [Od.KEY_CACHE_MISSES] s { s with flash := f } :=
    ((onlyGroups_setFlash s f).only _ (by decide)).mono (by decide)
  unfold State.lookUp
  dsimp only
  have hread (t : State) (c : Bool) : Only [.flash, .cipher, .od, .events] [Od.KEY_CACHE_MISSES] t
      (if c = true then t.perf 72 1 else (t.useKey 0).perf 73 1) :=
    .ite (hperf t 72) ((hkey t 0).trans (hperf _ 73))
  exact .ite (((hcache _).trans (hread _ _)).trans (hkey _ ns)) ((hcache _).trans (hread _ _))

theorem only_lookUpFor (s : State) (c : Cmd) : Only [.flash, .cipher, .od, .events] [Od.KEY_CACHE_MISSES] s (s.lookUpFor c) :=
  .ite (only_lookUp s c.ns c.key) (.refl _ _ s)

theorem State.lookUpFor_seq (s : State) (c : Cmd) : (s.lookUpFor c).seq = s.seq := (only_lookUpFor s c).1.seq_eq (by decide)

@[simp] theorem State.slot_lookUpFor (s : State) (c : Cmd) (n : Nat) : (s.lookUpFor c).slot n = s.slot n :=
  State.slot_congr (by rw [State.lookUpFor_seq]) n

@[simp] theorem State.engine_lookUpFor (s : State) (c : Cmd) (e : Nat) : (s.lookUpFor c).engine e = s.engine e :=
  State.engine_congr (by rw [State.lookUpFor_seq]) e

end Sys2Proof.Machine
end

section
/-! O16. The sequencer's steps (R133, R134, R207, R208, R217, R219, R230, R578): hand-off, age, steps of routines and commands, and the
waits that expire. -/

namespace Sys2Proof.Machine

/-! ### Hand-off -/

/-- A slot that is handed to an op engine (R208). -/
def State.handedOff (s : State) (n o : Nat) : Slot :=
  { s.slot n with state := .executing, retry := none, ope := some o, tsDispatch := s.clock.dt }

/-- A slot goes to an op engine, before the look-up of its key (R207, R208, R230). -/
def State.handOff (s : State) (n o : Nat) : State :=
  (s.setSlot n (s.handedOff n o)).restartOn o n (if (s.slot n).state = .executing then (s.slot n).mchkOn.head? else none)
    (slotOp (s.slot n))

theorem exec_commandDispatch {s : State} {n : Fin 512} {o : Fin 36} (hd : s.dispatchable n (s.slot n) = true)
    (hm : (s.slot n).mchkOn.contains o.val = false)
    (hfirst : s.seq.slots.any (fun p => p.1 != n.val && goesBefore p.2 (s.slot n) && s.dispatchable p.1 p.2) = false)
    (hin : (s.engine o).inService = true ∧ (s.engine o).retired = false ∧ (s.engine o).reloading = false ∧ (s.engine o).slot = none)
    (hrun : s.seq.stopped = false ∧ s.power.engine = .run) :
    exec (.commandDispatch n o) s = .next ((s.handOff n o).lookUpFor (s.cmdOf n)) := by
  obtain ⟨hservice, hretired, hreloading, hfree⟩ := hin
  exact if_pos ⟨hd, hm, hfirst, hservice, hretired, hreloading, hfree, hrun⟩

theorem commandDispatch_waits {s : State} {n : Fin 512} {o : Fin 36}
    (h : s.dispatchable n (s.slot n) = false ∨ (s.engine o).slot ≠ none ∨ s.power.engine ≠ .run) :
    exec (.commandDispatch n o) s = .next s := by
  refine if_neg (fun ⟨hd, _, _, _, _, _, hslot, _, hrun⟩ => ?_)
  rcases h with h | h | h
  · exact absurd hd (by simp [h])
  · exact h hslot
  · exact h hrun

theorem State.slot_handOff (s : State) (n o m : Nat) : (s.handOff n o).slot m = if m = n then s.handedOff n o else s.slot m := by
  simp [State.handOff, State.slot_setSlot]

theorem only_handOff (s : State) (n o : Nat) (xs : List Nat) : Only [.seq] xs s (s.handOff n o) :=
  ((onlyGroups_setSeq s _).trans (onlyGroups_restartOn _ _ _ _ _)).only xs (by decide)

theorem engine_handOff_of_bound (s : State) (n o : Nat) (h : (s.slot n).state = .bound) :
    ((s.handOff n o).engine o).pc = Config.routineEntry (BitVec.ofNat 8 (slotOp (s.slot n)))
      ∧ ((s.handOff n o).engine o).calls = [] := by
  simp [State.handOff, h, State.engine_restartOn_none]

/-- The slot is executing on its engine, and nothing else of the slots changes (R207, R208). -/
theorem commandDispatch_hands {s : State} {n : Fin 512} {o : Fin 36}
    (he : exec (.commandDispatch n o) s = .next ((s.handOff n o).lookUpFor (s.cmdOf n))) :
    Answers (exec (.commandDispatch n o) s) (fun t => t.slot n = s.handedOff n o ∧ (t.engine o).slot = some n.val
      ∧ ((s.slot n).state = .bound →
        (t.engine o).pc = Config.routineEntry (BitVec.ofNat 8 (slotOp (s.slot n))) ∧ (t.engine o).calls = [])
      ∧ (∀ m, m ≠ n.val → t.slot m = s.slot m)
      ∧ Only [.seq, .flash, .cipher, .od, .events] [Od.KEY_CACHE_MISSES] s t) := by
  refine ⟨_, he, ?_, ?_, fun hb => ?_, fun m hm => ?_, ?_⟩
  · rw [State.slot_lookUpFor, State.slot_handOff, if_pos rfl]
  · rw [State.engine_lookUpFor]; exact State.engine_restartOn_slot _ _ _ _ _
  · rw [State.engine_lookUpFor]; exact engine_handOff_of_bound s n o hb
  · rw [State.slot_lookUpFor, State.slot_handOff, if_neg hm]
  · exact ((only_handOff s n o _).mono (by decide)).trans ((only_lookUpFor _ _).mono (by decide))

/-! ### Steps -/

theorem dispatchAgeExpiry_ages {s : State} {n : Fin 512} (h : (s.slot n).state = .bound) :
    Answers (exec (.dispatchAgeExpiry n) s) (fun t =>
      t.slot n = { s.slot n with aged := true } ∧ slotRank (t.slot n) = 7 ∧ OnlyGroups [.seq] s t) := by
  refine ⟨s.setSlot n { s.slot n with aged := true }, if_pos h, by simp, by simp [slotRank], onlyGroups_setSeq s _⟩

theorem next_ite (c : Prop) [Decidable c] (a b : State) : (if c then (.next a : Out) else .next b) = .next (if c then a else b) :=
  (apply_ite Host.Outcome.next c a b).symm

/-- A step of work in an internal slot: the last frees the slot, another is counted (Table 5.6). -/
theorem exec_longRoutineStep_internal {s : State} {n : Fin 512} {r : Routine} (hx : (s.slot n).state = .executing)
    (hr : (s.slot n).routine = some r) (hh : ∀ k, r ≠ .holdScan k) (hv : r ≠ .verify) (hb : s.backgroundRuns = true) :
    exec (.longRoutineStep n) s = .next (if (s.slot n).stepsLeft = 1 then s.freeSlot n
      else s.setSlot n { s.slot n with
        stepsLeft := (s.slot n).stepsLeft - 1, step := (s.slot n).step + 1, mchkOn := [] }) := by
  change execLongRoutineStep n s = _
  cases r with
  | holdScan k => exact absurd rfl (hh k)
  | verify => exact absurd rfl hv
  | _ => simp [execLongRoutineStep, hx, hr, hb, next_ite]

theorem longRoutineStep_counts {s : State} {n : Fin 512} {r : Routine} {k : Nat} (hx : (s.slot n).state = .executing)
    (hr : (s.slot n).routine = some r) (hh : ∀ k, r ≠ .holdScan k) (hv : r ≠ .verify) (hb : s.backgroundRuns = true)
    (hk : (s.slot n).stepsLeft = k + 1) :
    Answers (exec (.longRoutineStep n) s) (fun t => (k = 0 → (t.slot n).state = .free)
      ∧ (0 < k → (t.slot n).stepsLeft = k ∧ (t.slot n).step = (s.slot n).step + 1) ∧ OnlyGroups [.seq] s t) := by
  refine ⟨_, exec_longRoutineStep_internal hx hr hh hv hb, fun h0 => ?_, fun h0 => ?_, .ite (onlyGroups_setSeq s _) (onlyGroups_setSeq s _)⟩
  · rw [if_pos (by omega), State.slot_freeSlot_same]
  · rw [if_neg (by omega), State.slot_setSlot_same]
    exact ⟨by simp [hk], rfl⟩

/-- The holds after a scan step of the hold `k` (R219). -/
theorem State.scanHold_kv (s : State) (k : Nat) :
    (s.scanHold k).kv = { s.kv with holds := s.kv.holds.map (fun h => if h.csn = k then
      { h with counted := min h.pinned.length (h.counted + 1 + (Config.scanBatch s.draws).toNat) } else h) } := by
  simp [State.scanHold]

theorem onlyGroups_scanHold (s : State) (k : Nat) : OnlyGroups [.kv, .draws] s (s.scanHold k) :=
  ((onlyGroups_draw s).mono (by decide)).trans ((onlyGroups_setKv _ _).mono (by decide))

/-- A scan step of the hold `k`, before its end is told (R219). -/
def State.scanStep (s : State) (n k : Nat) : State :=
  ((s.scanHold k).engineSteps (s.slot n)).setSlot n { s.slot n with step := (s.slot n).step + 1, mchkOn := [] }

theorem longRoutineStep_scans {s : State} {n : Fin 512} {k : Nat} (hx : (s.slot n).state = .executing)
    (hr : (s.slot n).routine = some (.holdScan k)) (hl : s.kv.loaded = true ∧ s.live = true ∧ s.admin.pauseStage ≤ 2) :
    exec (.longRoutineStep n) s =
      .next (if (s.scanStep n k).scanLeft k = 0 then (s.scanStep n k).endScan n k else s.scanStep n k) := by
  change execLongRoutineStep n s = _
  simp [execLongRoutineStep, hx, hr, hl, State.scanStep]

theorem State.scanStep_kv (s : State) (n k : Nat) : (s.scanStep n k).kv = (s.scanHold k).kv := by simp [State.scanStep]

theorem State.slot_scanStep (s : State) (n k m : Nat) :
    (s.scanStep n k).slot m = if m = n then { s.slot n with step := (s.slot n).step + 1, mchkOn := [] } else s.slot m := by
  simp only [State.scanStep, State.slot_setSlot, State.slot_engineSteps]
  rfl

theorem onlyGroups_scanStep (s : State) (n k : Nat) : OnlyGroups [.kv, .seq, .draws] s (s.scanStep n k) :=
  (((onlyGroups_scanHold s k).mono (by decide)).trans ((onlyGroups_engineSteps _ _).mono (by decide))).trans
    ((onlyGroups_setSeq _ _).mono (by decide))

theorem longRoutineStep_ofCommand {s : State} {n : Fin 512} (hx : (s.slot n).state = .executing) (hr : (s.slot n).routine = none) :
    Answers (exec (.longRoutineStep n) s) (fun t =>
      t.slot n = { s.slot n with step := (s.slot n).step + 1, mchkOn := [] } ∧ OnlyGroups [.seq] s t) := by
  have he : exec (.longRoutineStep n) s = .next ((s.engineSteps (s.slot n)).setSlot n
      { s.slot n with step := (s.slot n).step + 1, mchkOn := [] }) := by
    change execLongRoutineStep n s = _
    simp [execLongRoutineStep, hx, hr]
  exact ⟨_, he, by simp, (onlyGroups_engineSteps _ _).trans (onlyGroups_setSeq _ _)⟩

/-! ### Waits that expire -/

/-- A wait that expires frees its slot, and is counted (R133, R134). -/
theorem freeSlot_bump_drops (s : State) (n x : Nat) (hx : x < 65536) :
    (((s.freeSlot n).bump x).slot n).state = .free ∧ ((s.freeSlot n).bump x).val x = (s.val x + 1) % 2 ^ 32
      ∧ OnlyGroups [.seq, .od] s ((s.freeSlot n).bump x) ∧ OnlyEntries [x] s ((s.freeSlot n).bump x) := by
  have hfree : Only [.seq, .od] [x] s (s.freeSlot n) := ((onlyGroups_setSeq s _).only _ (by decide)).mono (by decide)
  have hboth := hfree.trans ((only_bump (s.freeSlot n) x 1 32 hx).mono (by decide))
  exact ⟨by simp, State.odGet_odPut_same _ _ _ _ _, hboth⟩

/-- What a response that is released leaves of the replay cache (R138). -/
theorem releaseReplays_released (tag : Nat) (rs : List Replay) :
    (releaseReplays tag rs).all (fun r => !(r.tag == tag && r.held)) = true := by
  simp only [releaseReplays, List.all_filter, List.all_map, List.all_eq_true, Function.comp]
  intro r _
  by_cases h : r.tag = tag <;> simp [h]

theorem mem_releaseReplays {tag : Nat} {rs : List Replay} {r : Replay} (hr : r ∈ rs) (ht : r.tag ≠ tag) (hh : r.held = true) :
    r ∈ releaseReplays tag rs :=
  List.mem_filter.2 ⟨List.mem_map.2 ⟨r, hr, if_neg ht⟩, by simp [hh]⟩

theorem responseHoldExpiry_releases (s : State) (k : Fin 32768) (tag : BitVec 32) :
    Answers (exec (.responseHoldExpiry k tag) s) (fun t =>
      (t.session k).replays.all (fun r => !(r.tag == tag.toNat && r.held)) = true
        ∧ (∀ r ∈ (s.session k).replays, r.tag ≠ tag.toNat → r.held = true → r ∈ (t.session k).replays)
        ∧ OnlyGroups [.wkp] s t) := by
  cases h : (s.session k).replays.any (fun r => r.tag == tag.toNat && r.held)
  · refine ⟨s, if_neg (by simp [h]), ?_, fun r hr _ _ => hr, .refl _ s⟩
    rw [List.all_eq_not_any_not]
    simpa using h
  · refine ⟨_, if_pos h, ?_, fun r hr ht hh => ?_, onlyGroups_setWkp s _⟩ <;> rw [State.session_setSession, if_pos rfl]
    · exact releaseReplays_released _ _
    · exact mem_releaseReplays hr ht hh

/-- Settles O16: the hand-off, age, the steps of routines, of scans and of commands, and the waits that expire. -/
theorem slotsAdvance : Obligations.SlotsAdvance := by
  unfold Obligations.SlotsAdvance
  intro s n o
  refine ⟨fun hd hm hfirst hin hret hrel hslot hstop hrun => ?_, commandDispatch_waits, dispatchAgeExpiry_ages, ?_, ?_,
    longRoutineStep_ofCommand, ?_, ?_, responseHoldExpiry_releases s⟩
  · exact commandDispatch_hands (exec_commandDispatch hd hm hfirst ⟨hin, hret, hrel, hslot⟩ ⟨hstop, hrun⟩)
  · exact fun r k hx hr hh hv hb hk => longRoutineStep_counts hx hr hh hv hb hk
  · intro k hx hr hl hlive hp
    refine ⟨s.scanStep n k, longRoutineStep_scans hx hr ⟨hl, hlive, hp⟩, ?_, ?_, fun m hm => ?_, onlyGroups_scanStep s n k⟩
    · rw [State.scanStep_kv, State.scanHold_kv]
    · rw [State.slot_scanStep, if_pos rfl]
    · rw [State.slot_scanStep, if_neg hm]
  · exact fun hf hc hw => ⟨_, if_pos ⟨hf, hc, hw⟩, freeSlot_bump_drops s n Od.CNT_GAP_DROPS (by decide)⟩
  · exact fun hf hc => ⟨_, if_pos ⟨hf, hc⟩, freeSlot_bump_drops s n Od.CNT_REASSEMBLY_DROPS (by decide)⟩

end Sys2Proof.Machine
end

section
/-! SUPPORT. Sessions: what a step of one session leaves of the others, what a datagram that is received or sent changes, and what the
end of a session leaves. -/

namespace Sys2Proof.Machine

/-! ### One session

What sending to a session leaves of it, field by field. -/

theorem sentLike.refl (x : Session) : sentLike x x := rfl
theorem sentLike.state {x y : Session} (h : sentLike x y) : y.state = x.state := by unfold sentLike at h; rw [h]
theorem sentLike.gen {x y : Session} (h : sentLike x y) : y.gen = x.gen := by unfold sentLike at h; rw [h]
theorem sentLike.replays {x y : Session} (h : sentLike x y) : y.replays = x.replays := by unfold sentLike at h; rw [h]
theorem sentLike.highTag {x y : Session} (h : sentLike x y) : y.highTag = x.highTag := by unfold sentLike at h; rw [h]
theorem sentLike.creditUnits {x y : Session} (h : sentLike x y) : y.creditUnits = x.creditUnits := by unfold sentLike at h; rw [h]
theorem sentLike.creditCmds {x y : Session} (h : sentLike x y) : y.creditCmds = x.creditCmds := by unfold sentLike at h; rw [h]
theorem sentLike.group {x y : Session} (h : sentLike x y) : y.group = x.group := by unfold sentLike at h; rw [h]
theorem sentLike.serviceAnchor {x y : Session} (h : sentLike x y) : y.serviceAnchor = x.serviceAnchor := by unfold sentLike at h; rw [h]
theorem sentLike.transcript {x y : Session} (h : sentLike x y) : y.transcript = x.transcript := by unfold sentLike at h; rw [h]
theorem sentLike.hasToken {x y : Session} (h : sentLike x y) : y.hasToken = x.hasToken := by unfold sentLike at h; rw [h]
theorem sentLike.tokenDigest {x y : Session} (h : sentLike x y) : y.tokenDigest = x.tokenDigest := by unfold sentLike at h; rw [h]
theorem sentLike.gathered {x y : Session} (h : sentLike x y) : y.gathered = x.gathered := by unfold sentLike at h; rw [h]
theorem sentLike.gatherLen {x y : Session} (h : sentLike x y) : y.gatherLen = x.gatherLen := by unfold sentLike at h; rw [h]
theorem sentLike.slotLimit {x y : Session} (h : sentLike x y) : y.slotLimit = x.slotLimit := by unfold sentLike at h; rw [h]

@[simp] theorem State.session_setSession_same (s : State) (c : Nat) (x : Session) : (s.setSession c x).session c = x := by
  simp [State.session_setSession]

/-- From `s` to `t` no group changes but those named, and of the sessions all but `c` are as they were but for what sending to them
advances. -/
def OnlySession (gs : List Group) (c : Nat) (s t : State) : Prop :=
  (∀ j, j ≠ c → sentLike (s.session j) (t.session j)) ∧ OnlyGroups gs s t

theorem OnlySession.trans {gs : List Group} {c : Nat} {s t u : State} (h : OnlySession gs c s t) (k : OnlySession gs c t u) :
    OnlySession gs c s u := ⟨fun j hj => (h.1 j hj).trans (k.1 j hj), h.2.trans k.2⟩

theorem OnlySession.mono {gs hs : List Group} {c : Nat} {s t : State} (h : OnlySession gs c s t) (hh : ∀ g ∈ gs, g ∈ hs) :
    OnlySession hs c s t := ⟨h.1, h.2.mono hh⟩

theorem OnlySession.ite {gs : List Group} {n : Nat} {s a b : State} {c : Prop} [Decidable c] (ha : OnlySession gs n s a)
    (hb : OnlySession gs n s b) : OnlySession gs n s (if c then a else b) := by
  split <;> assumption

/-- The report of an event or a link that is lost changes no session but for what sending advances. -/
theorem LinkFrame.onlySession {s t : State} (h : LinkFrame s t) (c : Nat) : OnlySession reporting c s t :=
  ⟨fun j _ => h.session j, h.reports.1⟩

theorem OnlyGroups.onlySession {gs : List Group} {s t : State} (h : OnlyGroups gs s t) (hn : .wkp ∉ gs) (c : Nat) :
    OnlySession gs c s t := by
  have hw : t.wkp = s.wkp := h .wkp hn
  exact ⟨fun j _ => by rw [State.session, State.session, hw]; exact .refl _, h⟩

theorem onlySession_setSession (s : State) (c : Nat) (x : Session) : OnlySession [.wkp] c s (s.setSession c x) :=
  ⟨fun j hj => by rw [State.session_setSession, if_neg hj]; exact .refl _, onlyGroups_setWkp s _⟩

/-! ### Datagrams received and sent -/

theorem eventFrame_sessionDatagram (s : State) (c q : Nat) (m : Msg) (b : Bool) : EventFrame s (s.sessionDatagram c q m b) := by
  have hkey : (if (s.session c).secured = true then s.useKey (65537 + 2 * c) else s).session c = s.session c := by
    split
    · exact State.useKey_session s _ c
    · rfl
  exact ((EventFrame.ite (eventFrame_useKey s _) (.refl s)).trans (eventFrame_setSession _ c _ (by rw [hkey]; rfl))).trans
    (eventFrame_txPut _ _ _ _)

theorem linkFrame_parserTakes (s : State) (rx : Rx) : LinkFrame s (s.parserTakes rx) :=
  (linkFrame_setPort s _ _).trans (eventFrame_portCount _ _ 10 1 (by decide)).toLinkFrame

theorem eventFrame_decrypted (s : State) (rx : Rx) (v : Verdict) : EventFrame s (s.decrypted rx v) := by
  have hkey : EventFrame s (if (s.session (contextOf rx.dg.session)).secured = true
      then s.useKey (65536 + 2 * contextOf rx.dg.session) else s) := .ite (eventFrame_useKey s _) (.refl s)
  cases v with
  | malformed => exact .refl s
  | stale _ => exact .refl s
  | drop => exact .refl s
  | accept => exact hkey
  | tagFail => exact hkey

/-- A datagram is taken and decrypted: nothing changes but reports and what sending advances (R397, R421). -/
theorem linkFrame_received (s : State) (rx : Rx) (v : Verdict) : LinkFrame s ((s.parserTakes rx).decrypted rx v) :=
  (linkFrame_parserTakes s rx).trans (eventFrame_decrypted _ rx v).toLinkFrame

/-- What a session comes to as an acknowledgment is owed, but for what sending advances (R135). -/
theorem State.owesAck_session (s : State) (c : Nat) (rx : Rx) :
    sentLike { s.session c with ackPrio := bitsOf 7 5 rx.dg.flags.toNat } ((s.owesAck c rx).session c) := by
  unfold State.owesAck
  dsimp only
  have hset (p : Nat) : sentLike { s.session c with ackPrio := p }
      ((s.setSession c { s.session c with ackDue := true, ackPrio := p }).session c) := by
    rw [State.session_setSession_same]; rfl
  split
  · exact (hset _).trans ((eventFrame_sessionSend _ c _ _ false).session c)
  · exact hset _

theorem onlySession_owesAck (s : State) (c : Nat) (rx : Rx) : OnlySession reporting c s (s.owesAck c rx) := by
  unfold State.owesAck
  have hset (x : Session) := (onlySession_setSession s c x).mono (hs := reporting) (by decide)
  exact .ite ((hset _).trans ((eventFrame_sessionSend _ c _ _ false).toLinkFrame.onlySession c)) (hset _)

/-! ### The way to FREE -/

theorem SMap.get?_filter_key {α : Type} (p : Nat → Bool) (m : SMap α) {n : Nat} (h : p n = true) :
    SMap.get? (m.filter (fun e => p e.1)) n = SMap.get? m n := by
  induction m with
  | nil => rfl
  | cons e m ih =>
    obtain ⟨k, a⟩ := e
    by_cases hk : k = n
    · subst hk; simp [SMap.get?, h]
    · cases hp : p k <;> simp [SMap.get?, hp, hk, ih]

/-- What a path selects is reset: the entries of the module itself stand (R460). -/
theorem State.odGet_resetSelectors (s : State) {p x j : Nat} (hp : 0 < p) (hx : x < 65536) (hj : j < 256) :
    (s.resetSelectors p).odGet 0 x j = s.odGet 0 x j := by
  have hkey : (!(selectors.any (fun i => odKey 0 x j == odKey p i 0))) = true := by
    simp only [Bool.not_eq_true', List.any_eq_false, beq_iff_eq, odKey]
    omega
  have hget : SMap.get? (s.resetSelectors p).od.vals (odKey 0 x j) = SMap.get? s.od.vals (odKey 0 x j) :=
    SMap.get?_filter_key (fun k => !(selectors.any (fun i => k == odKey p i 0))) s.od.vals hkey
  unfold State.odGet
  rw [hget]
  rfl

/-- A context that goes to FREE, but for the download that it may own (R41, R113, R460). -/
def State.freed (s : State) (c : Nat) : State :=
  let sid := sessionId c (s.session c).gen
  (((s.setSession c { gen := (s.session c).gen }).freeFilled (fun z => z.session == sid)).releaseHandles sid).resetSelectors (16 + c)

theorem State.freeContext_eq (s : State) (c : Nat) : ∃ f, s.freeContext c = { s.freed c with fw := f } := by
  have hdown : ∃ f, (s.freed c).abandonDownload = { s.freed c with fw := f } := by
    unfold State.abandonDownload
    split
    · exact ⟨_, rfl⟩
    · exact ⟨_, rfl⟩
  obtain ⟨f, hf⟩ := hdown
  change ∃ f, (if (s.freed c).fw.owner = some c then _ else s.freed c) = _
  split
  · exact ⟨_, congrArg (fun t : State => { t with fw := { t.fw with owner := none } }) hf⟩
  · exact ⟨_, rfl⟩

/-- A context that goes to FREE keeps its generation (R113). -/
theorem State.session_freeContext (s : State) (c : Nat) : (s.freeContext c).session c = { gen := (s.session c).gen } := by
  obtain ⟨f, hf⟩ := s.freeContext_eq c
  rw [hf]
  exact State.session_setSession_same s c _

/-- The handles of the session are released, its cursors gone, and the versions stand (R61, R113). -/
theorem State.freeContext_kv (s : State) (c : Nat) :
    (s.freeContext c).kv = { s.kv with
      writers := s.kv.writers.map (fun w => if w.session = sessionId c (s.session c).gen ∧ w.released = none
        then { w with released := some s.seq.csnLast } else w)
      cursors := s.kv.cursors.filter (fun k => k.session != sessionId c (s.session c).gen) } := by
  obtain ⟨f, hf⟩ := s.freeContext_eq c
  rw [hf]
  simp [State.freed, State.resetSelectors, State.releaseHandles, State.freeFilled]

theorem State.freeContext_odGet (s : State) (c : Nat) {x j : Nat} (hx : x < 65536) (hj : j < 256) :
    (s.freeContext c).odGet 0 x j = s.odGet 0 x j := by
  obtain ⟨f, hf⟩ := s.freeContext_eq c
  rw [hf]
  exact State.odGet_resetSelectors _ (by omega) hx hj

/-- What the end of a session leaves: its context FREE, its handles released, and the versions (R61, R113). -/
structure SessionFreed (s t : State) (c : Nat) : Prop where
  state : (t.session c).state = .free
  gen : (t.session c).gen = (s.session c).gen
  kv : t.kv = { s.kv with
    writers := s.kv.writers.map (fun w => if w.session = sessionId c (s.session c).gen ∧ w.released = none
      then { w with released := some s.seq.csnLast } else w)
    cursors := s.kv.cursors.filter (fun k => k.session != sessionId c (s.session c).gen) }

theorem sessionFreed_freeContext (s : State) (c : Nat) : SessionFreed s (s.freeContext c) c where
  state := by rw [s.session_freeContext]
  gen := by rw [s.session_freeContext]
  kv := s.freeContext_kv c

/-- What is reported before a session ends changes nothing of its end. -/
theorem SessionFreed.of_linkFrame {s t u : State} {c : Nat} (h : LinkFrame s t) (k : SessionFreed t u c) : SessionFreed s u c where
  state := k.state
  gen := k.gen.trans (h.session c).gen
  kv := by rw [k.kv, h.kv, h.seq, (h.session c).gen]

theorem sessionFreed_closeSession (s : State) (c reason : Nat) : SessionFreed s (s.closeSession c reason) c :=
  .of_linkFrame (eventFrame_sessionDatagram s c _ _ _).toLinkFrame (sessionFreed_freeContext _ c)

theorem SessionFreed.versions {s t : State} {c : Nat} (h : SessionFreed s t c) : t.kv.versions = s.kv.versions := by rw [h.kv]

end Sys2Proof.Machine
end

section
/-! O19. How a session ends (R113, R114, R135, R138, R144): its timers, CLOSE, and acknowledgments that release responses. -/

namespace Sys2Proof.Machine

/-! ### Timers that end a session -/

theorem idleTimeoutExpiry_frees {s : State} {c : Fin 32768} (h : (s.session c).state = .isOpen) :
    Answers (exec (.idleTimeoutExpiry c) s) (fun t => SessionFreed s t c) :=
  ⟨_, if_pos h, sessionFreed_closeSession s c 1⟩

theorem resumeWindowExpiry_frees {s : State} {c : Fin 32768} (h : (s.session c).state = .dormant)
    (hw : (s.session c).windowRuns = true) : Answers (exec (.resumeWindowExpiry c) s) (fun t => SessionFreed s t c) :=
  ⟨_, if_pos ⟨h, hw⟩, sessionFreed_freeContext s c⟩

theorem State.endHandshake_halfOpen {s : State} {c : Nat} (h : (s.session c).state = .halfOpen false) :
    s.endHandshake c = s.freeContext c := by
  simp [State.endHandshake, h]

/-- A handshake entered by HELLO ends in FREE (Table 3.8). -/
theorem handshakeTimeoutExpiry_frees {s : State} {c : Fin 32768} (h : (s.session c).state = .halfOpen false) :
    Answers (exec (.handshakeTimeoutExpiry c) s) (fun t => SessionFreed s t c) :=
  ⟨_, if_pos (.inr h), State.endHandshake_halfOpen h ▸ sessionFreed_freeContext s c⟩

/-- A resumed handshake goes back to DORMANT (R114). -/
theorem handshakeTimeoutExpiry_resumed {s : State} {c : Fin 32768} (h : (s.session c).state = .halfOpen true) :
    Answers (exec (.handshakeTimeoutExpiry c) s) (fun t =>
      t.session c = { s.session c with
          state := .dormant, windowRuns := true, helloBody := [], replyBody := [], transcript := 0, keyCd := 0, keyDc := 0
          gathered := [], gatherLen := none }
        ∧ (∀ j, j ≠ c.val → t.session j = s.session j) ∧ OnlyGroups [.wkp] s t) := by
  refine ⟨_, (if_pos (.inl h)).trans (congrArg _ (if_pos h)), by simp, fun j hj => ?_, onlyGroups_setWkp s _⟩
  rw [State.session_setSession, if_neg hj]

/-! ### CLOSE -/

theorem State.sessionSlots_congr {s t : State} (h : t.seq.slots = s.seq.slots) (sid : BitVec 32) :
    t.sessionSlots sid = s.sessionSlots sid := by
  rw [State.sessionSlots, State.sessionSlots, h]

/-- A CLOSE is accepted: the session is CLOSING, and its commands that are not bound are freed (R144). -/
def State.closes (s : State) (rx : Rx) : State :=
  let c := contextOf rx.dg.session
  (s.setSession c { acceptDatagram (s.session c) rx with state := .closing, ackPrio := bitsOf 7 5 rx.dg.flags.toNat }).freeFilled
    (fun z => z.session == sessionId c (s.session c).gen)

theorem State.session_closes (s : State) (rx : Rx) :
    (s.closes rx).session (contextOf rx.dg.session) = { acceptDatagram (s.session (contextOf rx.dg.session)) rx with
      state := .closing, ackPrio := bitsOf 7 5 rx.dg.flags.toNat } :=
  State.session_setSession_same s _ _

/-- The slots that a CLOSE leaves to its session are those of its commands that are bound. -/
theorem State.sessionSlots_closes (s : State) (rx : Rx) :
    let sid := sessionId (contextOf rx.dg.session) (s.session (contextOf rx.dg.session)).gen
    (s.closes rx).sessionSlots sid = (s.sessionSlots sid).filter (fun e => e.2.state != .filled) := by
  simp only [State.closes, State.sessionSlots, State.freeFilled, State.setSession_seq, List.filter_filter]
  congr 1
  funext e
  cases hs : e.2.session == sessionId (contextOf rx.dg.session) (s.session (contextOf rx.dg.session)).gen <;>
    simp [bne, Bool.and_comm]

theorem exec_closeReceived {s : State} {rx : Rx} (hw : s.wkpServed = true)
    (hv : s.verdict rx 0x1E (fun z => z == .isOpen) = .accept) :
    let c := contextOf rx.dg.session
    let s0 := (s.parserTakes rx).decrypted rx .accept
    exec (.closeReceived rx) s = .next (if ((s0.closes rx).sessionSlots (sessionId c (s0.session c).gen)).isEmpty
      then (s0.closes rx).finishClosing c else (s0.closes rx).owesAck c rx) := by
  change execCloseReceived rx s = _
  simp only [execCloseReceived, hw, hv, Bool.not_true, Bool.false_eq_true, if_false]
  rfl

/-- A session that is CLOSING, with none of its commands bound, ends (R144). -/
theorem State.finishClosing_closes {s : State} {rx : Rx}
    (h : ((s.closes rx).sessionSlots (sessionId (contextOf rx.dg.session) (s.session (contextOf rx.dg.session)).gen)).isEmpty = true) :
    (s.closes rx).finishClosing (contextOf rx.dg.session) = (s.closes rx).closeSession (contextOf rx.dg.session) 0 := by
  refine if_pos ?_
  rw [State.session_closes]
  exact ⟨rfl, h⟩

theorem closeReceived_closes {s : State} {rx : Rx} (hw : s.wkpServed = true)
    (hv : s.verdict rx 0x1E (fun z => z == .isOpen) = .accept) :
    let c := contextOf rx.dg.session
    let left := (s.sessionSlots (sessionId c (s.session c).gen)).filter (fun e => e.2.state != .filled)
    Answers (exec (.closeReceived rx) s) (fun t =>
      (t.session c).state = (if left.isEmpty then .free else .closing) ∧ (t.session c).gen = (s.session c).gen
        ∧ t.kv.versions = s.kv.versions) := by
  intro c left
  have hf := linkFrame_received s rx .accept
  generalize hs0 : (s.parserTakes rx).decrypted rx .accept = s0 at hf
  have hgen : (s0.session c).gen = (s.session c).gen := (hf.session c).gen
  have hleft : (s0.closes rx).sessionSlots (sessionId c (s0.session c).gen) = left := by
    rw [State.sessionSlots_closes, hgen, State.sessionSlots_congr (congrArg _ hf.seq)]
  have hgen' : ((s0.closes rx).session c).gen = (s.session c).gen := by rw [State.session_closes]; exact hgen
  refine ⟨_, exec_closeReceived hw hv, ?_⟩
  simp only [hs0]
  rw [hleft]
  cases he : left.isEmpty
  · have hack := State.owesAck_session (s0.closes rx) c rx
    refine ⟨?_, hack.gen.trans hgen', ?_⟩
    · rw [if_neg (by simp), if_neg (by simp), hack.state, State.session_closes]
    · have hkv : ((s0.closes rx).owesAck c rx).kv = (s0.closes rx).kv := (onlySession_owesAck _ c rx).2 .kv (by decide)
      rw [if_neg (by simp), hkv, ← hf.kv]
      rfl
  · rw [if_pos rfl, if_pos rfl, State.finishClosing_closes (by rw [hleft, he])]
    have hend := sessionFreed_closeSession (s0.closes rx) c 0
    exact ⟨hend.state, hend.gen.trans hgen', by rw [hend.versions, ← hf.kv]; rfl⟩

/-! ### Acknowledgments -/

theorem exec_ackReceived {s : State} {rx : Rx} (hw : s.wkpServed = true)
    (hv : s.verdict rx 0x12 (fun z => z == .isOpen || z == .closing) = .accept) :
    let c := contextOf rx.dg.session
    let s0 := (s.parserTakes rx).decrypted rx .accept
    exec (.ackReceived rx) s = .next ((s0.setSession c (acceptDatagram (s0.session c) rx)).owesAck c rx) := by
  change execAckReceived rx s = _
  simp only [execAckReceived, hw, hv, Bool.not_true, Bool.false_eq_true, if_false]

theorem ackReceived_releases {s : State} {rx : Rx} (hw : s.wkpServed = true)
    (hv : s.verdict rx 0x12 (fun z => z == .isOpen || z == .closing) = .accept) :
    let c := contextOf rx.dg.session
    Answers (exec (.ackReceived rx) s) (fun t =>
      (t.session c).replays = releaseAcked rx.dg (s.session c).replays ∧ (t.session c).state = (s.session c).state
        ∧ OnlySession reporting c s t) := by
  intro c
  have hf := linkFrame_received s rx .accept
  generalize hs0 : (s.parserTakes rx).decrypted rx .accept = s0 at hf
  have hack := State.owesAck_session (s0.setSession c (acceptDatagram (s0.session c) rx)) c rx
  rw [State.session_setSession_same] at hack
  refine ⟨_, exec_ackReceived hw hv, ?_⟩
  simp only [hs0]
  refine ⟨hack.replays.trans ?_, hack.state.trans (hf.session c).state, ?_⟩
  · exact congrArg (releaseAcked rx.dg) (hf.session c).replays
  · exact ((hf.onlySession c).trans ((onlySession_setSession s0 c _).mono (by decide))).trans (onlySession_owesAck _ c rx)

/-- Settles O19: the timers that end a session, CLOSE and acknowledgments. -/
theorem sessionsEnd : Obligations.SessionsEnd := by
  unfold Obligations.SessionsEnd
  intro s released
  refine ⟨fun c h => ?_, fun c h => handshakeTimeoutExpiry_resumed h, fun c h => ?_, fun c h hw => ?_,
    fun rx hw hv => closeReceived_closes hw hv, fun rx hw hv => ackReceived_releases hw hv⟩
  · obtain ⟨t, ht, hend⟩ := idleTimeoutExpiry_frees h
    exact ⟨t, ht, hend.state, hend.gen, by rw [hend.kv], by rw [hend.kv], hend.versions⟩
  · obtain ⟨t, ht, hend⟩ := handshakeTimeoutExpiry_frees h
    exact ⟨t, ht, hend.state, hend.gen, hend.versions⟩
  · obtain ⟨t, ht, hend⟩ := resumeWindowExpiry_frees h hw
    exact ⟨t, ht, hend.state, hend.gen, by rw [hend.kv], hend.versions⟩

end Sys2Proof.Machine
end

section
/-! O21. What time does to sessions (R118, R135, R143, R172, R214): acknowledgments that are due, cookie secrets, cursors and grants. -/

namespace Sys2Proof.Machine

/-! ### An acknowledgment that is due -/

theorem onlyGroups_portAdd (s : State) (p sub n : Nat) : OnlyGroups [.od, .events] s (s.portAdd p sub n) := by
  have hput (v : Nat) : OnlyGroups [.od, .events] s (s.odPut 0 (portIndex p 12) sub v) :=
    (onlyGroups_setOd s _).mono (by decide)
  unfold State.portAdd
  split
  · dsimp only
    split
    · exact (hput _).trans ((onlyGroups_setEvents _ _).mono (by decide))
    · exact hput _
  · exact .refl _ s

/-- A frame that enters a queue changes the ports, and the count of a frame that finds no room (R425). -/
theorem onlyGroups_txPut (s : State) (p q : Nat) (f : TxFrame) : OnlyGroups [.ports, .od, .events] s (s.txPut p q f) := by
  unfold State.txPut
  dsimp only
  exact .ite (((onlyGroups_setPort s _ _).trans (onlyGroups_startPort _ _)).mono (by decide))
    ((onlyGroups_portAdd s p 46 1).mono (by decide))

theorem State.session_congr {s t : State} (h : t.wkp = s.wkp) (c : Nat) : t.session c = s.session c := by
  rw [State.session, State.session, h]

/-- A datagram leaves under the next packet number, and carries the acknowledgment that was due (R124, R135). -/
theorem State.session_sessionDatagram (s : State) (c q : Nat) (m : Msg) (b : Bool) (j : Nat) :
    (s.sessionDatagram c q m b).session j =
      if j = c then { s.session c with txPn := (s.session c).txPn + 1, ackDue := false } else s.session j := by
  have hput (t : State) (p : Nat) (f : TxFrame) : (t.txPut p q f).session j = t.session j :=
    State.session_congr (onlyGroups_txPut t p q f .wkp (by decide)) j
  have hkey : (if (s.session c).secured = true then s.useKey (65537 + 2 * c) else s).session j = s.session j := by
    split
    · exact State.useKey_session s _ j
    · rfl
  unfold State.sessionDatagram
  dsimp only
  rw [hput, State.session_setSession, hkey]

theorem ackDelayExpiry_sends {s : State} {c : Fin 32768} (ha : (s.session c).ackDue = true) (ho : (s.session c).state = .isOpen)
    (hn : numbersUsed (s.session c) = false) :
    Answers (exec (.ackDelayExpiry c) s) (fun t =>
      t.session c = { s.session c with ackDue := false, txPn := (s.session c).txPn + 1 }
        ∧ (∀ j, j ≠ c.val → t.session j = s.session j) ∧ OnlyGroups reporting s t) := by
  have hsend (q : Nat) (m : Msg) : s.sessionSend c q m = s.sessionDatagram c q m false := if_neg (by simp [hn])
  refine ⟨_, if_pos ⟨ha, .inl ho⟩, ?_⟩
  rw [hsend]
  refine ⟨?_, fun j hj => ?_, (eventFrame_sessionDatagram s c _ _ _).toLinkFrame.reports.1⟩
  · rw [State.session_sessionDatagram, if_pos rfl]
  · rw [State.session_sessionDatagram, if_neg hj]

/-! ### Secrets and cursors -/

theorem cookieRotation_keepsFormer {s : State} (h : s.live = true) : Answers (exec .cookieRotation s) (fun t =>
    t.wkp = { s.wkp with secretNow := Config.cookieSecret s.draws, secretOld := s.wkp.secretNow } ∧ t.draws = s.draws + 1
      ∧ OnlyGroups [.wkp, .draws] s t) :=
  ⟨_, if_pos h, rfl, rfl, ((onlyGroups_setWkp s _).mono (by decide)).trans ((onlyGroups_draw _).mono (by decide))⟩

theorem cursorIdleExpiry_drops (s : State) (k : BitVec 64) : Answers (exec (.cursorIdleExpiry k) s) (fun t =>
    t.kv = { s.kv with cursors := s.kv.cursors.filter (fun x => x.ident != k.toNat) } ∧ OnlyGroups [.kv] s t) :=
  ⟨_, rfl, rfl, onlyGroups_setKv s _⟩

/-! ### Grants -/

theorem SMap.get?_map_value {α β : Type} (f : α → β) (m : SMap α) (n : Nat) :
    SMap.get? (m.map (fun e => (e.1, f e.2))) n = (SMap.get? m n).map f := by
  induction m with
  | nil => rfl
  | cons e m ih =>
    by_cases h : e.1 = n <;> simp [SMap.get?, h, ih]

/-- The grant of a session that is not FREE is recomputed (R143). -/
def State.regranted (s : State) (x : Session) : Session := if x.state = .free then x else s.granted x

/-- Every session has its grant anew, and the throttle of the Pocket follows its fill (R143, R214). -/
def State.regrants (s : State) : State :=
  { s with
    wkp := { s.wkp with sessions := s.wkp.sessions.map (fun e => (e.1, s.regranted e.2)) }
    pocket := { s.pocket with
      throttled := decide (s.val Od.POCKET_THROTTLE < s.pocketFill)
      throttledAt := if decide (s.val Od.POCKET_THROTTLE < s.pocketFill) && !s.pocket.throttled then s.clock.ticks
        else s.pocket.throttledAt } }

theorem State.session_regrants (s : State) (c : Nat) : s.regrants.session c = s.regranted (s.session c) := by
  have hget : SMap.get? s.regrants.wkp.sessions c = (SMap.get? s.wkp.sessions c).map s.regranted := SMap.get?_map_value _ _ c
  rw [State.session, State.session, SMap.getD, SMap.getD, hget]
  cases SMap.get? s.wkp.sessions c <;> rfl

theorem onlyGroups_regrants (s : State) : OnlyGroups [.wkp, .pocket] s s.regrants := by
  intro g hg; cases g <;> simp_all [State.agree, State.regrants]

/-- What is told of the throttle changes nothing of the grants. -/
theorem exec_creditRecompute (s : State) : ∃ t, exec .creditRecompute s = .next t ∧ LinkFrame s.regrants t := by
  refine ⟨_, rfl, ?_⟩
  exact .ite (eventFrame_raise _ _ _).toLinkFrame (.ite (eventFrame_raise _ _ _).toLinkFrame (.refl _))

theorem creditRecompute_grants {s : State} {c : Nat} (h : (s.session c).state ≠ .free) :
    Answers (exec .creditRecompute s) (fun t =>
      (t.session c).creditUnits = throttled s.pocketFill (s.val Od.POCKET_THROTTLE) (s.session c).unitLimit 4100
      ∧ (t.session c).creditCmds = throttled s.pocketFill (s.val Od.POCKET_THROTTLE) (s.session c).cmdLimit 1
      ∧ (t.pocket.throttled = true ↔ s.val Od.POCKET_THROTTLE < s.pocketFill)
      ∧ OnlyGroups (.pocket :: reporting) s t) := by
  obtain ⟨t, ht, hf⟩ := exec_creditRecompute s
  have hsession : sentLike (s.granted (s.session c)) (t.session c) := by
    have := hf.session c
    rwa [State.session_regrants, State.regranted, if_neg h] at this
  refine ⟨t, ht, hsession.creditUnits, hsession.creditCmds, ?_, ?_⟩
  · rw [hf.pocket]; exact decide_eq_true_iff
  · exact ((onlyGroups_regrants s).mono (by decide)).trans (hf.reports.1.mono (by decide))

/-- Settles O21: acknowledgments that are due, cookie secrets, cursors and grants. -/
theorem sessionTimersAct : Obligations.SessionTimersAct := by
  unfold Obligations.SessionTimersAct
  exact fun s => ⟨fun c => ackDelayExpiry_sends, cookieRotation_keepsFormer, cursorIdleExpiry_drops s,
    fun c => creditRecompute_grants⟩

end Sys2Proof.Machine
end

section
/-! O20. The datagrams of a command (R131, R134, R141, R142, R197 to R199): the first takes a FREE slot of its origin, a later one adds
its fragment. -/

namespace Sys2Proof.Machine

/-! ### Search for a FREE slot -/

/-- What the cyclic search finds is free and lies within its range (R198). -/
theorem firstFree_eq_some {base count start n : Nat} {isFree : Nat → Bool} (h : firstFree base count start isFree = some n) :
    base ≤ n ∧ n < base + count ∧ isFree n = true := by
  obtain ⟨i, hi, rfl⟩ := List.mem_map.1 (List.mem_of_find?_eq_some h)
  have hlt := Nat.mod_lt (start + i) (Nat.lt_of_le_of_lt (Nat.zero_le i) (List.mem_range.1 hi))
  exact ⟨by omega, by omega, List.find?_some h⟩

/-- The cyclic search comes to every number of its range (R198). -/
theorem firstFree_of_free {base count m : Nat} (start : Nat) {isFree : Nat → Bool} (hlo : base ≤ m) (hhi : m < base + count)
    (hm : isFree m = true) : ∃ n, firstFree base count start isFree = some n := by
  obtain ⟨k, rfl⟩ := Nat.exists_eq_add_of_le hlo
  have hk : k < count := by omega
  have hstart : start % count < count := Nat.mod_lt start (by omega)
  have hround : (start + (k + (count - start % count)) % count) % count = k := by
    calc (start + (k + (count - start % count)) % count) % count
        = (start % count + (k + (count - start % count))) % count := by rw [Nat.add_mod_mod, Nat.mod_add_mod]
      _ = (k + count) % count := by congr 1; omega
      _ = k := by rw [Nat.add_mod_right, Nat.mod_eq_of_lt hk]
  have hin := List.mem_range.2 (Nat.mod_lt (k + (count - start % count)) (by omega : 0 < count))
  exact Option.isSome_iff_exists.1 (List.find?_isSome.2 ⟨base + k, List.mem_map.2 ⟨_, hin, by rw [hround]⟩, hm⟩)

/-! ### An accepted datagram -/

theorem sentLike.accepted {x y : Session} (h : sentLike x y) (rx : Rx) : sentLike (acceptDatagram x rx) (acceptDatagram y rx) := by
  unfold sentLike at *; rw [h]; rfl

theorem sentLike.windowed {x y : Session} (h : sentLike x y) (t : Nat) : sentLike (windowTo x t) (windowTo y t) := by
  unfold sentLike at h
  rw [h]
  unfold windowTo sentLike
  dsimp only
  split <;> rfl

theorem sentLike.withAckPrio {x y : Session} (h : sentLike x y) (p : Nat) : sentLike { x with ackPrio := p } { y with ackPrio := p } := by
  unfold sentLike at *; rw [h]

/-- A session after a datagram of the tag `t`, but for what sending advances (R131, R135). -/
def afterDatagram (x : Session) (rx : Rx) (t : Nat) : Session :=
  { windowTo (acceptDatagram x rx) t with ackPrio := bitsOf 7 5 rx.dg.flags.toNat }

theorem afterDatagram_gen (x : Session) (rx : Rx) (t : Nat) : (afterDatagram x rx t).gen = x.gen := by
  unfold afterDatagram windowTo
  split <;> rfl

theorem afterDatagram_slotLimit (x : Session) (rx : Rx) (t : Nat) : (afterDatagram x rx t).slotLimit = x.slotLimit := by
  unfold afterDatagram windowTo
  split <;> rfl

theorem afterDatagram_replays (x : Session) (rx : Rx) (t : Nat) :
    (afterDatagram x rx t).replays = (windowTo (acceptDatagram x rx) t).replays := rfl

theorem sentLike.afterDatagram {x y : Session} (h : sentLike x y) (rx : Rx) (t : Nat) :
    sentLike (afterDatagram x rx t) (afterDatagram y rx t) := ((h.accepted rx).windowed t).withAckPrio _

/-- The tag of a datagram, counted from its session's first (R131). -/
def State.tagOf (s : State) (rx : Rx) : Nat := extTag (s.session (contextOf rx.dg.session)).highTag rx.dg.tag.toNat

/-- A COMMAND datagram that is accepted has been taken and decrypted. -/
def State.arrived (s : State) (rx : Rx) : State := (s.noteReady.parserTakes rx).decrypted rx .accept

/-- The session of an accepted COMMAND datagram has moved its replay window, and owes an acknowledgment (R131, R135). -/
def State.windowed (s : State) (rx : Rx) : State :=
  let c := contextOf rx.dg.session
  ((s.arrived rx).setSession c (windowTo (acceptDatagram ((s.arrived rx).session c) rx) (s.tagOf rx))).owesAck c rx

theorem onlyGroups_noteReady (s : State) : OnlyGroups [.seq] s s.noteReady := onlyGroups_setSeq s _

theorem State.slot_noteReady (s : State) (n : Nat) : s.noteReady.slot n = s.slot n := rfl

theorem linkFrame_arrived (s : State) (rx : Rx) : LinkFrame s.noteReady (s.arrived rx) := linkFrame_received s.noteReady rx .accept

theorem State.arrived_slots (s : State) (rx : Rx) : (s.arrived rx).seq.slots = s.seq.slots := by rw [(linkFrame_arrived s rx).seq]; rfl

theorem State.arrived_session (s : State) (rx : Rx) (c : Nat) : sentLike (s.session c) ((s.arrived rx).session c) :=
  (linkFrame_arrived s rx).session c

theorem State.arrived_tagOf (s : State) (rx : Rx) : (s.arrived rx).tagOf rx = s.tagOf rx := by
  rw [State.tagOf, State.tagOf, (s.arrived_session rx _).highTag]

theorem onlyGroups_windowed (s : State) (rx : Rx) : OnlyGroups reporting (s.arrived rx) (s.windowed rx) :=
  ((onlyGroups_setWkp _ _).mono (by decide)).trans (onlySession_owesAck _ _ rx).2

/-- A datagram that is accepted changes what reports change, and the order in which slots became ready. -/
theorem onlyGroups_windowed_all (s : State) (rx : Rx) : OnlyGroups (.seq :: reporting) s (s.windowed rx) :=
  (((onlyGroups_noteReady s).mono (by decide)).trans ((linkFrame_arrived s rx).reports.1.mono (by decide))).trans
    ((onlyGroups_windowed s rx).mono (by decide))

theorem State.windowed_slots (s : State) (rx : Rx) : (s.windowed rx).seq.slots = s.seq.slots := by
  rw [(onlyGroups_windowed s rx).seq_eq (by decide), s.arrived_slots]

theorem State.windowed_session (s : State) (rx : Rx) :
    sentLike (afterDatagram (s.session (contextOf rx.dg.session)) rx (s.tagOf rx))
      ((s.windowed rx).session (contextOf rx.dg.session)) := by
  let c := contextOf rx.dg.session
  have hown := State.owesAck_session ((s.arrived rx).setSession c (windowTo (acceptDatagram ((s.arrived rx).session c) rx) (s.tagOf rx))) c rx
  rw [State.session_setSession_same] at hown
  exact ((s.arrived_session rx c).afterDatagram rx _).trans hown

theorem exec_commandDatagram {s : State} {rx : Rx} (hw : s.wkpServed = true)
    (hv : s.verdict rx 0x10 (fun z => z == .isOpen) = .accept) (htag : rx.dg.tag ≠ 0)
    (hlen : s.lengthDiffers (contextOf rx.dg.session) (s.tagOf rx) rx.dg = false) :
    exec (.commandDatagram rx) s =
      .next ((s.arrived rx).commandByTag (s.windowed rx) rx (contextOf rx.dg.session)).noteReady := by
  have hext : extTag (acceptDatagram (((s.noteReady.parserTakes rx).decrypted rx .accept).session (contextOf rx.dg.session)) rx).highTag
      rx.dg.tag.toNat = s.tagOf rx := s.arrived_tagOf rx
  change execCommandDatagram rx s = _
  simp only [execCommandDatagram, hw, hv, htag, hext, hlen, Bool.not_true, Bool.false_eq_true, if_false]
  rfl

/-! ### A later datagram -/

theorem State.slotOfTag?_congr {s t : State} (h : t.seq.slots = s.seq.slots) (sid tag : BitVec 32) :
    t.slotOfTag? sid tag = s.slotOfTag? sid tag := by
  rw [State.slotOfTag?, State.slotOfTag?, State.sessionSlots_congr h]

/-- One more fragment of a message that is incomplete (R134). -/
theorem commandByTag_adds {s : State} {rx : Rx} {n : Nat} {x : Slot} (hslot : s.slotOfTag? rx.dg.session rx.dg.tag = some (n, x))
    (hx : x.state = .filled ∧ slotComplete x = false)
    (hwin : windowBase (max (s.session (contextOf rx.dg.session)).highTag (s.tagOf rx)) ≤ s.tagOf rx) (a : State) :
    s.commandByTag a rx (contextOf rx.dg.session) = a.addFragment n x rx.dg := by
  unfold State.tagOf at hwin
  simp only [State.commandByTag, Nat.not_lt.2 hwin, if_false, hslot, hx, and_self, if_true]

theorem commandDatagram_adds {s : State} {rx : Rx} (hw : s.wkpServed = true)
    (hv : s.verdict rx 0x10 (fun z => z == .isOpen) = .accept) (htag : rx.dg.tag ≠ 0) {n : Nat} {x : Slot}
    (hslot : s.slotOfTag? rx.dg.session rx.dg.tag = some (n, x)) (hlen : x.msgLen = rx.dg.msgLen.toNat)
    (hx : x.state = .filled ∧ slotComplete x = false)
    (hwin : windowBase (max (s.session (contextOf rx.dg.session)).highTag (s.tagOf rx)) ≤ s.tagOf rx) :
    Answers (exec (.commandDatagram rx) s) (fun u =>
      u.slot n = { x with frags := insertFrag (bitsOf 24 0 rx.dg.frag.toNat) rx.dg.payload x.frags }
        ∧ (∀ m, m ≠ n → u.slot m = s.slot m) ∧ OnlyGroups (.seq :: reporting) s u) := by
  have hadds : (s.arrived rx).commandByTag (s.windowed rx) rx (contextOf rx.dg.session) = (s.windowed rx).addFragment n x rx.dg :=
    commandByTag_adds (by rw [State.slotOfTag?_congr (s.arrived_slots rx), hslot]) hx
      (by rw [s.arrived_tagOf, (s.arrived_session rx _).highTag]; exact hwin) _
  refine ⟨_, exec_commandDatagram hw hv htag (by simp [State.lengthDiffers, hslot, hlen]), ?_⟩
  rw [hadds]
  refine ⟨?_, fun m hm => ?_, ?_⟩
  · rw [State.slot_noteReady, State.addFragment, State.slot_setSlot_same]
  · rw [State.slot_noteReady, State.addFragment, State.slot_setSlot_other _ _ hm, State.slot_congr (s.windowed_slots rx)]
  · exact ((onlyGroups_windowed_all s rx).trans ((onlyGroups_setSeq _ _).mono (by decide))).trans
      ((onlyGroups_noteReady _).mono (by decide))

/-! ### The first datagram of a command -/

theorem commandByTag_new {s a : State} {rx : Rx} (hslot : s.slotOfTag? rx.dg.session rx.dg.tag = none)
    (hreplay : (a.session (contextOf rx.dg.session)).replays.find? (fun r => r.tag == rx.dg.tag.toNat) = none)
    (hwin : windowBase (max (s.session (contextOf rx.dg.session)).highTag (s.tagOf rx)) ≤ s.tagOf rx) :
    s.commandByTag a rx (contextOf rx.dg.session) = s.newCommand a rx (contextOf rx.dg.session) (s.tagOf rx) := by
  unfold State.tagOf at hwin
  simp only [State.commandByTag, Nat.not_lt.2 hwin, if_false, hslot, hreplay]
  rfl

/-- A new command within its grant, for which there is room, claims a FREE slot of its origin (R141, R198, R199). -/
theorem newCommand_claims {s a : State} {rx : Rx} {c t : Nat} (hgrant : s.exceedsGrant c rx.dg = false) (hp : s.admin.pauseStage = 0)
    (hroom : (a.sessionSlots (sessionId c (a.session c).gen)).length < (a.session c).slotLimit)
    (hfree : ∃ m, (originSlots rx).1 ≤ m ∧ m < (originSlots rx).1 + (originSlots rx).2 ∧ (a.slot m).state = .free)
    (hres : reservationOf rx.dg = 0 ∨ a.valueAreaUsed + reservationOf rx.dg ≤ 83886080) :
    ∃ n, (originSlots rx).1 ≤ n ∧ n < (originSlots rx).1 + (originSlots rx).2 ∧ (a.slot n).state = .free
      ∧ s.newCommand a rx c t = a.draw.claimSlot rx c n t (reservationOf rx.dg) := by
  obtain ⟨m, hlo, hhi, hm⟩ := hfree
  obtain ⟨n, hn⟩ := firstFree_of_free (Config.slotPick a.draws).val (isFree := fun n => (a.slot n).state == .free) hlo hhi (by simp [hm])
  obtain ⟨hlo', hhi', hn'⟩ := firstFree_eq_some hn
  refine ⟨n, hlo', hhi', by simpa using hn', ?_⟩
  have hfits : ¬ (reservationOf rx.dg ≠ 0 ∧ 83886080 < a.valueAreaUsed + reservationOf rx.dg) := by omega
  simp only [State.newCommand, hgrant, hp, State.sessionRoom, hroom, hn, hfits, Bool.false_eq_true, if_false, if_true, ne_eq,
    not_true_eq_false]

theorem State.reverseEntry_slots (s : State) : s.reverseEntry.seq.slots = s.seq.slots := by
  unfold State.reverseEntry State.abandonDrowse
  split
  · rfl
  · split <;> rfl

/-- An entry into a lower power state that is reversed changes the power state, what is flushed and a count (R226, R227). -/
theorem onlyGroups_reverseEntry (s : State) : OnlyGroups [.power, .seq, .od] s s.reverseEntry := by
  have hset (x : PowerState) (y : SeqState) : OnlyGroups [.power, .seq, .od] s { s with power := x, seq := y } := by
    intro g hg; cases g <;> simp_all [State.agree]
  have hbump (t : State) : OnlyGroups [.power, .seq, .od] t (t.bump Od.CNT_ENTRY_ABANDONED) := (onlyGroups_setOd t _).mono (by decide)
  exact .ite ((hset _ s.seq).trans (hbump _)) (.ite ((hset _ _).trans (hbump _)) (.refl _ s))

/-- What a claimed slot keeps of the datagram, and where and when it came (R134, R198, R199). -/
theorem State.claimSlot_slot (s : State) (rx : Rx) (c n t r : Nat) :
    let x := (s.claimSlot rx c n t r).slot n
    x.state = .filled ∧ x.session = rx.dg.session ∧ x.tag = rx.dg.tag ∧ x.frags = [(bitsOf 24 0 rx.dg.frag.toNat, rx.dg.payload)]
      ∧ x.reserved = r ∧ x.tsFirst = s.clock.dt ∧ x.port = rx.port.val ∧ x.csn = 0 := by
  intro x
  have hx : x = _ := (State.slot_congr (State.reverseEntry_slots _) n).trans (State.slot_setSlot_same _ n _)
  rw [hx]
  exact ⟨rfl, rfl, rfl, rfl, rfl, rfl, rfl, rfl⟩

theorem State.claimSlot_slot_other (s : State) (rx : Rx) (c t r : Nat) {n m : Nat} (h : m ≠ n) :
    (s.claimSlot rx c n t r).slot m = s.slot m :=
  (State.slot_congr (State.reverseEntry_slots _) m).trans (State.slot_setSlot_other _ _ h)

theorem onlyGroups_claimSlot (s : State) (rx : Rx) (c n t r : Nat) :
    OnlyGroups [.seq, .power, .od, .wkp, .events] s (s.claimSlot rx c n t r) := by
  have hevents (u : State) (e k : Nat) : OnlyGroups [.seq, .power, .od, .wkp, .events] u (u.perf e k) :=
    (onlyGroups_setEvents u _).mono (by decide)
  exact ((((((onlyGroups_setWkp s _).mono (by decide)).trans ((onlyGroups_setSeq _ _).mono (by decide))).trans (hevents _ 5 1)).trans
    (hevents _ 8 _)).trans ((onlyGroups_reverseEntry _).mono (by decide)))

theorem State.valueAreaUsed_congr {s t : State} (hs : t.seq.slots = s.seq.slots) (hk : t.kv = s.kv) :
    t.valueAreaUsed = s.valueAreaUsed := by
  rw [State.valueAreaUsed, State.valueAreaUsed, hs, hk]

theorem State.exceedsGrant_arrived (s : State) (rx : Rx) (c : Nat) : (s.arrived rx).exceedsGrant c rx.dg = s.exceedsGrant c rx.dg := by
  have hc := s.arrived_session rx c
  simp only [State.exceedsGrant, State.sessionSlots_congr (s.arrived_slots rx), hc.gen, hc.creditCmds, hc.creditUnits]

theorem commandDatagram_claims {s : State} {rx : Rx} (hw : s.wkpServed = true)
    (hv : s.verdict rx 0x10 (fun z => z == .isOpen) = .accept) (htag : rx.dg.tag ≠ 0)
    (hlen : s.lengthDiffers (contextOf rx.dg.session) (s.tagOf rx) rx.dg = false) {n : Nat}
    (hnew : (s.arrived rx).commandByTag (s.windowed rx) rx (contextOf rx.dg.session)
      = (s.windowed rx).draw.claimSlot rx (contextOf rx.dg.session) n (s.tagOf rx) (reservationOf rx.dg)) :
    Answers (exec (.commandDatagram rx) s) (fun u =>
      (u.slot n).state = .filled ∧ (u.slot n).session = rx.dg.session ∧ (u.slot n).tag = rx.dg.tag
        ∧ (u.slot n).frags = [(bitsOf 24 0 rx.dg.frag.toNat, rx.dg.payload)] ∧ (u.slot n).reserved = reservationOf rx.dg
        ∧ (u.slot n).tsFirst = s.clock.dt ∧ (u.slot n).port = rx.port.val ∧ (u.slot n).csn = 0
        ∧ (∀ m, m ≠ n → u.slot m = s.slot m) ∧ OnlyGroups (.seq :: .draws :: .power :: reporting) s u) := by
  have hto : OnlyGroups (.seq :: .draws :: .power :: reporting) s (s.windowed rx) := (onlyGroups_windowed_all s rx).mono (by decide)
  have hclock : (s.windowed rx).draw.clock = s.clock := hto .clock (by decide)
  have hslot := (s.windowed rx).draw.claimSlot_slot rx (contextOf rx.dg.session) n (s.tagOf rx) (reservationOf rx.dg)
  obtain ⟨hstate, hsession, htag', hfrags, hres, hfirst, hport, hcsn⟩ := hslot
  refine ⟨_, exec_commandDatagram hw hv htag hlen, ?_⟩
  rw [hnew]
  refine ⟨hstate, hsession, htag', hfrags, hres, ?_, hport, hcsn, fun m hm => ?_, ?_⟩
  · rw [State.slot_noteReady, hfirst, hclock]
  · rw [State.slot_noteReady, State.claimSlot_slot_other _ _ _ _ _ hm]
    exact State.slot_congr (s.windowed_slots rx) m
  · exact ((hto.trans ((onlyGroups_draw _).mono (by decide))).trans ((onlyGroups_claimSlot _ rx _ n _ _).mono (by decide))).trans
      ((onlyGroups_noteReady _).mono (by decide))

/-- The slots that its session holds are below its limit after the datagram is accepted as before. -/
theorem State.windowed_room {s : State} {rx : Rx}
    (h : (s.sessionSlots (sessionId (contextOf rx.dg.session) (s.session (contextOf rx.dg.session)).gen)).length
      < (s.session (contextOf rx.dg.session)).slotLimit) :
    ((s.windowed rx).sessionSlots (sessionId (contextOf rx.dg.session) ((s.windowed rx).session (contextOf rx.dg.session)).gen)).length
      < ((s.windowed rx).session (contextOf rx.dg.session)).slotLimit := by
  rw [(s.windowed_session rx).gen, (s.windowed_session rx).slotLimit, State.sessionSlots_congr (s.windowed_slots rx),
    afterDatagram_gen, afterDatagram_slotLimit]
  exact h

/-- Settles O20: a later datagram adds its fragment, the first claims a FREE slot of its origin. -/
theorem datagramsFillSlots : Obligations.DatagramsFillSlots := by
  unfold Obligations.DatagramsFillSlots
  intro s rx hw hv d c t htag
  refine ⟨fun n x hslot hlen hf hc hwin => commandDatagram_adds hw hv htag hslot hlen ⟨hf, hc⟩ hwin,
    fun hslot hlen hwin hreplay hgrant hp hroom hfree hres => ?_⟩
  have hnew := commandByTag_new (s := s.arrived rx) (a := s.windowed rx) (by rw [State.slotOfTag?_congr (s.arrived_slots rx)]; exact hslot)
    (by rw [(s.windowed_session rx).replays, afterDatagram_replays]; exact hreplay)
    (by rw [s.arrived_tagOf, (s.arrived_session rx _).highTag]; exact hwin)
  have hkv : (s.windowed rx).kv = s.kv := onlyGroups_windowed_all s rx .kv (by decide)
  obtain ⟨n, hlo, hhi, hn, hclaim⟩ := newCommand_claims (s := s.arrived rx) (a := s.windowed rx) (t := (s.arrived rx).tagOf rx)
    ((s.exceedsGrant_arrived rx c).trans hgrant)
    ((congrArg AdminState.pauseStage (linkFrame_arrived s rx).admin).trans hp) (State.windowed_room hroom)
    (by simpa only [State.slot_congr (s.windowed_slots rx)] using hfree)
    (by rw [State.valueAreaUsed_congr (s.windowed_slots rx) hkv]; exact hres)
  rw [s.arrived_tagOf] at hnew hclaim
  obtain ⟨u, hu, hslot'⟩ := commandDatagram_claims hw hv htag hlen (hnew.trans hclaim)
  exact ⟨u, hu, n, hlo, hhi, by rw [← State.slot_congr (s.windowed_slots rx)]; exact hn, hslot'⟩

end Sys2Proof.Machine
end

section
/-! SUPPORT. The Seam through the report of an event: whether the supervisor is reached stands as it was (R492, R556). -/

namespace Sys2Proof.Machine

/-- The groups that a report changes when it does not enter the Seam's queue. -/
def reportingHere : List Group := [.od, .wkp, .ports, .can, .events, .sent, .cipher]

theorem OnlyGroups.foldl {gs : List Group} {α : Type} {f : State → α → State} (h : ∀ s a, OnlyGroups gs s (f s a)) (l : List α)
    (s : State) : OnlyGroups gs s (l.foldl f s) := by
  induction l generalizing s with
  | nil => exact .refl _ s
  | cons a l ih => exact (h s a).trans (ih (f s a))

theorem reportsHere_setOd (s : State) (x : OdState) : OnlyGroups reportingHere s { s with od := x } :=
  (onlyGroups_setOd s x).mono (by decide)

theorem reportsHere_setEvents (s : State) (x : EventState) : OnlyGroups reportingHere s { s with events := x } :=
  (onlyGroups_setEvents s x).mono (by decide)

theorem reportsHere_setWkp (s : State) (x : WkpState) : OnlyGroups reportingHere s { s with wkp := x } :=
  (onlyGroups_setWkp s x).mono (by decide)

theorem reportsHere_setCan (s : State) (x : SMap CanNet) : OnlyGroups reportingHere s { s with can := x } := by
  intro g hg; cases g <;> simp_all [State.agree, reportingHere]

theorem reportsHere_emit (s : State) (x : Sent) : OnlyGroups reportingHere s (s.emit x) := by
  intro g hg; cases g <;> simp_all [State.agree, reportingHere]

theorem reportsHere_useKey (s : State) (k : Nat) : OnlyGroups reportingHere s (s.useKey k) := (only_useKey s k).1.mono (by decide)

theorem reportsHere_sessionSend (s : State) (c q : Nat) (m : Msg) (b : Bool) : OnlyGroups reportingHere s (s.sessionSend c q m b) :=
  .ite (.refl _ s) ((OnlyGroups.ite (reportsHere_useKey s _) (.refl _ s)).trans (reportsHere_setWkp _ _) |>.trans
    ((onlyGroups_txPut _ _ _ _).mono (by decide)))

theorem reportsHere_noticeTo (s : State) (src sev : Nat) (ps : List (BitVec 32)) (c : Nat) :
    OnlyGroups reportingHere s (s.noticeTo src sev ps c) :=
  .ite (.ite ((reportsHere_setWkp s _).trans (reportsHere_sessionSend _ _ _ _ _)) (reportsHere_setWkp s _)) (.refl _ s)

theorem reportsHere_canSend (s : State) (n cob : Nat) (d : Bytes) : OnlyGroups reportingHere s (s.canSend n cob d) :=
  .ite (reportsHere_emit s _) (.refl _ s)

theorem reportsHere_emcy (s : State) (n code : Nat) (five : Bytes) : OnlyGroups reportingHere s (s.emcy n code five) :=
  .ite (.refl _ s) (.ite ((reportsHere_canSend s _ _ _).trans (reportsHere_setCan _ _)) (.ite (reportsHere_setCan s _)
    (.ite ((reportsHere_setCan s _).trans (reportsHere_setOd _ _)) (reportsHere_setOd s _))))

theorem reportsHere_writeLog (s : State) : OnlyGroups reportingHere s s.writeLog :=
  .ite (reportsHere_setEvents s _) (reportsHere_setEvents s _)

theorem reportsHere_dropRecord (s : State) : OnlyGroups reportingHere s s.dropRecord :=
  (reportsHere_setOd s _).trans (reportsHere_setEvents _ _)

theorem reportsHere_thaw (s : State) (why : Nat) : OnlyGroups reportingHere s (s.thaw why) :=
  (((OnlyGroups.ite (reportsHere_dropRecord s) (reportsHere_setEvents s _)).trans (reportsHere_setEvents _ _)).trans
    (reportsHere_setOd _ _)).trans (reportsHere_writeLog _)

theorem reportsHere_addPending (s : State) (r : Rec) : OnlyGroups reportingHere s (s.addPending r) := reportsHere_setEvents s _

theorem reportsHere_enterRecord (s : State) (r : Rec) : OnlyGroups reportingHere s (s.enterRecord r) := by
  have hin : OnlyGroups reportingHere s ((if 256 ≤ s.events.pendingRecs.length then s.writeLog else s).addPending r) :=
    (OnlyGroups.ite (reportsHere_writeLog s) (.refl _ s)).trans (reportsHere_addPending _ r)
  exact .ite (reportsHere_dropRecord s)
    (.ite (.ite (hin.trans (reportsHere_thaw _ 2)) hin) (.ite (hin.trans (reportsHere_writeLog _)) hin))

theorem reportsHere_deliver (s : State) (src sev : Nat) (engine late : Bool) (ps : List (BitVec 32)) (dt sec : Nat) :
    OnlyGroups reportingHere s (s.deliver src sev engine late ps dt sec) := by
  have hsup (x : Sent) (o : OdState) : OnlyGroups reportingHere s ({ s with od := o }.emit x) :=
    (reportsHere_setOd s o).trans (reportsHere_emit _ x)
  have hemcy (t : State) (code : Nat) (five : Bytes) : OnlyGroups reportingHere t ((t.countRaise src 1 true).emcyAll code five) :=
    ((reportsHere_setEvents t _).trans (reportsHere_emcy _ 0 code five)).trans (reportsHere_emcy _ 1 code five)
  have hrec (t : State) (r : Rec) : OnlyGroups reportingHere t ((t.countRaise src 3 true).enterRecord r) :=
    (reportsHere_setEvents t _).trans (reportsHere_enterRecord _ r)
  have hsuppressed (t : State) (dest : Nat) : OnlyGroups reportingHere t (t.countRaise src dest false) := reportsHere_setEvents t _
  exact ((OnlyGroups.ite (hsup _ _) (.refl _ s)).trans (.ite (.ite (hemcy _ _ _) (hsuppressed _ 1)) (.refl _ _))).trans
    (.ite (.ite (hrec _ _) (hsuppressed _ 3)) (.refl _ _))

/-- A report that does not enter the Seam's queue leaves the Seam. -/
theorem OnlyGroups.securedUnreachable {s t : State} (h : OnlyGroups reportingHere s t) : t.securedUnreachable = s.securedUnreachable := by
  have hseam : t.seam = s.seam := h .seam (by decide)
  rw [State.securedUnreachable, State.securedUnreachable, hseam]

theorem securedUnreachable_ite {s a b : State} {c : Prop} [Decidable c] (ha : a.securedUnreachable = s.securedUnreachable)
    (hb : b.securedUnreachable = s.securedUnreachable) : (if c then a else b).securedUnreachable = s.securedUnreachable := by
  split <;> assumption

theorem securedUnreachable_raiseOnce (s : State) (src : Nat) (ps : List (BitVec 32)) :
    (s.raiseOnce src ps).securedUnreachable = s.securedUnreachable := by
  unfold State.raiseOnce
  split
  · rfl
  · rename_i sev _
    have hnotice (t : State) : OnlyGroups reportingHere t ((t.countRaise src 2 true).notices src sev ps) :=
      (reportsHere_setEvents t _).trans (.foldl (fun u c => reportsHere_noticeTo u src sev ps c) _ _)
    have hown : OnlyGroups reportingHere s (if bitOf 2 ((s.perf 191 1).odGet src Od.EVENT_ROUTE 0) then
        (if (s.perf 191 1).withinRate src 2 sev then ((s.perf 191 1).countRaise src 2 true).notices src sev ps
          else (s.perf 191 1).countRaise src 2 false) else s.perf 191 1) :=
      (reportsHere_setEvents s _).trans (.ite (.ite (hnotice _) (reportsHere_setEvents _ _)) (.refl _ _))
    refine Eq.trans ?_ hown.securedUnreachable
    exact securedUnreachable_ite (securedUnreachable_ite rfl (reportsHere_setOd _ _).securedUnreachable)
      (reportsHere_deliver _ _ _ _ _ _ _ _).securedUnreachable

/-- An event that is raised leaves the supervisor reached or not, as it was (R492, R556). -/
theorem securedUnreachable_raise (s : State) (src : Nat) (ps : List Nat) : (s.raise src ps).securedUnreachable = s.securedUnreachable := by
  have hover (t : State) (n : Nat) : (t.reportOverflow n).securedUnreachable = t.securedUnreachable :=
    securedUnreachable_ite (securedUnreachable_raiseOnce _ _ _) rfl
  exact (hover _ _).trans (securedUnreachable_raiseOnce s src _)

/-- A datagram that is taken and decrypted leaves the supervisor reached or not, as it was. -/
theorem securedUnreachable_received (s : State) (rx : Rx) (v : Verdict) :
    ((s.parserTakes rx).decrypted rx v).securedUnreachable = s.securedUnreachable := by
  have hadd (t : State) (p : Nat) : (t.portAdd p 10 1).securedUnreachable = t.securedUnreachable :=
    ((onlyGroups_portAdd t p 10 1).mono (hs := reportingHere) (by decide)).securedUnreachable
  have hcount (t : State) (p : Nat) : (t.portCount p 10).securedUnreachable = t.securedUnreachable :=
    securedUnreachable_ite ((securedUnreachable_raise _ _ _).trans (hadd t p)) (hadd t p)
  have hkey (t : State) (k : Nat) : (if (t.session (contextOf rx.dg.session)).secured then t.useKey k else t).securedUnreachable
      = t.securedUnreachable := securedUnreachable_ite (reportsHere_useKey t k).securedUnreachable rfl
  have hdecrypted (t : State) : (t.decrypted rx v).securedUnreachable = t.securedUnreachable := by
    cases v with
    | malformed => rfl
    | stale _ => rfl
    | drop => rfl
    | accept => exact hkey t _
    | tagFail => exact hkey t _
  exact (hdecrypted _).trans (hcount _ _)

end Sys2Proof.Machine
end

section
/-! O18. Handshakes (R112, R114, R122, R125 to R129): RESUME continues its context, the fragments of a FINISH are gathered, and a whole
FINISH opens its session or ends it. -/

namespace Sys2Proof.Machine

/-! ### The answers of a handshake -/

/-- A session as another, but for what the answers of its handshake set: its state, keys and transcript, what is kept to be repeated,
its token, and what sending advances. -/
def handshakeLike (x y : Session) : Prop :=
  y = { x with
    state := y.state, transcript := y.transcript, keyCd := y.keyCd, keyDc := y.keyDc, helloBody := y.helloBody
    replyBody := y.replyBody, tokenDigest := y.tokenDigest, hasToken := y.hasToken, windowRuns := y.windowRuns
    gathered := y.gathered, gatherLen := y.gatherLen, noticeSeq := y.noticeSeq, txPn := y.txPn, ackDue := y.ackDue }

theorem handshakeLike.trans {x y z : Session} (h : handshakeLike x y) (k : handshakeLike y z) : handshakeLike x z := by
  unfold handshakeLike at *; rw [k, h]

theorem sentLike.handshakeLike {x y : Session} (h : sentLike x y) : handshakeLike x y := by
  unfold sentLike at h; rw [h]; rfl

theorem State.helloReply_session (s : State) (c : Nat) (resumed : Bool) (hello : Bytes) :
    handshakeLike (s.session c) ((s.helloReply c resumed hello).session c)
      ∧ ((s.helloReply c resumed hello).session c).state = (s.session c).state := by
  unfold State.helloReply
  dsimp only
  split
  · rw [State.session_setSession_same]; exact ⟨rfl, rfl⟩
  · rw [State.session_setSession_same]; exact ⟨rfl, rfl⟩

theorem onlyGroups_sign (s : State) : OnlyGroups [.draws, .od, .events] s s.sign :=
  (((onlyGroups_draw s).mono (by decide)).trans ((onlyGroups_setOd _ _).mono (by decide))).trans
    ((onlyGroups_setEvents _ _).mono (by decide))

theorem onlySession_helloReply (s : State) (c : Nat) (resumed : Bool) (hello : Bytes) :
    OnlySession (.draws :: reporting) c s (s.helloReply c resumed hello) := by
  have hset (t : State) (x : Session) : OnlySession (.draws :: reporting) c t (t.setSession c x) :=
    (onlySession_setSession t c x).mono (by decide)
  have hsign : OnlySession (.draws :: reporting) c s s.draw.sign :=
    ((((onlyGroups_draw s).mono (by decide)).trans (onlyGroups_sign _)).onlySession (by decide) c).mono (by decide)
  exact .ite (hsign.trans (hset _ _)) (hset s _)

theorem eventFrame_sendReply (s : State) (c prio : Nat) : EventFrame s (s.sendReply c prio) :=
  .foldl _ (fun t _ => eventFrame_txPut t _ _ _) _ s

/-- A session that ESTABLISHED opens, with a new token (R128, R129). -/
def established (x : Session) (token : BitVec 128) : Session :=
  { x with state := .isOpen, tokenDigest := tokenDigestOf token, hasToken := true, windowRuns := false, gathered := [], gatherLen := none }

theorem established_handshakeLike (x : Session) (token : BitVec 128) : handshakeLike x (established x token) := rfl

theorem State.establish_session (s : State) (c prio : Nat) :
    sentLike (established (s.session c) (Config.resumeToken s.draws)) ((s.establish c prio).session c) := by
  have hsend := fun m => (eventFrame_sessionSend
    (s.draw.setSession c (established (s.session c) (Config.resumeToken s.draws))) c prio m false).session c
  rw [State.session_setSession_same] at hsend
  exact hsend _

theorem onlySession_establish (s : State) (c prio : Nat) : OnlySession (.draws :: reporting) c s (s.establish c prio) :=
  ((((onlyGroups_draw s).onlySession (by decide) c).mono (by decide)).trans ((onlySession_setSession _ c _).mono (by decide))).trans
    (((eventFrame_sessionSend _ c prio _ false).toLinkFrame.onlySession c).mono (by decide))

/-! ### RESUME -/

/-- The session that a RESUME continues, as its handshake sets it (R112, R114, R129). -/
def resumedSession (s : State) (rx : Rx) (h : HelloBody) (x : Session) : Session :=
  { handshakeFields s rx h x with
    secured := x.secured, ordered := x.ordered, state := if x.secured then .halfOpen true else .isOpen
    windowRuns := x.windowRuns && x.state == .dormant }

/-- The session has been set, and its HELLO_REPLY has left. -/
def State.resumeReplied (s : State) (rx : Rx) (h : HelloBody) (c : Nat) : State :=
  (((s.setSession c (resumedSession s rx h (s.session c))).helloReply c true rx.dg.payload).sendReply c
    (bitsOf 7 5 rx.dg.flags.toNat)).perf 96 1

theorem State.resumeContext_eq (s : State) (rx : Rx) (h : HelloBody) (c : Nat) :
    s.resumeContext rx h c = if (s.session c).secured then s.resumeReplied rx h c
      else (s.resumeReplied rx h c).establish c (bitsOf 7 5 rx.dg.flags.toNat) := rfl

theorem State.resumeReplied_session (s : State) (rx : Rx) (h : HelloBody) (c : Nat) :
    handshakeLike (resumedSession s rx h (s.session c)) ((s.resumeReplied rx h c).session c)
      ∧ ((s.resumeReplied rx h c).session c).state = if (s.session c).secured then .halfOpen true else .isOpen := by
  obtain ⟨hlike, hstate⟩ := State.helloReply_session (s.setSession c (resumedSession s rx h (s.session c))) c true rx.dg.payload
  rw [State.session_setSession_same] at hlike hstate
  have hsent := ((eventFrame_sendReply ((s.setSession c (resumedSession s rx h (s.session c))).helloReply c true rx.dg.payload) c
    (bitsOf 7 5 rx.dg.flags.toNat)).trans (eventFrame_perf _ 96 1)).session c
  exact ⟨hlike.trans hsent.handshakeLike, hsent.state.trans hstate⟩

theorem onlySession_resumeReplied (s : State) (rx : Rx) (h : HelloBody) (c : Nat) :
    OnlySession (.draws :: reporting) c s (s.resumeReplied rx h c) :=
  (((onlySession_setSession s c _).mono (by decide)).trans (onlySession_helloReply _ c true _)).trans
    ((((eventFrame_sendReply _ c _).trans (eventFrame_perf _ 96 1)).toLinkFrame.onlySession c).mono (by decide))

/-- A RESUME continues its context: OPEN, or HALF_OPEN when it is secured (R112, R129). -/
theorem State.resumeContext_session (s : State) (rx : Rx) (h : HelloBody) (c : Nat) :
    handshakeLike (resumedSession s rx h (s.session c)) ((s.resumeContext rx h c).session c)
      ∧ ((s.resumeContext rx h c).session c).state = if (s.session c).secured then .halfOpen true else .isOpen := by
  obtain ⟨hlike, hstate⟩ := s.resumeReplied_session rx h c
  rw [State.resumeContext_eq]
  split
  · rename_i hsec
    exact ⟨hlike, by rw [hstate, if_pos hsec]⟩
  · have hopen := (s.resumeReplied rx h c).establish_session c (bitsOf 7 5 rx.dg.flags.toNat)
    exact ⟨(hlike.trans (established_handshakeLike _ _)).trans hopen.handshakeLike, hopen.state⟩

theorem onlySession_resumeContext (s : State) (rx : Rx) (h : HelloBody) (c : Nat) :
    OnlySession (.draws :: reporting) c s (s.resumeContext rx h c) := by
  rw [State.resumeContext_eq]
  exact .ite (onlySession_resumeReplied s rx h c) ((onlySession_resumeReplied s rx h c).trans (onlySession_establish _ c _))

/-- A RESUME that is served, with the latest token of a session that may continue (R114, R117, R122, R129, R145). -/
structure ResumeServed (s : State) (rx : Rx) (h : HelloBody) : Prop where
  header : s.headerValid rx 0x06 = true
  whole : wholeMessage rx.dg = true
  clear : bitOf 1 rx.dg.flags.toNat = false
  body : helloBodyValid true false rx.dg.payload = true
  rate : s.hellosFrom rx.src < s.val Od.HELLO_RATE_PER_SOURCE
  unpaused : s.admin.pauseStage = 0
  first : s.duplicateOf rx = none
  cookie : s.cookieValid rx h = true
  fresh : s.staleReason? h.oldSession = none ∨ s.staleReason? h.oldSession = some 1
  state : (s.session (contextOf h.oldSession)).state = .dormant ∨ (s.session (contextOf h.oldSession)).state = .isOpen
  token : (s.session (contextOf h.oldSession)).hasToken = true
    ∧ (s.session (contextOf h.oldSession)).tokenDigest = tokenDigestOf h.token
  secured : h.secured = (s.session (contextOf h.oldSession)).secured
  reached : (s.session (contextOf h.oldSession)).secured = true → s.securedUnreachable = false ∧ s.val Od.DRBG_STATE ≠ 2

theorem exec_resume {s : State} {rx : Rx} (hw : s.wkpServed = true) (hr : ResumeServed s rx (parseHello true rx.dg.payload)) :
    exec (.resume rx) s = .next (((s.parserTakes rx).countHello rx.src).resumeContext rx (parseHello true rx.dg.payload)
      (contextOf (parseHello true rx.dg.payload).oldSession)) := by
  obtain ⟨hheader, hwhole, hclear, hbody, hrate, hpause, hfirst, hcookie, hfresh, hstate, ⟨htoken, hdigest⟩, hsec, hreach⟩ := hr
  change execResume rx s = _
  generalize hh : parseHello true rx.dg.payload = h at *
  generalize hx : s.session (contextOf h.oldSession) = x at *
  have hstale : ¬ (s.staleReason? h.oldSession = some 0 ∨ s.staleReason? h.oldSession = some 2 ∨ x.state = .closing) := by
    rcases hfresh with hf | hf <;> rcases hstate with hs | hs <;> simp [hf, hs]
  have hhalf : ¬ (x.state = .halfOpen true ∨ x.state = .halfOpen false) := by
    rcases hstate with hs | hs <;> simp [hs]
  have hserved : (x.secured && (s.securedUnreachable || s.val Od.DRBG_STATE == 2)) = false := by
    cases hb : x.secured
    · rfl
    · simp [hreach hb]
  simp only [execResume, hw, hheader, hwhole, hclear, hbody, Nat.not_le.2 hrate, hpause, hfirst, hh, hcookie, hx, hstale, hhalf, htoken,
    hdigest, hsec, hserved, Bool.not_true, Bool.or_false, Bool.false_eq_true, Bool.true_eq_false, if_false, ne_eq, not_true_eq_false,
    or_false]

theorem onlySession_countHello (s : State) (src : BitVec 128) (c : Nat) : OnlySession [.wkp] c s (s.countHello src) :=
  ⟨fun _ _ => rfl, onlyGroups_setWkp s _⟩

/-- A RESUME with the latest token continues its context (R112, R114, R129). -/
theorem resume_continues {s : State} {rx : Rx} (hw : s.wkpServed = true) (hr : ResumeServed s rx (parseHello true rx.dg.payload)) :
    let c := contextOf (parseHello true rx.dg.payload).oldSession
    let old := s.session c
    Answers (exec (.resume rx) s) (fun t =>
      (t.session c).state = (if old.secured then .halfOpen true else .isOpen) ∧ (t.session c).gen = old.gen
        ∧ (t.session c).seenTags = old.seenTags ∧ (t.session c).highTag = old.highTag ∧ (t.session c).fence = old.fence
        ∧ (t.session c).ordered = old.ordered ∧ (t.session c).src = rx.src
        ∧ OnlySession (.draws :: reporting) c s t) := by
  intro c old
  have hf : LinkFrame s (s.parserTakes rx) := linkFrame_parserTakes s rx
  have hold : sentLike old (((s.parserTakes rx).countHello rx.src).session c) := hf.session c
  have hto : OnlySession (.draws :: reporting) c s ((s.parserTakes rx).countHello rx.src) :=
    ((hf.onlySession c).trans ((onlySession_countHello _ _ c).mono (by decide))).mono (by decide)
  obtain ⟨hlike, hstate⟩ :=
    ((s.parserTakes rx).countHello rx.src).resumeContext_session rx (parseHello true rx.dg.payload) c
  have hcontinued := onlySession_resumeContext ((s.parserTakes rx).countHello rx.src) rx (parseHello true rx.dg.payload) c
  unfold sentLike at hold
  unfold handshakeLike at hlike
  rw [hold] at hlike hstate
  refine ⟨_, exec_resume hw hr, hstate, ?_, ?_, ?_, ?_, ?_, ?_, hto.trans hcontinued⟩ <;> rw [hlike] <;> rfl

/-! ### The fragments of a FINISH -/

/-- What has come of a FINISH with this datagram (R134). -/
def State.finishFrags (s : State) (rx : Rx) : List (Nat × Bytes) :=
  insertFrag (bitsOf 24 0 rx.dg.frag.toNat) rx.dg.payload (s.session (contextOf rx.dg.session)).gathered

/-- A session that has taken a fragment of its FINISH. -/
def finishGathered (x : Session) (rx : Rx) : Session :=
  { acceptDatagram x rx with
    gathered := insertFrag (bitsOf 24 0 rx.dg.frag.toNat) rx.dg.payload x.gathered
    gatherLen := some rx.dg.msgLen.toNat, ackPrio := bitsOf 7 5 rx.dg.flags.toNat }

/-- The datagram of a FINISH has been accepted, and its fragment gathered (R125, R134). -/
def State.finishArrived (s : State) (rx : Rx) : State :=
  let s0 := (s.parserTakes rx).decrypted rx .accept
  s0.setSession (contextOf rx.dg.session) (finishGathered (s0.session (contextOf rx.dg.session)) rx)

theorem sentLike.finishGathered {x y : Session} (h : sentLike x y) (rx : Rx) : sentLike (finishGathered x rx) (finishGathered y rx) := by
  unfold sentLike at *; rw [h]; rfl

theorem State.finishArrived_session (s : State) (rx : Rx) :
    sentLike (finishGathered (s.session (contextOf rx.dg.session)) rx) ((s.finishArrived rx).session (contextOf rx.dg.session)) := by
  rw [State.finishArrived, State.session_setSession_same]
  exact ((linkFrame_received s rx .accept).session _).finishGathered rx

theorem onlySession_finishArrived (s : State) (rx : Rx) :
    OnlySession reporting (contextOf rx.dg.session) s (s.finishArrived rx) :=
  ((linkFrame_received s rx .accept).onlySession _).trans ((onlySession_setSession _ _ _).mono (by decide))

theorem exec_finish {s : State} {rx : Rx} {cert : CertCheck} (hw : s.wkpServed = true)
    (hv : s.verdict rx 0x04 (fun z => z == .halfOpen true || z == .halfOpen false) = .accept)
    (hlen : (s.session (contextOf rx.dg.session)).gatherLen.all (· == rx.dg.msgLen.toNat) = true) :
    exec (.finish rx cert) s = .next (if (assemble (s.finishFrags rx)).length = rx.dg.msgLen.toNat
      then (s.finishArrived rx).finish rx cert (contextOf rx.dg.session) (assemble (s.finishFrags rx))
      else (s.finishArrived rx).owesAck (contextOf rx.dg.session) rx) := by
  have hold := (linkFrame_received s rx .accept).session (contextOf rx.dg.session)
  have hfrags : s.finishFrags rx = insertFrag (bitsOf 24 0 rx.dg.frag.toNat) rx.dg.payload
      (((s.parserTakes rx).decrypted rx .accept).session (contextOf rx.dg.session)).gathered := by rw [State.finishFrags, hold.gathered]
  have hsame : (((s.parserTakes rx).decrypted rx .accept).session (contextOf rx.dg.session)).gatherLen.any (· != rx.dg.msgLen.toNat)
      = false := by
    rw [hold.gatherLen]
    cases hg : (s.session (contextOf rx.dg.session)).gatherLen with
    | none => rfl
    | some k => simpa [hg] using hlen
  rw [hfrags]
  change execFinish rx cert s = _
  simp only [execFinish, hw, hv, hsame, Bool.not_true, Bool.false_eq_true, if_false]
  exact next_ite _ _ _

/-- A FINISH that has not come whole is kept, and acknowledged (R125, R134). -/
theorem finish_gathers {s : State} {rx : Rx} (cert : CertCheck) (hw : s.wkpServed = true)
    (hv : s.verdict rx 0x04 (fun z => z == .halfOpen true || z == .halfOpen false) = .accept)
    (hlen : (s.session (contextOf rx.dg.session)).gatherLen.all (· == rx.dg.msgLen.toNat) = true)
    (hpart : (assemble (s.finishFrags rx)).length ≠ rx.dg.msgLen.toNat) :
    let k := contextOf rx.dg.session
    Answers (exec (.finish rx cert) s) (fun t =>
      (t.session k).gathered = s.finishFrags rx ∧ (t.session k).state = (s.session k).state ∧ OnlySession reporting k s t) := by
  intro k
  have hack := (s.finishArrived rx).owesAck_session k rx
  have harrived := s.finishArrived_session rx
  refine ⟨_, exec_finish hw hv hlen, ?_⟩
  rw [if_neg hpart]
  exact ⟨hack.gathered.trans harrived.gathered, hack.state.trans harrived.state,
    (onlySession_finishArrived s rx).trans (onlySession_owesAck _ k rx)⟩

/-! ### The verification of a FINISH -/

theorem LinkFrame.anchorGroup? {s t : State} (h : LinkFrame s t) (cert : CertCheck) (rx : Rx) :
    t.anchorGroup? cert rx = s.anchorGroup? cert rx := by
  have hgroup (a : Nat) : t.odGet a Od.ANCHOR_GROUP 0 = s.odGet a Od.ANCHOR_GROUP 0 := h.od a _ 0 (by decide) (by decide) rfl
  have hstate (a : Nat) : t.anchorState a = s.anchorState a := by
    rw [State.anchorState, State.anchorState, State.blob, State.blob, h.blobs]
  simp only [State.anchorGroup?, hgroup, hstate]

theorem LinkFrame.certAccepted {s t : State} (h : LinkFrame s t) (cert : CertCheck) : t.certAccepted cert = s.certAccepted cert := by
  have hcheck : t.val Od.CERT_TIME_CHECK = s.val Od.CERT_TIME_CHECK := h.val (by decide) rfl
  have hrevoked : (List.range 64).any (fun i => t.odGet 0 Od.REVOKED (i + 1) == cert.fingerprint.toNat)
      = (List.range 64).any (fun i => s.odGet 0 Od.REVOKED (i + 1) == cert.fingerprint.toNat) := by
    rw [Bool.eq_iff_iff, List.any_eq_true, List.any_eq_true]
    refine exists_congr fun i => and_congr_right fun hi => ?_
    rw [h.od 0 Od.REVOKED (i + 1) (by decide) (by have := List.mem_range.1 hi; omega) rfl]
  simp only [State.certAccepted, State.withinValidity, h.clock, hcheck, hrevoked]

/-- The signatures of a FINISH are verified, and counted (R349). -/
def State.verifies (s : State) (cert : CertCheck) : State :=
  (s.bump Od.CNT_VERIFICATIONS (cert.intermediates + 2)).perf 87 (cert.intermediates + 2)

theorem only_verifies (s : State) (cert : CertCheck) : Only [.od, .events] [Od.CNT_VERIFICATIONS] s (s.verifies cert) :=
  ((only_bump s Od.CNT_VERIFICATIONS (cert.intermediates + 2) 32 (by decide)).mono (by decide)).trans
    ((only_perf _ _ 87 _).mono (by decide))

/-- The state after a FINISH that opens its session: its group is that of its anchor (R127, R128). -/
def State.finishOpened (s : State) (rx : Rx) (cert : CertCheck) (c g : Nat) : State :=
  (((s.verifies cert).setSession c { s.session c with group := g, serviceAnchor := cert.serviceAnchor }).establish c
    (bitsOf 7 5 rx.dg.flags.toNat)).perf 95 1

/-- A certificate and a signature that are accepted open the session (R126 to R128). -/
theorem State.finish_opens {s : State} {rx : Rx} {cert : CertCheck} {c g : Nat} {body : Bytes} (hu : s.securedUnreachable = false)
    (hg : s.anchorGroup? cert rx = some g) (hb : finishFormed body = true) (hc : s.certAccepted cert = true)
    (hold : (s.session c).state = .halfOpen true → (s.session c).group = g ∧ (s.session c).serviceAnchor = cert.serviceAnchor)
    (hsig : cert.signs = finishDigest (s.session c) body) : s.finish rx cert c body = s.finishOpened rx cert c g := by
  have hsame : ((s.session c).state == .halfOpen true
      && ((s.session c).group != g || (s.session c).serviceAnchor != cert.serviceAnchor)) = false := by
    cases hs : (s.session c).state == .halfOpen true
    · rfl
    · simp [hold (beq_iff_eq.1 hs)]
  simp only [State.finish, hu, hg, hb, hc, hsame, hsig, Bool.not_true, Bool.or_self, Bool.false_eq_true, if_false, ne_eq,
    not_true_eq_false]
  rfl

theorem State.finishOpened_session (s : State) (rx : Rx) (cert : CertCheck) (c g : Nat) :
    sentLike (established { s.session c with group := g, serviceAnchor := cert.serviceAnchor } (Config.resumeToken s.draws))
      ((s.finishOpened rx cert c g).session c) := by
  have hopen := ((s.verifies cert).setSession c { s.session c with group := g, serviceAnchor := cert.serviceAnchor }).establish_session c
    (bitsOf 7 5 rx.dg.flags.toNat)
  rw [State.session_setSession_same] at hopen
  exact hopen

theorem onlySession_finishOpened (s : State) (rx : Rx) (cert : CertCheck) (c g : Nat) :
    OnlySession (.draws :: reporting) c s (s.finishOpened rx cert c g) :=
  (((((only_verifies s cert).1.onlySession (by decide) c).mono (by decide)).trans
    ((onlySession_setSession _ c _).mono (by decide))).trans (onlySession_establish _ c _)).trans
    (((eventFrame_perf _ 95 1).toLinkFrame.onlySession c).mono (by decide))

/-- A FINISH is refused when its anchor, its body, its certificate or its signature is not accepted (R126, R127). -/
theorem State.finish_refuses {s : State} {rx : Rx} {cert : CertCheck} {c : Nat} {body : Bytes} (hu : s.securedUnreachable = false)
    (hbad : s.anchorGroup? cert rx = none ∨ finishFormed body = false ∨ s.certAccepted cert = false
      ∨ cert.signs ≠ finishDigest (s.session c) body) :
    ∃ st, st ≠ St.RETRY_LATER ∧ s.finish rx cert c body = (s.verifies cert).refuseHandshake c rx st := by
  cases hg : s.anchorGroup? cert rx with
  | none =>
    refine ⟨St.CERT_REJECTED, by decide, ?_⟩
    simp only [State.finish, hu, hg, Bool.false_eq_true, if_false]
    rfl
  | some g =>
    cases hcert : !finishFormed body || !s.certAccepted cert || ((s.session c).state == .halfOpen true
        && ((s.session c).group != g || (s.session c).serviceAnchor != cert.serviceAnchor))
    · have hsig : cert.signs ≠ finishDigest (s.session c) body := by
        simp only [Bool.or_eq_false_iff, Bool.not_eq_false'] at hcert
        simpa [hg, hcert] using hbad
      refine ⟨St.AUTH_FAIL, by decide, ?_⟩
      simp only [State.finish, hu, hg, hcert, hsig, Bool.false_eq_true, if_false, ne_eq, not_false_eq_true, if_true]
      rfl
    · refine ⟨St.CERT_REJECTED, by decide, ?_⟩
      simp only [State.finish, hu, hg, hcert, Bool.false_eq_true, if_false, if_true]
      rfl

theorem refuseHandshake_frees {s : State} {c : Nat} {rx : Rx} {st : Nat} (hs : (s.session c).state = .halfOpen false)
    (hst : st ≠ St.RETRY_LATER) :
    let t := s.refuseHandshake c rx st
    (t.session c).state = .free ∧ (t.session c).gen = (s.session c).gen
      ∧ t.val Od.CNT_AUTH_REFUSED = (s.val Od.CNT_AUTH_REFUSED + 1) % 2 ^ 32 ∧ t.kv.versions = s.kv.versions := by
  have hclose : EventFrame s (s.sendClose c st) := eventFrame_sessionDatagram s c _ _ _
  have hend : (s.sendClose c st).endHandshake c = (s.sendClose c st).freeContext c :=
    State.endHandshake_halfOpen ((hclose.session c).state.trans hs)
  have hfreed : SessionFreed s ((s.sendClose c st).freeContext c) c :=
    .of_linkFrame hclose.toLinkFrame (sessionFreed_freeContext _ c)
  have hval : ((s.sendClose c st).freeContext c).val Od.CNT_AUTH_REFUSED = s.val Od.CNT_AUTH_REFUSED :=
    (State.freeContext_odGet _ c (by decide) (by decide)).trans (hclose.toLinkFrame.val (by decide) rfl)
  have heq : s.refuseHandshake c rx st = (((s.sendClose c st).freeContext c).bump Od.CNT_AUTH_REFUSED).raise Ev.WKP_CERT_REJECTED
      [rx.src.toNat % 2 ^ 32, st] := by
    rw [State.refuseHandshake, hend]
    exact if_neg hst
  have hraise := eventFrame_raise (((s.sendClose c st).freeContext c).bump Od.CNT_AUTH_REFUSED) Ev.WKP_CERT_REJECTED
    [rx.src.toNat % 2 ^ 32, st]
  have hsent := hraise.session c
  intro t
  refine ⟨?_, ?_, ?_, ?_⟩ <;> simp only [t, heq]
  · exact hsent.state.trans hfreed.state
  · exact hsent.gen.trans hfreed.gen
  · rw [State.raise_val _ _ _ (by decide) rfl, State.val, State.bump, State.odGet_odPut_same, ← hval]
    rfl
  · rw [State.raise_kv]
    exact hfreed.versions

/-! ### What a FINISH is verified against -/

/-- The gathering of a fragment leaves what the certificate and the signature are held against. -/
theorem State.finishArrived_checks (s : State) (rx : Rx) (cert : CertCheck) (body : Bytes) :
    (s.finishArrived rx).securedUnreachable = s.securedUnreachable
      ∧ (s.finishArrived rx).anchorGroup? cert rx = s.anchorGroup? cert rx
      ∧ (s.finishArrived rx).certAccepted cert = s.certAccepted cert
      ∧ finishDigest ((s.finishArrived rx).session (contextOf rx.dg.session)) body
        = finishDigest (s.session (contextOf rx.dg.session)) body := by
  have hf := linkFrame_received s rx .accept
  refine ⟨securedUnreachable_received s rx .accept, hf.anchorGroup? cert rx, hf.certAccepted cert, ?_⟩
  rw [finishDigest, (s.finishArrived_session rx).transcript]
  rfl

theorem finish_opensSession {s : State} {rx : Rx} {cert : CertCheck} {g : Nat} (hw : s.wkpServed = true)
    (hv : s.verdict rx 0x04 (fun z => z == .halfOpen true || z == .halfOpen false) = .accept)
    (hlen : (s.session (contextOf rx.dg.session)).gatherLen.all (· == rx.dg.msgLen.toNat) = true)
    (hwhole : (assemble (s.finishFrags rx)).length = rx.dg.msgLen.toNat) (hu : s.securedUnreachable = false)
    (hg : s.anchorGroup? cert rx = some g) (hb : finishFormed (assemble (s.finishFrags rx)) = true) (hc : s.certAccepted cert = true)
    (hold : (s.session (contextOf rx.dg.session)).state = .halfOpen true →
      (s.session (contextOf rx.dg.session)).group = g ∧ (s.session (contextOf rx.dg.session)).serviceAnchor = cert.serviceAnchor)
    (hsig : cert.signs = finishDigest (s.session (contextOf rx.dg.session)) (assemble (s.finishFrags rx))) :
    let k := contextOf rx.dg.session
    Answers (exec (.finish rx cert) s) (fun t =>
      (t.session k).state = .isOpen ∧ (t.session k).group = g ∧ (t.session k).hasToken = true
        ∧ (t.session k).tokenDigest = tokenDigestOf (Config.resumeToken s.draws) ∧ OnlySession (.draws :: reporting) k s t) := by
  intro k
  obtain ⟨hu', hg', hc', hd'⟩ := s.finishArrived_checks rx cert (assemble (s.finishFrags rx))
  have harrived := s.finishArrived_session rx
  have hopens : (s.finishArrived rx).finish rx cert k (assemble (s.finishFrags rx)) = (s.finishArrived rx).finishOpened rx cert k g :=
    State.finish_opens (hu'.trans hu) (hg'.trans hg) hb (hc'.trans hc)
      (fun h => by rw [harrived.group, harrived.serviceAnchor]; exact hold (harrived.state.symm.trans h)) (hsig.trans hd'.symm)
  have hsession := (s.finishArrived rx).finishOpened_session rx cert k g
  have hdraws : (s.finishArrived rx).draws = s.draws := (linkFrame_received s rx .accept).draws
  refine ⟨_, exec_finish hw hv hlen, ?_⟩
  rw [if_pos hwhole, hopens]
  refine ⟨hsession.state, hsession.group, hsession.hasToken, ?_, ?_⟩
  · rw [hsession.tokenDigest, ← hdraws]; rfl
  · exact ((onlySession_finishArrived s rx).mono (by decide)).trans (onlySession_finishOpened _ rx cert k g)

theorem finish_endsSession {s : State} {rx : Rx} {cert : CertCheck} (hw : s.wkpServed = true)
    (hv : s.verdict rx 0x04 (fun z => z == .halfOpen true || z == .halfOpen false) = .accept)
    (hlen : (s.session (contextOf rx.dg.session)).gatherLen.all (· == rx.dg.msgLen.toNat) = true)
    (hwhole : (assemble (s.finishFrags rx)).length = rx.dg.msgLen.toNat) (hu : s.securedUnreachable = false)
    (hs : (s.session (contextOf rx.dg.session)).state = .halfOpen false)
    (hbad : s.anchorGroup? cert rx = none ∨ finishFormed (assemble (s.finishFrags rx)) = false ∨ s.certAccepted cert = false
      ∨ cert.signs ≠ finishDigest (s.session (contextOf rx.dg.session)) (assemble (s.finishFrags rx))) :
    let k := contextOf rx.dg.session
    Answers (exec (.finish rx cert) s) (fun t =>
      (t.session k).state = .free ∧ (t.session k).gen = (s.session k).gen
        ∧ t.val Od.CNT_AUTH_REFUSED = (s.val Od.CNT_AUTH_REFUSED + 1) % 2 ^ 32 ∧ t.kv.versions = s.kv.versions) := by
  intro k
  obtain ⟨hu', hg', hc', hd'⟩ := s.finishArrived_checks rx cert (assemble (s.finishFrags rx))
  have harrived := s.finishArrived_session rx
  obtain ⟨st, hst, href⟩ := State.finish_refuses (c := k) (hu'.trans hu) (by rw [hg', hc', hd']; exact hbad)
  have hto := linkFrame_received s rx .accept
  have hval : ((s.finishArrived rx).verifies cert).val Od.CNT_AUTH_REFUSED = s.val Od.CNT_AUTH_REFUSED :=
    ((only_verifies _ cert).2 0 Od.CNT_AUTH_REFUSED 0 (by decide) (by decide) (by decide)).trans (hto.val (by decide) rfl)
  have hkv : ((s.finishArrived rx).verifies cert).kv = s.kv := hto.kv
  obtain ⟨hstate, hgen, hcount, hversions⟩ := refuseHandshake_frees (s := (s.finishArrived rx).verifies cert) (rx := rx)
    (harrived.state.trans hs) hst
  refine ⟨_, exec_finish hw hv hlen, ?_⟩
  rw [if_pos hwhole, href]
  exact ⟨hstate, hgen.trans harrived.gen, by rw [hcount, hval], by rw [hversions, hkv]⟩

/-- Settles O18: RESUME continues its context; FINISH is gathered, and opens its session or ends it. -/
theorem handshakesOpenSessions : Obligations.HandshakesOpenSessions := by
  unfold Obligations.HandshakesOpenSessions
  intro s rx hw h c old k half frags body whole
  refine ⟨fun hheader hwholeMsg hclear hbody hrate hpause hfirst hcookie hfresh hstate htoken hdigest hsec hreach => ?_,
    fun cert hv hlen hpart => finish_gathers cert hw hv hlen hpart, ?_, ?_⟩
  · exact resume_continues hw ⟨hheader, hwholeMsg, hclear, hbody, hrate, hpause, hfirst, hcookie, hfresh, hstate, ⟨htoken, hdigest⟩,
      hsec, hreach⟩
  · exact fun cert g hv hall hu hg hb hc hold hsig => finish_opensSession hw hv hall.1 hall.2 hu hg hb hc hold hsig
  · exact fun cert hv hall hu hs hbad => finish_endsSession hw hv hall.1 hall.2 hu hs hbad

end Sys2Proof.Machine
end

section
/-! O10. The commands of a session that write no value (R184, R186 to R188): NOTICE_SUBSCRIBE, BARRIER, FLUSH with FLUSH_DONE, and
FENCE_CLEAR. -/

namespace Sys2Proof.Machine

/-! ### One step of a command, one session -/

/-- A row that is `runKv` completes the command it runs with what its effect answers (R164, R201). -/
theorem completes_of_runKv {s : State} {i : Instr} {n : Fin 512} {accepts : Cmd → Bool} {f : Slot → Cmd → State → State × Reply}
    {P : State → Reply → Prop} (hexec : exec i s = .next (s.runKv n accepts f)) (h : s.runs n accepts)
    (hP : P (f (s.slot n) (s.cmdOf n) s).1 (f (s.slot n) (s.cmdOf n) s).2) : Completes s i n P :=
  ⟨_, _, hexec.trans (congrArg _ (runKv_of_runs h f)), hP⟩

/-- A session that is set holds what was set, and nothing else changes. -/
theorem setSession_only (s : State) (c : Nat) (x : Session) :
    (s.setSession c x).session c = x ∧ (∀ k, k ≠ c → (s.setSession c x).session k = s.session k)
      ∧ OnlyGroups [.wkp] s (s.setSession c x) :=
  ⟨s.session_setSession_same c x, fun k hk => by rw [State.session_setSession, if_neg hk], onlyGroups_setWkp s _⟩

/-! ### NOTICE_SUBSCRIBE -/

theorem subscribeEffect_of_ended {s : State} {x : Slot} (c : Cmd) (hlives : s.sessionLives x = false) :
    subscribeEffect x c s = (s, {}) := by
  rw [subscribeEffect, if_pos hlives]

/-- A subscription that is empty, or that finds fewer than 256 others, replaces the session's (R184). -/
theorem subscribeEffect_of_lives {s : State} {x : Slot} {c : Cmd} (hlives : s.sessionLives x = true)
    (hroom : beNat c.params % 2 ^ 256 = 0 ∨ (s.subscribers.filter (fun k => k != x.context)).length < 256) :
    subscribeEffect x c s
      = (s.setSession x.context { s.session x.context with noticeMask := BitVec.ofNat 256 (beNat c.params) }, {}) := by
  have hfits : ¬ (BitVec.ofNat 256 (beNat c.params) ≠ 0 ∧ 256 ≤ (s.subscribers.filter (fun k => k != x.context)).length) := by
    rintro ⟨hmask, hfull⟩
    rcases hroom with hzero | hless
    · exact hmask (BitVec.eq_of_toNat_eq (by rw [BitVec.toNat_ofNat, hzero]; rfl))
    · omega
  rw [subscribeEffect, if_neg (by rw [hlives]; decide), if_neg hfits]

/-! ### FLUSH -/

/-- The CSNs whose flush the drain serves first, set (R187, R221). -/
def State.setFlushing (s : State) (csns : List Nat) : State := { s with seq := { s.seq with flushing := csns } }

/-- Whether a command runs does not depend on what is being flushed. -/
theorem State.runs.setFlushing {s : State} {n : Nat} {accepts : Cmd → Bool} (h : s.runs n accepts) (csns : List Nat) :
    (s.setFlushing csns).runs n accepts := h

theorem onlyGroups_setFlushing (s : State) (csns : List Nat) : OnlyGroups [.seq] s (s.setFlushing csns) := onlyGroups_setSeq s _

/-- The effect of a FLUSH whose entries are durable: it is counted (Table 16.6). -/
def flushEffect (_ : Slot) (_ : Cmd) (t : State) : State × Reply := (t.perf 14 1, {})

/-- FLUSH completes at once when every entry below its CSN is durable (R187). -/
theorem exec_flush_of_durable {s : State} {n : Fin 512} (hdurable : s.flushedBelow (s.slot n).csn = true) :
    exec (.flush n) s = .next (s.runKv n (isOp 0x51) flushEffect) :=
  if_neg fun ⟨_, _, hwaits, _⟩ => by rw [hdurable] at hwaits; cases hwaits

/-- FLUSH waits in its slot, noted for the drain, until every entry below its CSN is durable (R187, R221). -/
theorem exec_flush_of_waiting {s : State} {n : Fin 512} (h : s.runs n (isOp 0x51)) (hwaits : s.flushedBelow (s.slot n).csn = false) :
    exec (.flush n) s = .next (s.setFlushing
      (if s.seq.flushing.contains (s.slot n).csn then s.seq.flushing else s.seq.flushing ++ [(s.slot n).csn])) := by
  obtain ⟨hstate, -, hop, hfence, hgate⟩ := h
  exact if_pos ⟨hstate, beq_iff_eq.1 hop, hwaits, hfence, hgate⟩

/-- FLUSH_DONE runs the FLUSH of its slot, no longer noted for the drain (R187). -/
theorem exec_flushDone_of_durable {s : State} {n : Fin 512} (hnoted : s.seq.flushing.contains (s.slot n).csn = true)
    (hdurable : s.flushedBelow (s.slot n).csn = true) :
    exec (.flushDone n) s
      = .next ((s.setFlushing (s.seq.flushing.filter (fun c => c != (s.slot n).csn))).runKv n (isOp 0x51) flushEffect) :=
  if_pos (by rw [hnoted, hdurable]; rfl)

theorem flush_waits {s : State} {n : Fin 512} (h : s.runs n (isOp 0x51)) (hwaits : s.flushedBelow (s.slot n).csn = false) :
    Answers (exec (.flush n) s) (fun t =>
      t.seq.flushing.contains (s.slot n).csn = true ∧ t.slot n = s.slot n ∧ OnlyGroups [.seq] s t) := by
  refine ⟨_, exec_flush_of_waiting h hwaits, ?_, rfl, onlyGroups_setFlushing s _⟩
  change List.contains (if _ then _ else _) _ = true
  split
  · assumption
  · simp

theorem flushDone_completes {s : State} {n : Fin 512} (h : s.runs n (isOp 0x51))
    (hnoted : s.seq.flushing.contains (s.slot n).csn = true) (hdurable : s.flushedBelow (s.slot n).csn = true) :
    Completes s (.flushDone n) n (fun u r => r.status = St.DONE
      ∧ u.seq.flushing.contains (s.slot n).csn = false ∧ OnlyGroups [.events, .seq] s u) := by
  have hruns := runKv_of_runs (h.setFlushing (s.seq.flushing.filter (fun c => c != (s.slot n).csn))) flushEffect
  refine ⟨_, _, (exec_flushDone_of_durable hnoted hdurable).trans (congrArg _ hruns), rfl, ?_, ?_⟩
  · change (s.seq.flushing.filter (fun c => c != (s.slot n).csn)).contains (s.slot n).csn = false
    simp
  · exact ((onlyGroups_setFlushing s _).mono (by decide)).trans ((only_perf [] _ 14 1).1.mono (by decide))

/-! ### FENCE_CLEAR -/

/-- FENCE_CLEAR at the tag of its session's fence lifts it, and answers the fence and what was completed FENCED (R188). -/
theorem fenceClearEffect_of_fence {s : State} {x : Slot} {c : Cmd} {f : Nat × Nat} (hsame : s.sameSession x = true)
    (hfence : (s.session x.context).fence = some f) (htag : f.1 = c.param 0 4) :
    fenceClearEffect x c s =
      (s.setSession x.context
        { s.session x.context with fence := none, clearedAt := some x.tag.toNat, lastFence := f, fencedCount := 0 },
       { rparams := toBE 4 f.1 ++ toBE 2 f.2 ++ [0, 0] ++ toBE 4 (s.session x.context).fencedCount ++ [0, 0, 0, 0]
         effect := some { type := 0x09, argA := f.1, argB := f.2 } }) := by
  simp only [fenceClearEffect, if_pos hsame, hfence]
  exact if_neg (not_not_intro htag)

/-- FENCE_CLEAR without a fence of its session at its tag changes nothing (R188). -/
theorem fenceClearEffect_of_no_fence {s : State} {x : Slot} {c : Cmd}
    (hnone : s.sameSession x = false ∨ ∀ f, (s.session x.context).fence = some f → f.1 ≠ c.param 0 4) :
    fenceClearEffect x c s = (s, .fail St.NOT_FOUND) := by
  unfold fenceClearEffect
  dsimp only
  split
  case h_1 => rfl
  case h_2 f hf =>
    obtain ⟨hsame, hfence⟩ := Option.ite_none_right_eq_some.1 hf
    rcases hnone with hended | hother
    · rw [hended] at hsame
      cases hsame
    · exact if_pos (hother f hfence)

/-- Settles O10: the commands of a session complete with their effects, each by what its effect answers. -/
theorem sessionCommandsComplete : Obligations.SessionCommandsComplete := by
  unfold Obligations.SessionCommandsComplete
  intro s n y
  refine ⟨fun h hlives hroom => ?_, fun h hended => ?_, fun h => completes_of_runKv rfl h ⟨rfl, rfl⟩, fun h hdurable => ?_,
    fun h hwaits => flush_waits h hwaits, fun h hnoted hdurable => flushDone_completes h hnoted hdurable,
    fun f h hsame hfence htag => ?_, fun h hnone => ?_⟩
  · refine completes_of_runKv (f := subscribeEffect) rfl h ?_
    rw [subscribeEffect_of_lives hlives hroom]
    exact ⟨rfl, setSession_only s _ _⟩
  · refine completes_of_runKv (f := subscribeEffect) rfl h ?_
    rw [subscribeEffect_of_ended _ hended]
    exact ⟨rfl, rfl⟩
  · exact completes_of_runKv (exec_flush_of_durable hdurable) h ⟨rfl, (only_perf [] s 14 1).1⟩
  · refine completes_of_runKv (f := fenceClearEffect) rfl h ?_
    rw [fenceClearEffect_of_fence hsame hfence htag]
    exact ⟨rfl, rfl, setSession_only s _ _⟩
  · refine completes_of_runKv (f := fenceClearEffect) rfl h ?_
    rw [fenceClearEffect_of_no_fence hnone]
    exact ⟨rfl, rfl⟩

end Sys2Proof.Machine
end

section
/-! SUPPORT. The report of an event by its destinations (R556): what the supervisor, EMCY, the recorder and the Seam's queue change,
what notices change, and what a relation between states needs so that it holds of every report. -/

namespace Sys2Proof.Machine

theorem OnlyEntries.mono {xs ys : List Nat} {s t : State} (h : OnlyEntries xs s t) (hh : ∀ x ∈ xs, x ∈ ys) : OnlyEntries ys s t :=
  fun i x j hx hj hn => h i x j hx hj fun hm => hn (hh x hm)

theorem OnlyEntries.foldl {xs : List Nat} {α : Type} {f : State → α → State} (h : ∀ s a, OnlyEntries xs s (f s a)) (l : List α)
    (s : State) : OnlyEntries xs s (l.foldl f s) := by
  induction l generalizing s with
  | nil => exact .refl _ s
  | cons a l ih => exact (h s a).trans (ih (f s a))

theorem onlyEntries_odPut (s : State) {xs : List Nat} (i v : Nat) {x j : Nat} (hx : x < 65536) (hj : j < 256) (hm : x ∈ xs) :
    OnlyEntries xs s (s.odPut i x j v) :=
  fun _ _ _ hx' hj' hn => State.odGet_odPut_other s v hx hx' hj hj' (.inr (.inl fun e => hn (e ▸ hm)))

/-! ### The supervisor's side of a report -/

/-- The groups that a report changes apart from its notices: neither the ports nor the sessions are among them. -/
def asideGroups : List Group := [.od, .can, .seam, .events, .sent]

/-- The entries that a report changes apart from its notices and from the count of its source. -/
def asideEntries : List Nat := [Od.CNT_EMCY_LOST, Od.SEAM_EVENTS_LOST, Od.REC_PENDING_LOST, Od.REC_FREEZE]

/-- From `s` to `t` no more changes than EMCY, the recorder, the Seam's queue and the supervisor's interrupt change. -/
abbrev Aside (s t : State) : Prop := Only asideGroups asideEntries s t

theorem aside_odPut (s : State) (i v : Nat) {x j : Nat} (hj : j < 256) (hm : x ∈ asideEntries) : Aside s (s.odPut i x j v) := by
  have hx : x < 65536 := (by decide : ∀ y ∈ asideEntries, y < 65536) x hm
  exact ⟨(onlyGroups_setOd s _).mono (by decide), onlyEntries_odPut s i v hx hj hm⟩

theorem aside_setEvents (s : State) (x : EventState) : Aside s { s with events := x } :=
  ((onlyGroups_setEvents s x).only _ (by decide)).mono (by decide)

theorem aside_setSeam (s : State) (x : SeamState) : Aside s { s with seam := x } := by
  refine OnlyGroups.only (gs := [.seam]) (fun g hg => ?_) _ (by decide) |>.mono (by decide)
  cases g <;> simp_all [State.agree]

theorem aside_emit (s : State) (x : Sent) : Aside s (s.emit x) := by
  refine OnlyGroups.only (gs := [.sent]) (fun g hg => ?_) _ (by decide) |>.mono (by decide)
  cases g <;> simp_all [State.agree]

theorem aside_setNet (s : State) (n : Nat) (x : CanNet) (h : x.node = (s.net n).node) : Aside s (s.setNet n x) := by
  refine ⟨fun g hg => ?_, fun i y j _ _ _ => State.odGet_setNet s n x h i y j⟩
  cases g
  case can => exact absurd (by decide) hg
  all_goals rfl

theorem aside_canSend (s : State) (n cob : Nat) (d : Bytes) : Aside s (s.canSend n cob d) := .ite (aside_emit s _) (.refl _ _ s)

theorem aside_emcy (s : State) {n : Nat} (code : Nat) (five : Bytes) (hn : n < 2) : Aside s (s.emcy n code five) := by
  have hout : Aside s (s.emcyOut n code five) := (aside_canSend s n _ _).trans (aside_setNet _ n _ rfl)
  have hlost (t : State) : Aside t (t.bump Od.CNT_EMCY_LOST 1 (n + 1)) := aside_odPut t 0 _ (by omega) (by decide)
  unfold State.emcy
  dsimp only
  exact .ite (.refl _ _ s) (.ite hout (.ite (aside_setNet s n _ rfl)
    (.ite ((aside_setNet s n _ (by rfl)).trans (hlost _)) (hlost s))))

theorem aside_emcyAll (s : State) (code : Nat) (five : Bytes) : Aside s (s.emcyAll code five) :=
  (aside_emcy s code five (by decide)).trans (aside_emcy _ code five (by decide))

theorem aside_writeLog (s : State) : Aside s s.writeLog := .ite (aside_setEvents s _) (aside_setEvents s _)

theorem aside_dropRecord (s : State) : Aside s s.dropRecord :=
  (aside_odPut s 0 _ (by decide) (by decide)).trans (aside_setEvents _ _)

theorem aside_thaw (s : State) (why : Nat) : Aside s (s.thaw why) :=
  (((Only.ite (aside_dropRecord s) (aside_setEvents s _)).trans (aside_setEvents _ _)).trans
    (aside_odPut _ 0 0 (by decide) (by decide))).trans (aside_writeLog _)

theorem aside_enterRecord (s : State) (r : Rec) : Aside s (s.enterRecord r) := by
  have hin : Aside s ((if 256 ≤ s.events.pendingRecs.length then s.writeLog else s).addPending r) :=
    (Only.ite (aside_writeLog s) (.refl _ _ s)).trans (aside_setEvents _ _)
  exact .ite (aside_dropRecord s) (.ite (.ite (hin.trans (aside_thaw _ 2)) hin) (.ite (hin.trans (aside_writeLog _)) hin))

/-- The supervisor counts a raise of a source and notes its time (R556). -/
def State.countTold (s : State) (src dt : Nat) : State :=
  (s.odPut src Od.EVENT_COUNT 0 ((s.odGet src Od.EVENT_COUNT 0 + 1) % 2 ^ 32)).odPut src Od.EVENT_LAST_DT 0 dt

/-- A delivery counts the raise when its route names the supervisor; the rest of it is aside (R556). -/
theorem aside_deliver (s : State) (src sev : Nat) (engine late : Bool) (ps : List (BitVec 32)) (dt sec : Nat) :
    Aside (if bitOf 0 (s.odGet src Od.EVENT_ROUTE 0) then s.countTold src dt else s) (s.deliver src sev engine late ps dt sec) := by
  have hsup (x : Sent) : Aside (if bitOf 0 (s.odGet src Od.EVENT_ROUTE 0) then s.countTold src dt else s)
      (if bitOf 0 (s.odGet src Od.EVENT_ROUTE 0) then (s.countTold src dt).emit x else s) := by
    split
    · exact aside_emit _ x
    · exact .refl _ _ s
  have hemcy (t : State) (code : Nat) (five : Bytes) : Aside t ((t.countRaise src 1 true).emcyAll code five) :=
    (aside_setEvents t _).trans (aside_emcyAll _ code five)
  have hrec (t : State) (r : Rec) : Aside t ((t.countRaise src 3 true).enterRecord r) :=
    (aside_setEvents t _).trans (aside_enterRecord _ r)
  have hsuppressed (t : State) (dest : Nat) : Aside t (t.countRaise src dest false) := aside_setEvents t _
  exact ((hsup _).trans (.ite (.ite (hemcy _ _ _) (hsuppressed _ 1)) (.refl _ _ _))).trans
    (.ite (.ite (hrec _ _) (hsuppressed _ 3)) (.refl _ _ _))

/-! ### Notices -/

/-- The entries that a notice changes: the misses of the key cache, and the counters of the ports (R405, R425). -/
def noticeEntries : List Nat := Od.KEY_CACHE_MISSES :: (List.range 7).map (fun p => portIndex p 12)

theorem onlyEntries_portAdd (s : State) (p n : Nat) {sub : Nat} (hs : sub < 256) : OnlyEntries noticeEntries s (s.portAdd p sub n) := by
  unfold State.portAdd
  split
  · rename_i hp
    have hput (v : Nat) : OnlyEntries noticeEntries s (s.odPut 0 (portIndex p 12) sub v) :=
      onlyEntries_odPut s 0 v (portIndex_lt hp) hs (List.mem_cons_of_mem _ (List.mem_map_of_mem (List.mem_range.2 hp)))
    dsimp only
    split
    · exact (hput _).trans (only_perf _ _ _ _).2
    · exact hput _
  · exact .refl _ s

theorem onlyEntries_noticeTo (s : State) (src sev : Nat) (ps : List (BitVec 32)) (c : Nat) :
    OnlyEntries noticeEntries s (s.noticeTo src sev ps c) := by
  have hkey (t : State) (k : Nat) : OnlyEntries noticeEntries t (t.useKey k) := (only_useKey t k).2.mono (by decide)
  have htx (t : State) (p q : Nat) (f : TxFrame) : OnlyEntries noticeEntries t (t.txPut p q f) :=
    .ite (.refl _ t) (onlyEntries_portAdd t p 1 (by decide))
  have hsend (t : State) (c q : Nat) (m : Msg) (b : Bool) : OnlyEntries noticeEntries t (t.sessionSend c q m b) :=
    .ite (.refl _ t) ((OnlyEntries.ite (hkey t _) (.refl _ t)).trans (htx _ _ _ _))
  exact .ite (.ite (hsend _ _ _ _ _) (.refl _ s)) (.refl _ s)

/-- A session whose subscription is empty is sent no notice (R184, R185). -/
theorem State.noticeTo_of_unsubscribed {s : State} {c : Nat} (h : (s.session c).noticeMask = 0) (src sev : Nat)
    (ps : List (BitVec 32)) : s.noticeTo src sev ps c = s := if_neg (by simp [h])

/-- No session subscribes to any event. -/
def State.unsubscribed (s : State) : Prop := ∀ c, (s.session c).noticeMask = 0

theorem State.unsubscribed.congr {s t : State} (h : s.unsubscribed) (hw : t.wkp = s.wkp) : t.unsubscribed :=
  fun c => by rw [State.session_congr hw, h c]

theorem State.notices_of_unsubscribed {s : State} (h : s.unsubscribed) (src sev : Nat) (ps : List (BitVec 32)) :
    s.notices src sev ps = s :=
  List.foldlRecOn (motive := (· = s)) _ _ rfl fun t ht c _ => by rw [ht, State.noticeTo_of_unsubscribed (h c)]

/-- The state once a raise has been put to the sessions, by its route and its rate (R185, R559). -/
def State.noticed (s : State) (src sev : Nat) (ps : List (BitVec 32)) : State :=
  let u := s.perf 191 1
  if bitOf 2 (u.odGet src Od.EVENT_ROUTE 0) then
    (if u.withinRate src 2 sev then (u.countRaise src 2 true).notices src sev ps else u.countRaise src 2 false)
  else u

theorem onlyGroups_noticed (s : State) (src sev : Nat) (ps : List (BitVec 32)) : OnlyGroups reportingHere s (s.noticed src sev ps) :=
  (reportsHere_setEvents s _).trans (.ite (.ite ((reportsHere_setEvents _ _).trans
    (.foldl (fun u c => reportsHere_noticeTo u src sev ps c) _ _)) (reportsHere_setEvents _ _)) (.refl _ _))

/-- A raise put to the sessions waits for the Seam or is lost there, or is delivered at once (R556, R560). -/
def State.passedOn (s : State) (src sev : Nat) (ps : List (BitVec 32)) : State :=
  if engineSource src && (!s.seam.up || !s.seam.queue.isEmpty) then
    if s.seam.queue.length < 4096 then
      { s with seam := { s.seam with queue := s.seam.queue ++ [⟨src, ps, s.clock.dt, s.seconds⟩] } }
    else s.bump Od.SEAM_EVENTS_LOST
  else s.deliver src sev (engineSource src) false ps s.clock.dt s.seconds

theorem State.raiseOnce_eq_passedOn {s : State} {src sev : Nat} (ps : List (BitVec 32)) (hsev : severity? src = some sev) :
    s.raiseOnce src ps = (s.noticed src sev ps).passedOn src sev ps := by
  unfold State.raiseOnce
  rw [hsev]
  rfl

theorem State.raiseOnce_of_no_severity {s : State} {src : Nat} (ps : List (BitVec 32)) (hsev : severity? src = none) :
    s.raiseOnce src ps = s := by
  unfold State.raiseOnce
  rw [hsev]

theorem State.passedOn_of_direct {s : State} {src : Nat} (hd : engineSource src = false ∨ (s.seam.up = true ∧ s.seam.queue = []))
    (sev : Nat) (ps : List (BitVec 32)) :
    s.passedOn src sev ps = s.deliver src sev (engineSource src) false ps s.clock.dt s.seconds := by
  refine if_neg ?_
  rcases hd with he | ⟨hup, hq⟩
  · simp [he]
  · simp [hup, hq]

/-! ### Every report -/

/-- A relation holds of every report of a source when it holds of what is aside, of the notices and of the count of the source. -/
structure ReportStable (R : State → State → Prop) (src : Nat) : Prop where
  trans : ∀ {s t u}, R s t → R t u → R s u
  aside : ∀ {s t}, Aside s t → R s t
  notices : ∀ s sev ps, R s (s.notices src sev ps)
  counts : ∀ s dt, R s (s.countTold src dt)

namespace ReportStable
variable {R : State → State → Prop} {src : Nat}

theorem refl (h : ReportStable R src) (s : State) : R s s := h.aside (.refl _ _ s)

theorem noticed (h : ReportStable R src) (s : State) (sev : Nat) (ps : List (BitVec 32)) : R s (s.noticed src sev ps) := by
  have hcounted (u : State) (ok : Bool) : R u (u.countRaise src 2 ok) := h.aside (aside_setEvents u _)
  refine h.trans (h.aside (only_perf _ s 191 1 |>.mono (by decide))) ?_
  unfold State.noticed
  dsimp only
  split
  · split
    · exact h.trans (hcounted _ true) (h.notices _ sev ps)
    · exact hcounted _ false
  · exact h.refl _

theorem deliver (h : ReportStable R src) (s : State) (sev : Nat) (engine late : Bool) (ps : List (BitVec 32)) (dt sec : Nat) :
    R s (s.deliver src sev engine late ps dt sec) := by
  refine h.trans ?_ (h.aside (aside_deliver s src sev engine late ps dt sec))
  split
  · exact h.counts s dt
  · exact h.refl s

theorem passedOn (h : ReportStable R src) (s : State) (sev : Nat) (ps : List (BitVec 32)) : R s (s.passedOn src sev ps) := by
  unfold State.passedOn
  split
  · split
    · exact h.aside (aside_setSeam s _)
    · exact h.aside (aside_odPut s 0 _ (by decide) (by decide))
  · exact h.deliver s sev _ _ ps _ _

theorem raiseOnce (h : ReportStable R src) (s : State) (ps : List (BitVec 32)) : R s (s.raiseOnce src ps) := by
  cases hsev : severity? src with
  | none =>
    rw [State.raiseOnce_of_no_severity ps hsev]
    exact h.refl s
  | some sev =>
    rw [State.raiseOnce_eq_passedOn ps hsev]
    exact h.trans (h.noticed s sev ps) (h.passedOn _ sev ps)

/-- REC_PENDING_OVF, which a report may raise in its turn (R567). -/
theorem reportOverflow (h : ReportStable R Ev.REC_PENDING_OVF) (s : State) (n : Nat) : R s (s.reportOverflow n) := by
  unfold State.reportOverflow
  split
  · exact h.trans (h.aside (aside_setEvents s _)) (h.raiseOnce _ _)
  · exact h.refl s

theorem raise (h : ReportStable R src) (ho : ReportStable R Ev.REC_PENDING_OVF) (s : State) (ps : List Nat) : R s (s.raise src ps) :=
  h.trans (h.raiseOnce s _) (ho.reportOverflow _ _)

end ReportStable

/-! ### A source that is told -/

/-- What the supervisor keeps of a source stands as it was: its count, its last raise, its route. -/
def sourceKept (i : Nat) (s t : State) : Prop :=
  ∀ x ∈ [Od.EVENT_COUNT, Od.EVENT_LAST_DT, Od.EVENT_ROUTE], t.odGet i x 0 = s.odGet i x 0

theorem OnlyEntries.sourceKept {xs : List Nat} {s t : State} (h : OnlyEntries xs s t)
    (hn : ∀ x ∈ [Od.EVENT_COUNT, Od.EVENT_LAST_DT, Od.EVENT_ROUTE], x ∉ xs) (i : Nat) : sourceKept i s t :=
  fun x hx => h i x 0 ((by decide : ∀ y ∈ [Od.EVENT_COUNT, Od.EVENT_LAST_DT, Od.EVENT_ROUTE], y < 65536) x hx) (by decide) (hn x hx)

theorem sourceKept_notices (i : Nat) (s : State) (src sev : Nat) (ps : List (BitVec 32)) : sourceKept i s (s.notices src sev ps) :=
  (OnlyEntries.foldl (fun t c => onlyEntries_noticeTo t src sev ps c) _ s).sourceKept (by decide) i

theorem sourceKept_noticed (i : Nat) (s : State) (src sev : Nat) (ps : List (BitVec 32)) : sourceKept i s (s.noticed src sev ps) := by
  have hcounted (u : State) (ok : Bool) : OnlyEntries noticeEntries u (u.countRaise src 2 ok) :=
    ((onlyGroups_setEvents u _).only _ (by decide)).2
  have hnotices (u : State) : OnlyEntries noticeEntries u (u.notices src sev ps) :=
    .foldl (fun t c => onlyEntries_noticeTo t src sev ps c) _ u
  have h : OnlyEntries noticeEntries s (s.noticed src sev ps) :=
    (only_perf _ s 191 1).2.trans (.ite (.ite ((hcounted _ true).trans (hnotices _)) (hcounted _ false)) (.refl _ _))
  exact h.sourceKept (by decide) i

/-- A report of one source leaves what is kept of another. -/
theorem reportStable_sourceKept {i src : Nat} (h : i ≠ src) : ReportStable (sourceKept i) src where
  trans h k x hx := (k x hx).trans (h x hx)
  aside h := h.2.sourceKept (by decide) i
  notices s sev ps := sourceKept_notices i s src sev ps
  counts s dt x hx := by
    have hlt : x < 65536 := (by decide : ∀ y ∈ [Od.EVENT_COUNT, Od.EVENT_LAST_DT, Od.EVENT_ROUTE], y < 65536) x hx
    unfold State.countTold
    rw [State.odGet_odPut_other _ _ (by decide) hlt (by decide) (by decide) (.inl h),
      State.odGet_odPut_other _ _ (by decide) hlt (by decide) (by decide) (.inl h)]

theorem State.countTold_told (s : State) (src dt : Nat) :
    (s.countTold src dt).odGet src Od.EVENT_COUNT 0 = (s.odGet src Od.EVENT_COUNT 0 + 1) % 2 ^ 32
      ∧ (s.countTold src dt).odGet src Od.EVENT_LAST_DT 0 = dt := by
  refine ⟨?_, State.odGet_odPut_same _ _ _ _ _⟩
  rw [State.countTold, State.odGet_odPut_other _ _ (by decide) (by decide) (by decide) (by decide) (.inr (.inl (by decide))),
    State.odGet_odPut_same]

/-- A raise that reaches the supervisor is counted once, at its time (R556). -/
theorem State.raise_told {s : State} {src : Nat} (h : s.tells src) (hn : src ≠ Ev.REC_PENDING_OVF) (ps : List Nat) :
    told src s (s.raise src ps) := by
  obtain ⟨hsev, hroute, hd⟩ := h
  obtain ⟨sev, hsev⟩ := Option.isSome_iff_exists.1 hsev
  let u := s.noticed src sev (ps.map (BitVec.ofNat 32))
  have hu : sourceKept src s u := sourceKept_noticed src s src sev _
  have hseam : u.seam = s.seam := onlyGroups_noticed s src sev _ .seam (by decide)
  have hdt : u.clock.dt = s.clock.dt := congrArg ClockState.dt (onlyGroups_noticed s src sev _ .clock (by decide))
  have haside := aside_deliver u src sev (engineSource src) false (ps.map (BitVec.ofNat 32)) u.clock.dt u.seconds
  rw [hu Od.EVENT_ROUTE (by decide), if_pos hroute, ← State.passedOn_of_direct (by rwa [hseam]),
    ← State.raiseOnce_eq_passedOn _ hsev] at haside
  have hkept : sourceKept src (u.countTold src u.clock.dt) (s.raise src ps) := fun x hx =>
    ((reportStable_sourceKept hn).reportOverflow _ _ x hx).trans (haside.2.sourceKept (by decide) src x hx)
  obtain ⟨hcount, hlast⟩ := u.countTold_told src u.clock.dt
  exact ⟨by rw [hkept Od.EVENT_COUNT (by decide), hcount, hu Od.EVENT_COUNT (by decide)],
    by rw [hkept Od.EVENT_LAST_DT (by decide), hlast, hdt]⟩

end Sys2Proof.Machine
end

section
/-! O48. Links and takeover (R299, R412, R413, R426, R445, R446, R448): a link that comes up, goes down or falls back by a speed, and
the covering port of a pair, which takes the addresses and sessions of its partner and gives them back. -/

namespace Sys2Proof.Machine

/-! ### Ports through the report of an event -/

theorem queueLike.linkUp {x y : Port} (h : queueLike x y) : y.linkUp = x.linkUp := by unfold queueLike at h; rw [h]
theorem queueLike.speed {x y : Port} (h : queueLike x y) : y.speed = x.speed := by unfold queueLike at h; rw [h]
theorem queueLike.removed {x y : Port} (h : queueLike x y) : y.removed = x.removed := by unfold queueLike at h; rw [h]
theorem queueLike.takeover {x y : Port} (h : queueLike x y) : y.takeover = x.takeover := by unfold queueLike at h; rw [h]
theorem queueLike.announceDue {x y : Port} (h : queueLike x y) : y.announceDue = x.announceDue := by unfold queueLike at h; rw [h]

theorem State.port_setPort_same (s : State) (p : Nat) (x : Port) : (s.setPort p x).port p = x := by rw [State.port_setPort, if_pos rfl]

theorem State.port_setPort_other (s : State) {p q : Nat} (x : Port) (h : q ≠ p) : (s.setPort p x).port q = s.port q := by
  rw [State.port_setPort, if_neg h]

theorem State.port_congr {s t : State} (h : t.ports = s.ports) (p : Nat) : t.port p = s.port p := by rw [State.port, State.port, h]

/-- A port has been set and events were reported: it is the one set, but for what waits to be sent. -/
theorem EventFrame.port_set {s t : State} {p : Nat} {x : Port} (h : EventFrame (s.setPort p x) t) : queueLike x (t.port p) := by
  have hp := h.port p
  rwa [State.port_setPort_same] at hp

/-- A port has been set and events were reported: the links of the others are as they were. -/
theorem EventFrame.linkUp_other {s t : State} {p q : Nat} {x : Port} (h : EventFrame (s.setPort p x) t) (hq : q ≠ p) :
    (t.port q).linkUp = (s.port q).linkUp := by
  rw [(h.port q).linkUp, State.port_setPort_other s x hq]

/-- A port without a link sends nothing: only frames that wait in its queues may have come. -/
def downKept (p : Nat) (s t : State) : Prop := (s.port p).linkUp = false → t.port p = { s.port p with txq := (t.port p).txq }

theorem downKept.trans {p : Nat} {s t u : State} (h : downKept p s t) (k : downKept p t u) : downKept p s u := by
  intro hs
  have ht := h hs
  have hu := k (by rw [ht]; exact hs)
  rw [hu, ht]

theorem downKept.of_ports {s t : State} (p : Nat) (h : t.ports = s.ports) : downKept p s t := fun _ => by rw [State.port_congr h p]

theorem downKept.ite {p : Nat} {s a b : State} {c : Prop} [Decidable c] (ha : downKept p s a) (hb : downKept p s b) :
    downKept p s (if c then a else b) := by
  split <;> assumption

theorem downKept.foldl {p : Nat} {α : Type} {f : State → α → State} (h : ∀ s a, downKept p s (f s a)) (l : List α) (s : State) :
    downKept p s (l.foldl f s) := by
  induction l generalizing s with
  | nil => exact .of_ports p rfl
  | cons a l ih => exact (h s a).trans (ih (f s a))

theorem Port.start_of_down {x : Port} (h : x.linkUp = false) (now : Nat × Nat) : x.start now = x := if_neg (by simp [h])

theorem downKept_portAdd (p : Nat) (s : State) (q sub n : Nat) : downKept p s (s.portAdd q sub n) :=
  .of_ports p (onlyGroups_portAdd s q sub n .ports (by decide))

/-- Frames enter the queue of a port, which starts the next one if it has a link. -/
theorem downKept_setTxq (p : Nat) (s : State) (q : Nat) (l : SMap (List TxFrame)) :
    downKept p s ((s.setPort q { s.port q with txq := l }).startPort q) := by
  intro hdown
  unfold State.startPort
  by_cases hq : p = q
  · subst hq
    simp only [State.port_setPort_same]
    rw [Port.start_of_down (by exact hdown)]
  · rw [State.port_setPort_other _ _ hq, State.port_setPort_other _ _ hq]

theorem downKept_txPut (p : Nat) (s : State) (q k : Nat) (f : TxFrame) : downKept p s (s.txPut q k f) :=
  .ite (downKept_setTxq p s q _) (downKept_portAdd p s q 46 1)

theorem downKept_noticeTo (p : Nat) (s : State) (src sev : Nat) (ps : List (BitVec 32)) (c : Nat) :
    downKept p s (s.noticeTo src sev ps c) := by
  have hkey (t : State) (k : Nat) : downKept p t (t.useKey k) := .of_ports p ((only_useKey t k).1 .ports (by decide))
  have hset (t : State) (x : Session) : downKept p t (t.setSession c x) := .of_ports p rfl
  have hsend (t : State) (q : Nat) (m : Msg) (b : Bool) : downKept p t (t.sessionSend c q m b) :=
    .ite (.of_ports p rfl) (((downKept.ite (hkey t _) (.of_ports p rfl)).trans (hset _ _)).trans (downKept_txPut p _ _ _ _))
  exact .ite (.ite ((hset s _).trans (hsend _ _ _ _)) (hset s _)) (.of_ports p rfl)

theorem reportStable_downKept (p src : Nat) : ReportStable (downKept p) src where
  trans := downKept.trans
  aside h := .of_ports p (h.1 .ports (by decide))
  notices s sev ps := .foldl (fun t c => downKept_noticeTo p t src sev ps c) _ s
  counts _ _ := .of_ports p rfl

theorem downKept_raise (p : Nat) (s : State) (src : Nat) (ps : List Nat) : downKept p s (s.raise src ps) :=
  (reportStable_downKept p src).raise (reportStable_downKept p _) s ps

theorem downKept_portCount (p : Nat) (s : State) (q sub n : Nat) : downKept p s (s.portCount q sub n) :=
  .ite ((downKept_portAdd p s q sub n).trans (downKept_raise p _ _ _)) (downKept_portAdd p s q sub n)

/-! ### Reports that no session hears -/

/-- Neither a port nor a session has changed, and every statistic of the ports stands. -/
structure Unheard (s t : State) : Prop where
  ports : t.ports = s.ports
  wkp : t.wkp = s.wkp
  stat : ∀ p sub, p < 7 → sub < 256 → t.portStat p sub = s.portStat p sub

theorem Unheard.refl (s : State) : Unheard s s := ⟨rfl, rfl, fun _ _ _ _ => rfl⟩

theorem Unheard.trans {s t u : State} (h : Unheard s t) (k : Unheard t u) : Unheard s u :=
  ⟨k.ports.trans h.ports, k.wkp.trans h.wkp, fun p sub hp hs => (k.stat p sub hp hs).trans (h.stat p sub hp hs)⟩

theorem portIndex_notMem_asideEntries {p : Nat} (hp : p < 7) : portIndex p 12 ∉ asideEntries :=
  (by decide : ∀ p < 7, portIndex p 12 ∉ asideEntries) p hp

theorem Only.unheard {s t : State} (h : Aside s t) : Unheard s t :=
  ⟨h.1 .ports (by decide), h.1 .wkp (by decide),
    fun p sub hp hs => h.2 0 (portIndex p 12) sub (portIndex_lt hp) hs (portIndex_notMem_asideEntries hp)⟩

theorem unheard_countTold (s : State) (src dt : Nat) : Unheard s (s.countTold src dt) := by
  refine ⟨rfl, rfl, fun p sub hp hs => ?_⟩
  have hn : portIndex p 12 ≠ Od.EVENT_COUNT ∧ portIndex p 12 ≠ Od.EVENT_LAST_DT :=
    (by decide : ∀ p < 7, portIndex p 12 ≠ Od.EVENT_COUNT ∧ portIndex p 12 ≠ Od.EVENT_LAST_DT) p hp
  rw [State.portStat, State.countTold,
    State.odGet_odPut_other _ _ (by decide) (portIndex_lt hp) (by decide) hs (.inr (.inl hn.2)),
    State.odGet_odPut_other _ _ (by decide) (portIndex_lt hp) (by decide) hs (.inr (.inl hn.1))]
  rfl

theorem reportStable_unheard (src : Nat) : ReportStable (fun s t => s.unsubscribed → Unheard s t) src where
  trans h k hs := (h hs).trans (k (hs.congr (h hs).wkp))
  aside h _ := h.unheard
  notices s sev ps hs := by
    rw [State.notices_of_unsubscribed hs]
    exact .refl s
  counts s dt _ := unheard_countTold s src dt

/-- An event that no session subscribes to is reported to no port (R185, R556). -/
theorem State.unsubscribed.raise {s : State} (h : s.unsubscribed) (src : Nat) (ps : List Nat) : Unheard s (s.raise src ps) :=
  (reportStable_unheard src).raise (reportStable_unheard _) s ps h

theorem State.unsubscribed.portCount {s : State} (h : s.unsubscribed) (p sub n : Nat) :
    Unheard (s.portAdd p sub n) (s.portCount p sub n) := by
  have ha : (s.portAdd p sub n).unsubscribed := h.congr (onlyGroups_portAdd s p sub n .wkp (by decide))
  unfold State.portCount
  dsimp only
  split
  · exact ha.raise _ _
  · exact .refl _

/-! ### Other statistics of a port -/

theorem State.portAdd_portStat_other (s : State) {p sub k : Nat} (n : Nat) (hs : sub < 256) (hk : k < 256) (hn : k ≠ sub) :
    (s.portAdd p sub n).portStat p k = s.portStat p k := by
  unfold State.portAdd
  split
  · rename_i hp
    have hput := State.odGet_odPut_other s (i := 0) (i' := 0) ((s.portStat p sub + n) % 2 ^ 32) (portIndex_lt hp) (portIndex_lt hp) hs hk
      (.inr (.inr hn))
    dsimp only
    split <;> exact hput
  · rfl

theorem State.portCount_portStat_other (s : State) {p sub k : Nat} (n : Nat) (hp : p < 7) (hs : sub < 256) (hk : k < 256)
    (hn : k ≠ sub) (hd : k ≠ 46) : (s.portCount p sub n).portStat p k = s.portStat p k := by
  unfold State.portCount
  exact ((StatsKept.ite (statsKept_raise _ _ _) (.refl _)) p k hp hk hd).trans (s.portAdd_portStat_other n hs hk hn)

/-! ### A link that is lost -/

/-- The frames that wait in the transmit queues of a port. -/
def Port.waiting (x : Port) : Nat := (x.txq.map (fun e => e.2.length)).sum

/-- A port whose link has gone down (R426). -/
def Port.downed (x : Port) : Port := { x with linkUp := false, speed := 0, txq := [], inFlight := none, control := [], held := [] }

/-- The port is down, and what waited is counted as dropped (R426). -/
def State.linkCut (s : State) (p : Nat) : State :=
  if (s.port p).waiting = 0 then s.setPort p (s.port p).downed else (s.setPort p (s.port p).downed).portCount p 46 (s.port p).waiting

theorem State.linkLost_of_up {s : State} {p : Nat} (h : (s.port p).linkUp = true) :
    s.linkLost p = ((s.linkCut p).portCount p 49).raise Ev.MAC_LINK_DOWN [p] := if_pos h

theorem State.linkLost_of_down {s : State} {p : Nat} (h : (s.port p).linkUp = false) : s.linkLost p = s := if_neg (by simp [h])

section
variable {s : State} {p : Nat}

theorem State.linkLost_downKept (h : (s.port p).linkUp = true) : downKept p (s.setPort p (s.port p).downed) (s.linkLost p) := by
  rw [State.linkLost_of_up h]
  refine downKept.trans (downKept.trans ?_ (downKept_portCount p _ p 49 1)) (downKept_raise p _ _ _)
  unfold State.linkCut
  split
  · exact .of_ports p rfl
  · exact downKept_portCount p _ p 46 _

/-- A port whose link is lost is down, with nothing in transmission, no control frame and no timer (R426). -/
theorem State.linkLost_port (h : (s.port p).linkUp = true) :
    (s.linkLost p).port p = { (s.port p).downed with txq := ((s.linkLost p).port p).txq } := by
  have hkept := State.linkLost_downKept h
  rw [downKept, State.port_setPort_same] at hkept
  exact hkept rfl

theorem State.linkLost_eventFrame (h : (s.port p).linkUp = true) : EventFrame (s.setPort p (s.port p).downed) (s.linkLost p) := by
  rw [State.linkLost_of_up h]
  exact ((EventFrame.ite (.refl _) (eventFrame_portCount _ p 46 _ (by decide))).trans (eventFrame_portCount _ p 49 1 (by decide))).trans
    (eventFrame_raise _ _ _)

theorem State.linkLost_linkUp (s : State) (p : Nat) : ((s.linkLost p).port p).linkUp = false := by
  cases h : (s.port p).linkUp with
  | true => rw [State.linkLost_port h]; rfl
  | false => rw [State.linkLost_of_down h, h]

theorem State.linkLost_removed (s : State) (p : Nat) : ((s.linkLost p).port p).removed = (s.port p).removed := by
  cases h : (s.port p).linkUp with
  | true => rw [State.linkLost_port h]; rfl
  | false => rw [State.linkLost_of_down h]

theorem State.linkLost_linkUp_other (s : State) (p : Nat) {q : Nat} (hq : q ≠ p) :
    ((s.linkLost p).port q).linkUp = (s.port q).linkUp := by
  cases h : (s.port p).linkUp with
  | true => exact (State.linkLost_eventFrame h).linkUp_other hq
  | false => rw [State.linkLost_of_down h]

theorem State.linkCut_portStat (s : State) {p k : Nat} (hp : p < 7) (hk : k < 256) (hd : k ≠ 46) :
    (s.linkCut p).portStat p k = s.portStat p k := by
  unfold State.linkCut
  split
  · rfl
  · exact (State.portCount_portStat_other _ _ hp (by decide) hk hd hd).trans rfl

/-- A lost link is counted (Table 11.7). -/
theorem State.linkLost_counted (h : (s.port p).linkUp = true) (hp : p < 7) :
    (s.linkLost p).portStat p 49 = (s.portStat p 49 + 1) % 2 ^ 32 := by
  rw [State.linkLost_of_up h, statsKept_raise _ _ _ p 49 hp (by decide) (by decide),
    State.portCount_portStat _ hp (by decide) (by decide), s.linkCut_portStat hp (by decide) (by decide)]

/-- A lost link advances no statistic but its own and TX_QUEUE_DROP. -/
theorem State.linkLost_portStat (s : State) {p k : Nat} (hp : p < 7) (hk : k < 256) (hn : k ≠ 49) (hd : k ≠ 46) :
    (s.linkLost p).portStat p k = s.portStat p k := by
  cases h : (s.port p).linkUp with
  | true =>
    rw [State.linkLost_of_up h, statsKept_raise _ _ _ p k hp hk hd, State.portCount_portStat_other _ _ hp (by decide) hk hn hd,
      s.linkCut_portStat hp hk hd]
  | false => rw [State.linkLost_of_down h]

/-- Frames that wait when the link goes down are counted in TX_QUEUE_DROP, and no other comes when no session hears of it (R426). -/
theorem State.linkCut_drops (hp : p < 7) (hs : s.unsubscribed) :
    ((s.linkCut p).port p).txq = [] ∧ (s.linkCut p).wkp = s.wkp ∧ (s.linkCut p).portStat p 46 =
      if (s.port p).waiting = 0 then s.portStat p 46 else (s.portStat p 46 + (s.port p).waiting) % 2 ^ 32 := by
  let d := s.setPort p (s.port p).downed
  have hd : d.unsubscribed := hs.congr rfl
  have hempty : (d.port p).txq = [] := by rw [s.port_setPort_same p]; rfl
  unfold State.linkCut
  split
  · exact ⟨hempty, rfl, rfl⟩
  · have hcount := hd.portCount p 46 (s.port p).waiting
    have hadd := onlyGroups_portAdd d p 46 (s.port p).waiting
    exact ⟨by rwa [State.port_congr (hcount.ports.trans (hadd .ports (by decide))) p], hcount.wkp.trans (hadd .wkp (by decide)),
      (hcount.stat p 46 hp (by decide)).trans (d.portAdd_portStat hp 46 _)⟩

/-- What waited is dropped and counted, and nothing else comes into the queues, when no session subscribes to the report (R426). -/
theorem State.linkLost_drops (h : (s.port p).linkUp = true) (hp : p < 7) (hs : s.unsubscribed) :
    ((s.linkLost p).port p).txq = [] ∧ (s.linkLost p).portStat p 46 =
      if (s.port p).waiting = 0 then s.portStat p 46 else (s.portStat p 46 + (s.port p).waiting) % 2 ^ 32 := by
  obtain ⟨hempty, hwkp, hstat⟩ := s.linkCut_drops hp hs
  have hadd := onlyGroups_portAdd (s.linkCut p) p 49 1
  have hcount := (hs.congr hwkp).portCount p 49 1
  have hquiet : ((s.linkCut p).portCount p 49).unsubscribed := (hs.congr hwkp).congr (hcount.wkp.trans (hadd .wkp (by decide)))
  have hlost : Unheard ((s.linkCut p).portAdd p 49 1) (s.linkLost p) := by
    rw [State.linkLost_of_up h]
    exact hcount.trans (hquiet.raise _ _)
  refine ⟨by rwa [State.port_congr (hlost.ports.trans (hadd .ports (by decide))) p], ?_⟩
  rw [hlost.stat p 46 hp (by decide), State.portAdd_portStat_other _ 1 (by decide) (by decide) (by decide), hstat]

end

/-! ### Links -/

section
variable {s : State} {p : Fin 7} {v : Fin 6}

/-- R299, R412, R426: a link comes up at a speed that is allowed. -/
theorem linkUp_comesUp (hm : s.mayLink p = true) (hl : (s.port p).linkUp = false) (hv : s.speedAllowed p v = true) :
    Answers (exec (.linkUp p v) s) (fun t => (t.port p).linkUp = true ∧ (t.port p).speed = v.val
      ∧ (∀ q, q ≠ p.val → (t.port q).linkUp = (s.port q).linkUp) ∧ (s.tells Ev.MAC_LINK_UP → told Ev.MAC_LINK_UP s t)
      ∧ Reports [] [] s t) := by
  let d := s.setPort p { s.port p with linkUp := true, speed := v.val }
  have hf : EventFrame d ((d.startPort p).raise Ev.MAC_LINK_UP [p.val, v.val]) :=
    (eventFrame_startPort d p).trans (eventFrame_raise _ _ _)
  refine ⟨_, if_pos ⟨hm, hl, hv⟩, hf.port_set.linkUp, hf.port_set.speed, fun q hq => hf.linkUp_other hq, fun ht => ?_,
    ((linkFrame_setPort s p _).trans hf.toLinkFrame).reports⟩
  have htells : (d.startPort p).tells Ev.MAC_LINK_UP := ht
  exact State.raise_told htells (by decide) _

/-- R426: a link goes down, and with it its frames and timers. -/
theorem linkDown_goesDown (hl : (s.port p).linkUp = true) :
    Answers (exec (.linkDown p) s) (fun t => (t.port p).linkUp = false ∧ (t.port p).inFlight = none ∧ (t.port p).control = []
      ∧ (t.port p).held = [] ∧ counted (portIndex p 12) s t 49 ∧ (∀ q, q ≠ p.val → (t.port q).linkUp = (s.port q).linkUp)
      ∧ ((∀ c, (s.session c).noticeMask = 0) → (t.port p).txq = []
        ∧ (let n := ((s.port p).txq.map (fun e => e.2.length)).sum
          t.odGet 0 (portIndex p 12) 46 = if n = 0 then s.odGet 0 (portIndex p 12) 46 else (s.odGet 0 (portIndex p 12) 46 + n) % 2 ^ 32))
      ∧ Reports [] [] s t) := by
  have hport := State.linkLost_port hl
  exact ⟨_, rfl, s.linkLost_linkUp p, by rw [hport]; rfl, by rw [hport]; rfl, by rw [hport]; rfl, State.linkLost_counted hl p.isLt,
    fun q hq => s.linkLost_linkUp_other p hq, fun hs => State.linkLost_drops hl p.isLt hs, (linkFrame_linkLost s p).reports⟩

theorem portPhy_not_eventEntry {p : Nat} (hp : p < 7) : portIndex p 1 < 65536 ∧ eventEntry (portIndex p 1) = false :=
  (by decide : ∀ p < 7, portIndex p 1 < 65536 ∧ eventEntry (portIndex p 1) = false) p hp

/-- PORT_PHY_CONFIG is a setting: no report of an event changes it (Table 11.10). -/
theorem LinkFrame.phyConfig {s t : State} (h : LinkFrame s t) {p : Nat} (hp : p < 7) : t.phyConfig p = s.phyConfig p :=
  h.val (portPhy_not_eventEntry hp).1 (portPhy_not_eventEntry hp).2

/-- A port that negotiates does not come up at a speed that it has removed (R413). -/
theorem State.speedAllowed_of_removed {s : State} {p speed : Nat} (ha : bitOf 4 (s.phyConfig p) = true)
    (hr : speed ∈ (s.port p).removed) : s.speedAllowed p speed = false := by
  simp [State.speedAllowed, ha, hr]

/-- R413: a speed leaves the advertisement of a port, whose link goes down. -/
theorem macSpeedFallback_removes (hm : s.mayLink p = true) (ha : bitOf 4 (s.phyConfig p) = true) (hv : s.speedAllowed p v = true) :
    Answers (exec (.macSpeedFallback p v) s) (fun t => (t.port p).linkUp = false ∧ (t.port p).removed = v.val :: (s.port p).removed
      ∧ t.speedAllowed p v = false ∧ counted (portIndex p 12) s t 50 ∧ (∀ q, q ≠ p.val → (t.port q).linkUp = (s.port q).linkUp)
      ∧ Reports [] [] s t) := by
  let l := s.linkLost p
  let d := l.setPort p { l.port p with removed := v.val :: (l.port p).removed }
  let t := (d.portCount p 50).raise Ev.MAC_SPEED_FALLBACK [p.val, speedMbit v.val]
  have hf : EventFrame d t := (eventFrame_portCount d p 50 1 (by decide)).trans (eventFrame_raise _ _ _)
  have hlink : LinkFrame s t := ((linkFrame_linkLost s p).trans (linkFrame_setPort l p _)).trans hf.toLinkFrame
  have hremoved : (t.port p).removed = v.val :: (s.port p).removed := hf.port_set.removed.trans (by rw [s.linkLost_removed])
  refine ⟨t, if_pos ⟨hm, ha, hv⟩, hf.port_set.linkUp.trans (s.linkLost_linkUp p), hremoved,
    State.speedAllowed_of_removed (by rw [hlink.phyConfig p.isLt, ha]) (by simp [hremoved]), ?_,
    fun q hq => (hf.linkUp_other hq).trans (s.linkLost_linkUp_other p hq), hlink.reports⟩
  calc t.portStat p 50
      = (d.portCount p 50).portStat p 50 := statsKept_raise _ _ _ p 50 p.isLt (by decide) (by decide)
    _ = (l.portStat p 50 + 1) % 2 ^ 32 := d.portCount_portStat p.isLt (by decide) (by decide) 1
    _ = (s.portStat p 50 + 1) % 2 ^ 32 := by rw [s.linkLost_portStat p.isLt (by decide) (by decide) (by decide)]

/-- R413: a removed speed is advertised again. -/
theorem speedRemovalExpiry_restores (s : State) (p : Fin 7) (v : Fin 6) : Answers (exec (.speedRemovalExpiry p v) s) (fun t =>
    t.port p = { s.port p with removed := (s.port p).removed.filter (· != v.val) } ∧ OnlyGroups [.ports] s t) :=
  ⟨_, rfl, s.port_setPort_same p _, onlyGroups_setPort s p _⟩

end

/-! ### Takeover -/

theorem sentLike.physical {x y : Session} (h : sentLike x y) : y.physical = x.physical := by unfold sentLike at h; rw [h]

/-- An announcement leaves all but what waits to be sent as it was (R446). -/
theorem eventFrame_announce (s : State) (p a : Nat) (b : Bool) : EventFrame s (s.announce p a b) :=
  (EventFrame.ite (.refl s) (eventFrame_txPut s _ _ _)).trans (.foldl _ (fun t _ => eventFrame_txPut t _ _ _) _ _)

/-- The two ports of a pair are set, and the sessions of one port leave from another from now on (R446, R448). -/
def State.handOver (s : State) (p q : Nat) (x y : Port) (source target : Nat) : State :=
  ((s.setPort p x).setPort q y).moveSessions source target

theorem State.handOver_port (s : State) (p q : Nat) (x y : Port) (source target k : Nat) :
    (s.handOver p q x y source target).port k = if k = q then y else if k = p then x else s.port k := by
  change ((s.setPort p x).setPort q y).port k = _
  rw [State.port_setPort, State.port_setPort]

/-- A session whose frames leave from the target if it belongs to the source port (R446, R448). -/
def Session.moved (source target : Nat) (x : Session) : Session := if x.port = source then { x with physical := target } else x

theorem State.handOver_session {s : State} {source c : Nat} {z : Session} (hz : SMap.get? s.wkp.sessions c = some z)
    (hp : z.port = source) (p q : Nat) (x y : Port) (target : Nat) :
    ((s.handOver p q x y source target).session c).physical = target := by
  have hget : SMap.get? (s.handOver p q x y source target).wkp.sessions c
      = (SMap.get? s.wkp.sessions c).map (Session.moved source target) := SMap.get?_map_value (Session.moved source target) s.wkp.sessions c
  rw [State.session, SMap.getD, hget, hz]
  simp [Session.moved, hp]

theorem only_handOver (s : State) (p q : Nat) (x y : Port) (source target : Nat) :
    Only [.ports, .wkp] [] s (s.handOver p q x y source target) :=
  ((((onlyGroups_setPort s p x).trans (onlyGroups_setPort _ q y)).mono (by decide)).trans
    ((onlyGroups_setWkp _ _).mono (by decide))).only _ (by decide)

/-- What changes the ports and the sessions alone, and then reports, is all that `Reports` claims. -/
theorem LinkFrame.reports_of_only {s t u : State} (k : LinkFrame t u) (h : Only [.ports, .wkp] [] s t) : Reports [] [] s u := by
  obtain ⟨hgroups, hentries, hcipher⟩ := k.reports
  refine ⟨(h.1.mono (by decide)).trans hgroups, (h.2.mono (by simp)).trans hentries, .inr ?_⟩
  rw [← show t.cipher = s.cipher from h.1 .cipher (by decide)]
  exact k.cipher

section
variable {s : State} {p : Fin 7}

theorem State.takeoverEnabled_pair {p : Nat} (h : s.takeoverEnabled p = true) : p ≠ pairOf p := by
  have hp : p = 1 ∨ p = 3 := by
    simp only [State.takeoverEnabled, Bool.or_eq_true, Bool.and_eq_true, beq_iff_eq] at h
    exact h.imp And.left And.left
  rcases hp with rfl | rfl <;> decide

/-- R445, R446: the covering port takes over the addresses and the sessions of its partner. -/
theorem takeoverDelayExpiry_takesOver (hr : s.receives p = true) (he : s.takeoverEnabled p = true)
    (hl : (s.port (pairOf p)).linkUp = false) (ht : (s.port p).takeover = 0) :
    Answers (exec (.takeoverDelayExpiry p) s) (fun t =>
      (t.port p).takeover = 1 ∧ (t.port p).announceDue = true ∧ (t.port (pairOf p)).takeover = 2
        ∧ (∀ c y, SMap.get? s.wkp.sessions c = some y → y.port = pairOf p → (t.session c).physical = p.val)
        ∧ Reports [] [] s t) := by
  let x : Port := { s.port p with takeover := 1, announceDue := true }
  let y : Port := { s.port (pairOf p) with takeover := 2 }
  let d := s.handOver p (pairOf p) x y (pairOf p) p
  have hf : EventFrame d ((d.announce p (pairOf p) true).raise Ev.MAC_TAKEOVER [p.val, pairOf p]) :=
    (eventFrame_announce d _ _ _).trans (eventFrame_raise _ _ _)
  have hp : d.port p = x := by rw [State.handOver_port, if_neg (State.takeoverEnabled_pair he), if_pos rfl]
  have hq : d.port (pairOf p) = y := by rw [State.handOver_port, if_pos rfl]
  refine ⟨_, if_pos ⟨hr, he, hl, ht⟩, ?_, ?_, ?_, fun c z hz hport => ?_,
    hf.toLinkFrame.reports_of_only (only_handOver s _ _ x y _ _)⟩
  · exact (hf.port p).takeover.trans (by rw [hp])
  · exact (hf.port p).announceDue.trans (by rw [hp])
  · exact (hf.port (pairOf p)).takeover.trans (by rw [hq])
  · exact (hf.session c).physical.trans (State.handOver_session hz hport _ _ x y _)

/-- R446, R448: the announcement is made again. -/
theorem takeoverAnnounceRepeat_announces (hr : s.receives p = true) (hd : (s.port p).announceDue = true) :
    Answers (exec (.takeoverAnnounceRepeat p) s) (fun t =>
      (t.port p).announceDue = false ∧ (t.port p).takeover = (s.port p).takeover ∧ Reports [] [] s t) := by
  have hf := eventFrame_announce (s.setPort p { s.port p with announceDue := false }) p
    (if ((s.port p).takeover == 1) = true then pairOf p else p) ((s.port p).takeover == 1)
  exact ⟨_, if_pos ⟨hr, hd⟩, hf.port_set.announceDue, hf.port_set.takeover,
    ((linkFrame_setPort s p _).trans hf.toLinkFrame).reports⟩

/-- R448: the covered port takes its addresses and sessions back. -/
theorem takebackDelayExpiry_givesBack (hr : s.receives p = true) (ht : (s.port p).takeover = 2) :
    Answers (exec (.takebackDelayExpiry p) s) (fun t =>
      (t.port p).takeover = 0 ∧ (t.port (pairOf p)).takeover = 0 ∧ (t.port p).announceDue = true
        ∧ (∀ c y, SMap.get? s.wkp.sessions c = some y → y.port = p.val → (t.session c).physical = p.val)
        ∧ Reports [] [] s t) := by
  let x : Port := { s.port (pairOf p) with takeover := 0, announceDue := false }
  let y : Port := { s.port p with takeover := 0, announceDue := true }
  let d := s.handOver (pairOf p) p x y p p
  have hf : EventFrame d ((d.announce p p false).raise Ev.MAC_TAKEBACK [pairOf p, p.val]) :=
    (eventFrame_announce d _ _ _).trans (eventFrame_raise _ _ _)
  have hp : d.port p = y := by rw [State.handOver_port, if_pos rfl]
  have hq : (d.port (pairOf p)).takeover = 0 := by
    rw [State.handOver_port, if_pos rfl]
    split <;> rfl
  refine ⟨_, if_pos ⟨hr, ht⟩, ?_, (hf.port (pairOf p)).takeover.trans hq, ?_, fun c z hz hport => ?_,
    hf.toLinkFrame.reports_of_only (only_handOver s _ _ x y _ _)⟩
  · exact (hf.port p).takeover.trans (by rw [hp])
  · exact (hf.port p).announceDue.trans (by rw [hp])
  · exact (hf.session c).physical.trans (State.handOver_session hz hport _ _ x y _)

end

/-- Settles O48: each clause is the lemma above about its command. -/
theorem linksComeAndGo : Obligations.LinksComeAndGo := by
  unfold Obligations.LinksComeAndGo
  intro s p
  refine ⟨fun v hm hl hv => linkUp_comesUp hm hl hv, fun v hn => if_neg fun h => ?_, linkDown_goesDown,
    fun hl => congrArg _ (State.linkLost_of_down hl), fun v hm ha hv => macSpeedFallback_removes hm ha hv,
    speedRemovalExpiry_restores s p, takeoverDelayExpiry_takesOver, takeoverAnnounceRepeat_announces, takebackDelayExpiry_givesBack⟩
  obtain ⟨hm, -, hv⟩ := h
  exact hn.elim (by simp [hm]) (by simp [hv])

end Sys2Proof.Machine
end

section
/-! O11. TOKEN_QUERY (R312, R314, R320, R324): the first hit of a table in its canonical form is the hit of the lowest address. -/

namespace Sys2Proof.Machine

/-! ### The first entry of a table -/

theorem SMap.mem_of_get? {α : Type} {m : SMap α} {k : Nat} {a : α} (h : SMap.get? m k = some a) : (k, a) ∈ m := by
  induction m with
  | nil => simp at h
  | cons q m ih =>
    obtain ⟨j, b⟩ := q
    simp only [SMap.get?] at h
    split at h
    case isTrue hj => simp_all
    case isFalse => exact List.mem_cons_of_mem _ (ih h)

theorem SMap.get?_of_mem {α : Type} {m : SMap α} (hr : SMap.rising m = true) {k : Nat} {a : α} (h : (k, a) ∈ m) :
    SMap.get? m k = some a := by
  induction m with
  | nil => simp at h
  | cons q m ih =>
    obtain ⟨j, b⟩ := q
    rcases List.mem_cons.1 h with he | hm
    · simp_all [SMap.get?]
    · have hlt : j < k := SMap.rising_mem m j b hr (k, a) hm
      rw [SMap.get?, if_neg (by omega), ih ((SMap.rising_cons j b m).1 hr).2 hm]

/-- In a rising table the first entry of a kind is the one of that kind with the lowest key. -/
theorem SMap.find?_of_lowest {α : Type} {m : SMap α} (hr : SMap.rising m = true) {p : α → Bool} {k : Nat} {a : α}
    (hmem : (k, a) ∈ m) (hp : p a = true) (hlow : ∀ q ∈ m, p q.2 = true → k ≤ q.1) :
    m.find? (fun q => p q.2) = some (k, a) := by
  induction m with
  | nil => simp at hmem
  | cons q m ih =>
    rcases List.mem_cons.1 hmem with rfl | hm
    · exact List.find?_cons_of_pos hp
    · have hlt : q.1 < k := SMap.rising_mem m q.1 q.2 hr (k, a) hm
      have hq : ¬ p q.2 = true := fun hq => absurd (hlow q List.mem_cons_self hq) (by omega)
      refine (List.find?_cons_of_neg (p := fun r : Nat × α => p r.2) hq).trans ?_
      exact ih ((SMap.rising_cons q.1 q.2 m).1 hr).2 hm fun r h => hlow r (List.mem_cons_of_mem _ h)

/-! ### The search -/

theorem State.search_of_lowest {s : State} {key : BitVec 160} (hr : SMap.rising s.matcher.entries = true) {a : Nat} {e : MatchEntry}
    (hget : SMap.get? s.matcher.entries a = some e) (hhit : entryHit (s.val Od.MATCH_ENABLE) key e = true)
    (hlow : ∀ b f, SMap.get? s.matcher.entries b = some f → entryHit (s.val Od.MATCH_ENABLE) key f = true → a ≤ b) :
    s.search key = some (a, e) :=
  SMap.find?_of_lowest hr (SMap.mem_of_get? hget) hhit fun q hq => hlow q.1 q.2 (SMap.get?_of_mem hr hq)

theorem State.search_eq_none {s : State} {key : BitVec 160} (hr : SMap.rising s.matcher.entries = true)
    (hmiss : ∀ b f, SMap.get? s.matcher.entries b = some f → ¬ entryHit (s.val Od.MATCH_ENABLE) key f = true) :
    s.search key = none :=
  List.find?_eq_none.2 fun q hq => hmiss q.1 q.2 (SMap.get?_of_mem hr hq)

/-- TOKEN_QUERY of a key that matches answers the lowest match, and counts it (R324). -/
theorem tokenQueryEffect_of_match {x : Slot} {c : Cmd} {s : State} {a : Nat} {e : MatchEntry} (hd : x.denied = false)
    (h : s.search (searchKey (c.param 0 16) (c.param 16 2) (c.param 18 2)) = some (a, e)) :
    tokenQueryEffect x c s = (s.bump Od.CNT_MATCH_HITS 1 0 64,
      { rparams := toBE 4 a ++ toBE 4 (s.val Od.MATCH_GENERATION) ++ toBE 8 e.action.toNat
        result0 := a, result1 := s.val Od.MATCH_GENERATION }) := by
  simp [tokenQueryEffect, hd, h]

theorem tokenQueryEffect_of_no_match {x : Slot} {c : Cmd} {s : State} (hd : x.denied = false)
    (h : s.search (searchKey (c.param 0 16) (c.param 16 2) (c.param 18 2)) = none) :
    tokenQueryEffect x c s = (s, .fail St.NOT_FOUND) := by
  simp [tokenQueryEffect, hd, h]

/-- A command that only reads does not fence by NOT_FOUND (R96). -/
theorem failsFence_notFound {op : Nat} (h : opReadOnly op = true) : failsFence op St.NOT_FOUND = false := by
  simp [failsFence, h]

/-- Settles O11: the search of the effect finds the lowest match, or none. -/
theorem queryAnswersLowestMatch : Obligations.QueryAnswersLowestMatch := by
  unfold Obligations.QueryAnswersLowestMatch
  intro s n h hd hr key hit
  refine ⟨fun a e hget hhit hlow => completes_of_runKv (f := tokenQueryEffect) rfl h ?_,
    fun hmiss => completes_of_runKv (f := tokenQueryEffect) rfl h ?_⟩
  · rw [tokenQueryEffect_of_match hd (State.search_of_lowest hr hget hhit hlow)]
    exact ⟨rfl, rfl, only_bump s Od.CNT_MATCH_HITS 1 64 (by decide)⟩
  · rw [tokenQueryEffect_of_no_match hd (State.search_eq_none hr hmiss)]
    obtain ⟨-, -, hop, -⟩ := h
    have hread : opReadOnly (s.cmdOf n).opcode = true := by rw [beq_iff_eq.1 hop]; decide
    exact ⟨rfl, rfl, failsFence_notFound hread⟩

end Sys2Proof.Machine
end

section
/-! SUPPORT. `Reports` put together from its parts (R556), and what an evaluation of the health conditions leaves (R304, R307,
R308). -/

namespace Sys2Proof.Machine

/-! ### Reports -/

theorem OnlyGroups.kv_eq {gs : List Group} {s t : State} (h : OnlyGroups gs s t) (hg : .kv ∉ gs) : t.kv = s.kv := h .kv hg

theorem Reports.refl (gs : List Group) (xs : List Nat) (s : State) : Reports gs xs s s :=
  ⟨.refl _ s, .refl _ s, .inr rfl⟩

theorem Reports.trans {gs : List Group} {xs : List Nat} {s t u : State} (h : Reports gs xs s t) (k : Reports gs xs t u) :
    Reports gs xs s u := by
  obtain ⟨hgroups, hentries, hcipher⟩ := h
  obtain ⟨kgroups, kentries, kcipher⟩ := k
  refine ⟨hgroups.trans kgroups, hentries.trans kentries, ?_⟩
  rcases hcipher with hin | hcipher
  · exact .inl hin
  · exact kcipher.imp_right hcipher.trans

theorem Reports.mono {gs hs : List Group} {xs ys : List Nat} {s t : State} (h : Reports gs xs s t) (hg : ∀ g ∈ gs, g ∈ hs)
    (hx : ∀ x ∈ xs, x ∈ ys) : Reports hs ys s t := by
  obtain ⟨hgroups, hentries, hcipher⟩ := h
  exact ⟨hgroups.mono fun g => by simpa using Or.imp_left (hg g), hentries.mono fun x => by simpa using Or.imp_left (hx x),
    hcipher.imp_left (hg _)⟩

/-- A change of groups and entries is within what a report of events after it may change. -/
theorem Only.reports {gs hs : List Group} {xs : List Nat} {s t : State} (h : Only gs xs s t) (hg : ∀ g ∈ gs, g ∈ hs ++ reporting)
    (hc : .cipher ∉ gs) : Reports hs xs s t := by
  refine ⟨h.1.mono hg, h.2.mono fun x hx => List.mem_append_left _ hx, .inr ?_⟩
  rw [show t.cipher = s.cipher from h.1 .cipher hc]
  rfl

/-- A step that keeps the frame of a lost link, or of an event, after a report is within that report. -/
theorem Reports.linkFrame {gs : List Group} {xs : List Nat} {s t u : State} (h : Reports gs xs s t) (k : LinkFrame t u) :
    Reports gs xs s u :=
  h.trans (k.reports.mono (by simp) (by simp))

theorem Reports.odGet {gs : List Group} {xs : List Nat} {s t : State} (h : Reports gs xs s t) (i : Nat) {x j : Nat} (hx : x < 65536)
    (hj : j < 256) (hn : x ∉ xs ++ eventEntries) : t.odGet i x j = s.odGet i x j :=
  h.2.1 i x j hx hj hn

/-! ### The health conditions -/

/-- The entries in which an evaluation of the conditions shows (Table 7.4). -/
def healthEntries : List Nat := [Od.HEALTH_STATE, Od.HEALTH_WORST, Od.HEALTH_REASON, Od.HEALTH_REASON_EVER]

theorem only_setVal (s : State) {xs : List Nat} {x : Nat} (v : Nat) (hx : x < 65536) (hm : x ∈ xs) : Only [.od] xs s (s.setVal x v) :=
  ⟨onlyGroups_setOd s _, onlyEntries_odPut s 0 v hx (by decide) hm⟩

theorem LinkFrame.foldl {α : Type} {f : State → α → State} (h : ∀ s a, LinkFrame s (f s a)) (l : List α) (s : State) :
    LinkFrame s (l.foldl f s) := by
  induction l generalizing s with
  | nil => exact .refl s
  | cons a l ih => exact (h s a).trans (ih (f s a))

theorem reports_changeHealth (s : State) (new conds : Nat) : Reports [] healthEntries s (s.changeHealth new conds) := by
  unfold State.changeHealth
  dsimp only
  split
  · exact .refl _ _ s
  · have hset : Only [.od] healthEntries s ((s.setVal Od.HEALTH_STATE new).raiseTo Od.HEALTH_WORST new) :=
      (only_setVal s _ (by decide) (by decide)).trans (only_setVal _ _ (by decide) (by decide))
    refine (hset.reports (by decide) (by decide)).linkFrame (LinkFrame.trans (EventFrame.toLinkFrame ?_)
      (.ite (.foldl linkFrame_holdDown _ _) (.refl _)))
    exact (((eventFrame_raise _ _ _).trans (eventFrame_emcyAll _ _ _)).trans (eventFrame_emcyClear _ _ 0 (by decide))).trans
      (eventFrame_emcyClear _ _ 1 (by decide))

/-- The conditions found, and their record in the dictionary (R304). -/
def State.condsRecorded (s : State) : State :=
  let s1 := { s with health := { s.health with conds := BitVec.ofNat 19 s.activeConds } }.setVal Od.HEALTH_REASON s.activeConds
  s1.setVal Od.HEALTH_REASON_EVER (Nat.lor (s1.val Od.HEALTH_REASON_EVER) s.activeConds)

theorem reports_condsRecorded (s : State) : Reports [.health] healthEntries s s.condsRecorded := by
  let recorded : State := { s with health := { s.health with conds := BitVec.ofNat 19 s.activeConds } }
  have hconds : OnlyGroups [.health] s recorded := by intro g hg; cases g <;> simp_all [State.agree, recorded]
  have hset : Only [.od] healthEntries recorded s.condsRecorded :=
    (only_setVal _ _ (by decide) (by decide)).trans (only_setVal _ _ (by decide) (by decide))
  exact ((hconds.only _ (by decide)).reports (by decide) (by decide)).trans (hset.reports (by decide) (by decide))

/-- After the record either nothing more happens, or HEALTH_STATE is set anew (R304, R500, R501). -/
theorem State.evaluateHealth_eq (s : State) :
    s.evaluateHealth = s.condsRecorded ∨ ∃ new, s.evaluateHealth = s.condsRecorded.changeHealth new s.activeConds := by
  unfold State.evaluateHealth
  dsimp only
  split
  · split
    · exact .inr ⟨4, rfl⟩
    · exact .inl rfl
  · exact .inr ⟨healthOf s.activeConds, rfl⟩

theorem reports_evaluateHealth (s : State) : Reports [.health] healthEntries s s.evaluateHealth := by
  have hrecord := reports_condsRecorded s
  obtain he | ⟨new, he⟩ := s.evaluateHealth_eq
  · rwa [he]
  · rw [he]
    exact hrecord.trans ((reports_changeHealth _ _ _).mono (by simp) (by simp))

@[simp] theorem State.evaluateHealth_tileLost (s : State) : s.evaluateHealth.health.tileLost = s.health.tileLost := by
  obtain he | ⟨new, he⟩ := s.evaluateHealth_eq
  · rw [he]; rfl
  · have hkept : (s.condsRecorded.changeHealth new s.activeConds).health = s.condsRecorded.health :=
      (reports_changeHealth _ _ _).1 .health (by decide)
    rw [he, hkept]
    rfl

@[simp] theorem State.evaluateHealth_matcher (s : State) : s.evaluateHealth.matcher = s.matcher :=
  (reports_evaluateHealth s).1 .matcher (by decide)

@[simp] theorem State.evaluateHealth_kv (s : State) : s.evaluateHealth.kv = s.kv := (reports_evaluateHealth s).1 .kv (by decide)

end Sys2Proof.Machine
end

section
/-! O12. TOKEN_EDIT (R315, R323, R325, R326, R329, R330, R332, R333, R335): what an edit writes to the table, its records and its
generation, and the edits that MATCH_ACCESS refuses or that wait for a query. -/

namespace Sys2Proof.Machine

/-! ### Changes of the matcher -/

theorem onlyGroups_setMatcher (s : State) (x : MatcherState) : OnlyGroups [.matcher] s { s with matcher := x } := by
  intro g hg; cases g <;> simp_all [State.agree]

/-- The entries of the table, set. -/
def State.setEntries (s : State) (m : SMap MatchEntry) : State := { s with matcher := { s.matcher with entries := m } }

theorem onlyGroups_setEntries (s : State) (m : SMap MatchEntry) : OnlyGroups [.matcher] s (s.setEntries m) := onlyGroups_setMatcher s _

theorem State.isPleat_congr {s t : State} {gs : List Group} (h : OnlyGroups gs s t) (hn : .od ∉ gs ∧ .hw ∉ gs ∧ .can ∉ gs)
    (l : Nat) : t.isPleat l = s.isPleat l := by
  unfold State.isPleat
  rw [(h.only [] hn).2 l Od.LIST_MODE 0 (by decide) (by decide) (by simp)]

theorem State.listBusy_congr {s t : State} (h : t.matcher = s.matcher) (l : Nat) : t.listBusy l = s.listBusy l := by
  rw [State.listBusy, State.listBusy, h]

@[simp] theorem State.moved_matcher (s : State) (m : SMap MatchEntry) (n : Nat) :
    (s.moved m n).matcher = { s.matcher with entries := m } := rfl

theorem onlyGroups_moved (s : State) (m : SMap MatchEntry) (n : Nat) : OnlyGroups [.matcher, .events, .seq] s (s.moved m n) :=
  ((onlyGroups_setMatcher s _).mono (by decide)).trans ((only_perf [] _ 85 n).1.mono (by decide))

@[simp] theorem State.startRoutine_matcher (s : State) (r : Routine) (c k : Nat) : (s.startRoutine r c k).matcher = s.matcher :=
  s.startRoutine_groups r c k .matcher (by decide)

@[simp] theorem State.startMoves_matcher (s : State) (l busy : Nat) (r : Routine) :
    (s.startMoves l busy r).matcher = (s.setBusy l busy).matcher := State.startRoutine_matcher _ _ _ _

theorem onlyGroups_startMoves (s : State) (l busy : Nat) (r : Routine) : OnlyGroups [.matcher, .events, .seq] s (s.startMoves l busy r) :=
  ((onlyGroups_setMatcher s _).mono (by decide)).trans (((s.setBusy l busy).startRoutine_groups r _ 0).mono (by decide))

/-! ### Edits that are refused or held -/

theorem State.matchRefused_counts (s : State) (x : Slot) :
    counted Od.CNT_MATCH_REFUSED s (s.matchRefused x).1 ∧ Reports [] [Od.CNT_MATCH_REFUSED] s (s.matchRefused x).1 := by
  have hraise := (eventFrame_raise (s.bump Od.CNT_MATCH_REFUSED) Ev.MATCH_ACCESS_REFUSED [x.port, x.session.toNat]).toLinkFrame
  refine ⟨?_, ((only_bump s Od.CNT_MATCH_REFUSED 1 32 (by decide)).reports (by decide) (by decide)).linkFrame hraise⟩
  exact (hraise.val (by decide) (by decide)).trans (s.odGet_odPut_same 0 _ 0 _)

section
variable {s : State} {i : Instr} {n : Fin 512} {p : Nat → Bool} {f : Slot → Cmd → State → State × Reply}

/-- The row of a TOKEN_EDIT: it waits while it is held, and else runs its effect (R325, R329, R330). -/
def editRow (i : Instr) (n : Fin 512) (p : Nat → Bool) (f : Slot → Cmd → State → State × Reply) : Prop :=
  ∀ s : State, exec i s = if s.editHeld n then .next s else .next (s.runKv n (isEdit p) f)

theorem editRow.held (hrow : editRow i n p f) (hheld : s.editHeld n = true) : exec i s = .next s := (hrow s).trans (if_pos hheld)

theorem editRow.completes (hrow : editRow i n p f) (hheld : s.editHeld n = false) (h : s.runs n (isEdit p)) {P : State → Reply → Prop}
    (hP : P (f (s.slot n) (s.cmdOf n) s).1 (f (s.slot n) (s.cmdOf n) s).2) : Completes s i n P :=
  completes_of_runKv ((hrow s).trans (if_neg (by simp [hheld]))) h hP

/-- An edit that MATCH_ACCESS did not grant is NOT_FOUND, and is counted (R323). -/
theorem editRow.refuses (hrow : editRow i n p f)
    (hrefused : (s.slot n).denied = true → f (s.slot n) (s.cmdOf n) s = s.matchRefused (s.slot n))
    (h : s.runs n (isEdit p)) (hheld : s.editHeld n = false) (hd : (s.slot n).denied = true) :
    Completes s i n (fun u r => r.status = St.NOT_FOUND ∧ counted Od.CNT_MATCH_REFUSED s u
      ∧ Reports [] [Od.CNT_MATCH_REFUSED] s u) := by
  refine hrow.completes hheld h ?_
  rw [hrefused hd]
  exact ⟨rfl, s.matchRefused_counts _⟩

/-! ### Edits that take effect -/

/-- An edit takes effect at an address: it completes with the address and the next generation, and leaves what `P` says (R326). -/
def Edited (s : State) (i : Instr) (n : Fin 512) (a : Nat) (P : State → Prop) : Prop :=
  Completes s i n (fun u r => r.status = St.DONE ∧ u.val Od.MATCH_GENERATION = (s.val Od.MATCH_GENERATION + 1) % 2 ^ 32
    ∧ r.rparams = toBE 4 a ++ toBE 4 (u.val Od.MATCH_GENERATION) ∧ P u
    ∧ OnlyGroups [.matcher, .od, .pocket, .events, .seq] s u ∧ OnlyEntries [Od.MATCH_GENERATION, Od.CNT_MATCH_CHANGES] s u)

theorem onlyGroups_journal (s : State) (r : JRec) : OnlyGroups [.pocket, .events] s (s.journal r) := by
  intro g hg; cases g <;> simp_all [State.agree, State.journal]

theorem State.matchChanged_generation (s : State) : s.matchChanged.val Od.MATCH_GENERATION = (s.val Od.MATCH_GENERATION + 1) % 2 ^ 32 :=
  (State.val_setVal_other _ _ (by decide)).trans (s.odGet_odPut_same 0 _ 0 _)

theorem only_matchChanged (s : State) : Only [.od] [Od.MATCH_GENERATION, Od.CNT_MATCH_CHANGES] s s.matchChanged :=
  ⟨(onlyGroups_setOd s _).trans (onlyGroups_setOd _ _),
    ((onlyEntries_bump s _ 1 32 (by decide)).mono (by decide)).trans ((onlyEntries_bump _ _ 1 32 (by decide)).mono (by decide))⟩

theorem State.editDone_generation (s : State) (x : Slot) (c : Cmd) (a rank : Nat) :
    (s.editDone x c a rank).1.val Od.MATCH_GENERATION = (s.val Od.MATCH_GENERATION + 1) % 2 ^ 32 := s.matchChanged_generation

theorem only_editDone (s : State) (x : Slot) (c : Cmd) (a rank : Nat) :
    Only [.od, .pocket, .events] [Od.MATCH_GENERATION, Od.CNT_MATCH_CHANGES] s (s.editDone x c a rank).1 :=
  ((only_matchChanged s).mono (by decide)).trans (((onlyGroups_journal s.matchChanged _).only _ (by decide)).mono (by decide))

/-- An edit whose effect is a change of the table and then its records takes effect (R326, R339). -/
theorem editRow.edits (hrow : editRow i n p f) (h : s.runs n (isEdit p)) (hheld : s.editHeld n = false) {t : State} {a rank : Nat}
    (heffect : f (s.slot n) (s.cmdOf n) s = t.editDone (s.slot n) (s.cmdOf n) a rank) (ht : OnlyGroups [.matcher, .events, .seq] s t)
    {P : State → Prop} (hP : ∀ u : State, u.matcher = t.matcher → P u) : Edited s i n a P := by
  refine hrow.completes hheld h ?_
  rw [heffect]
  obtain ⟨hgroups, hentries⟩ := ht.only [Od.MATCH_GENERATION, Od.CNT_MATCH_CHANGES] (by decide)
  obtain ⟨kgroups, kentries⟩ := only_editDone t (s.slot n) (s.cmdOf n) a rank
  have hgen : t.val Od.MATCH_GENERATION = s.val Od.MATCH_GENERATION :=
    (ht.only [] (by decide)).2 0 _ 0 (by decide) (by decide) (by simp)
  refine ⟨rfl, ?_, rfl, hP _ rfl, (hgroups.mono (by decide)).trans (kgroups.mono (by decide)), hentries.trans kentries⟩
  rw [State.editDone_generation, hgen]

end

/-! ### Writing an insertion -/

/-- A re-pleat begins in a Pleat list that has no routine when a segment has become full (R336). -/
def State.pleatsNext (s : State) (l : Nat) : State :=
  if s.isPleat l && !(s.fullSegments l).isEmpty && s.listBusy l == 0 then s.startMoves l 3 (.repleat l) else s

theorem State.pleatsNext_of_tuck {s : State} {l : Nat} (h : s.isPleat l = false) : s.pleatsNext l = s := by
  simp [State.pleatsNext, h]

@[simp] theorem State.pleatsNext_entries (s : State) (l : Nat) : (s.pleatsNext l).matcher.entries = s.matcher.entries := by
  unfold State.pleatsNext
  split
  · rw [State.startMoves_matcher]; rfl
  · rfl

theorem onlyGroups_pleatsNext (s : State) (l : Nat) : OnlyGroups [.matcher, .events, .seq] s (s.pleatsNext l) :=
  .ite (onlyGroups_startMoves s l 3 _) (.refl _ s)

section
variable {s : State} {c : Cmd} {l p a : Nat}

/-- A free place is carried down to an address, the entries between going one place higher, and an entry is written there (R332,
R335). -/
def State.openFor (s : State) (k gap target : Nat) (e : MatchEntry) : State :=
  let moves := moveUp k s.matcher.entries gap target
  s.moved (SMap.put moves.1 target e) moves.2.2

/-- A hole that is open takes the entry, and the list is idle (R332). -/
def State.fillHole (s : State) (l a : Nat) (e : MatchEntry) : State :=
  let t := s.moved (SMap.put s.matcher.entries a e) 0
  { t with matcher := { t.matcher with holes := SMap.erase t.matcher.holes l } }.setBusy l 0

theorem onlyGroups_fillHole (s : State) (l a : Nat) (e : MatchEntry) : OnlyGroups [.matcher, .events, .seq] s (s.fillHole l a e) :=
  (onlyGroups_moved s _ 0).trans (((onlyGroups_setMatcher _ _).trans (onlyGroups_setMatcher _ _)).mono (by decide))

theorem State.writeInsert_of_pleat (h : s.isPleat l = true) :
    s.writeInsert c l p =
      (s.openFor 16 (s.targetSegment l p + s.segCount l (s.targetSegment l p)) (s.insertAddress l p) (editEntry c l),
        s.insertAddress l p) :=
  if_pos h

theorem State.writeInsert_of_hole (h : s.isPleat l = false) (hhole : SMap.get? s.matcher.holes l = some a) :
    s.writeInsert c l p = (s.fillHole l a (editEntry c l), a) := by
  simp [State.writeInsert, h, hhole, State.fillHole]

theorem State.writeInsert_of_tuck (h : s.isPleat l = false) (hhole : SMap.get? s.matcher.holes l = none) :
    s.writeInsert c l p =
      (s.openFor (s.listEntries l).length (s.listBase l + (s.listEntries l).length) (s.listBase l + p) (editEntry c l),
        s.listBase l + p) := by
  simp [State.writeInsert, h, hhole, State.openFor]

theorem onlyGroups_writeInsert (s : State) (c : Cmd) (l p : Nat) :
    OnlyGroups [.matcher, .events, .seq] s (s.writeInsert c l p).1 := by
  cases hpleat : s.isPleat l
  case true =>
    rw [State.writeInsert_of_pleat hpleat]
    exact onlyGroups_moved s _ _
  case false =>
    cases hhole : SMap.get? s.matcher.holes l
    case none =>
      rw [State.writeInsert_of_tuck hpleat hhole]
      exact onlyGroups_moved s _ _
    case some a =>
      rw [State.writeInsert_of_hole hpleat hhole]
      exact onlyGroups_fillHole s l a _

end

/-! ### Clearing an entry -/

section
variable {s : State} {l a : Nat}

/-- An entry of the list's places follows the one that is cleared (R333). -/
def State.followed (s : State) (l a : Nat) : Bool :=
  (SMap.get? (SMap.erase s.matcher.entries a) (a + 1)).isSome && decide (a + 1 < s.listBase l + s.listSize l)

/-- A close-up of a Tuck list begins at the place that was cleared (R333). -/
def State.beginCloseUp (s : State) (l a : Nat) : State :=
  let t := s.moved (SMap.erase s.matcher.entries a) 0
  ({ t with matcher := { t.matcher with holes := SMap.put t.matcher.holes l a } }).startMoves l 2 (.closeUp l)

theorem State.beginCloseUp_hole (s : State) (l a : Nat) :
    (s.beginCloseUp l a).listBusy l = 2 ∧ SMap.get? (s.beginCloseUp l a).matcher.holes l = some a := by
  rw [State.listBusy, State.beginCloseUp, State.startMoves_matcher]
  exact ⟨SMap.getD_put_same _ _ _ _, SMap.get?_put_same _ _ _⟩

theorem State.writeRemove_of_pleat (h : s.isPleat l = true) :
    s.writeRemove l a =
      let moves := moveDown 16 (SMap.erase s.matcher.entries a) a (segBase (s.listBase l) a + 16)
      s.moved moves.1 moves.2.2 :=
  if_pos h

theorem State.writeRemove_of_next (h : s.isPleat l = false)
    (hnext : s.followed l a = true) :
    s.writeRemove l a = s.beginCloseUp l a :=
  (if_neg (by simp [h])).trans (if_pos (by simpa [State.followed] using hnext))

theorem State.writeRemove_of_last (h : s.isPleat l = false)
    (hlast : s.followed l a = false) :
    s.writeRemove l a = s.moved (SMap.erase s.matcher.entries a) 0 :=
  (if_neg (by simp [h])).trans (if_neg (by simpa [State.followed] using hlast))

theorem State.writeRemove_entries (h : s.isPleat l = false) : (s.writeRemove l a).matcher.entries = SMap.erase s.matcher.entries a := by
  cases hnext : s.followed l a
  case true => rw [State.writeRemove_of_next h hnext, State.beginCloseUp, State.startMoves_matcher]; rfl
  case false => rw [State.writeRemove_of_last h hnext]; rfl

theorem onlyGroups_writeRemove (s : State) (l a : Nat) : OnlyGroups [.matcher, .events, .seq] s (s.writeRemove l a) := by
  unfold State.writeRemove
  refine .ite (onlyGroups_moved s _ _) (.ite ?_ (onlyGroups_moved s _ 0))
  exact ((onlyGroups_moved s _ 0).trans ((onlyGroups_setMatcher _ _).mono (by decide))).trans (onlyGroups_startMoves _ l 2 _)

end

/-! ### The three OPs -/

section
variable {s : State} {n : Fin 512} {l : Nat}

theorem insertEffect_of_room {x : Slot} {c : Cmd} (hd : x.denied = false) (hlist : s.listOf? (editList c) = some l)
    (hrank : c.param 4 4 ≤ (s.listEntries l).length) (hhealth : s.val Od.HEALTH_STATE ≠ 6)
    (hroom : (s.listEntries l).length < s.listRoom l) :
    insertEffect x c s = ((s.writeInsert c l (c.param 4 4)).1.pleatsNext l).editDone x c (s.writeInsert c l (c.param 4 4)).2
      (c.param 4 4) := by
  simp only [insertEffect, hd, hlist]
  rw [if_neg (by decide), if_neg (by omega), if_neg hhealth, if_neg (by omega)]
  rfl

theorem editRow_insert (n : Fin 512) : editRow (.tokenEditInsert n) n (fun op => op != 2 && op != 3) insertEffect := fun _ => rfl
theorem editRow_replace (n : Fin 512) : editRow (.tokenEditReplace n) n (fun op => op == 2) replaceEffect := fun _ => rfl
theorem editRow_remove (n : Fin 512) : editRow (.tokenEditRemove n) n (fun op => op == 3) removeEffect := fun _ => rfl

variable (hheld : s.editHeld n = false) (hd : (s.slot n).denied = false) (hhealth : s.val Od.HEALTH_STATE ≠ 6)
include hheld hd hhealth

section
variable (h : s.runs n (isEdit (fun op => op != 2 && op != 3))) (hlist : s.listOf? (editList (s.cmdOf n)) = some l)
  (hrank : (s.cmdOf n).param 4 4 ≤ (s.listEntries l).length) (hroom : (s.listEntries l).length < s.listRoom l)
include h hlist hrank hroom

/-- An insertion that fits writes its entry, and may begin a re-pleat (R329, R336). -/
theorem tokenEditInsert_edits {t : State} {a : Nat} (hwrite : s.writeInsert (s.cmdOf n) l ((s.cmdOf n).param 4 4) = (t, a))
    {P : State → Prop} (hP : ∀ u : State, u.matcher = (t.pleatsNext l).matcher → P u) : Edited s (.tokenEditInsert n) n a P := by
  have heffect := insertEffect_of_room hd hlist hrank hhealth hroom
  have hgroups := onlyGroups_writeInsert s (s.cmdOf n) l ((s.cmdOf n).param 4 4)
  rw [hwrite] at heffect hgroups
  exact (editRow_insert n).edits h hheld heffect (hgroups.trans (onlyGroups_pleatsNext t l)) hP

theorem tokenEditInsert_fillsHole {a : Nat} (hpleat : s.isPleat l = false) (hhole : SMap.get? s.matcher.holes l = some a) :
    Edited s (.tokenEditInsert n) n a (fun u => u.matcher.entries = SMap.put s.matcher.entries a (editEntry (s.cmdOf n) l)
      ∧ u.listBusy l = 0 ∧ SMap.get? u.matcher.holes l = none) := by
  refine tokenEditInsert_edits hheld hd hhealth h hlist hrank hroom (State.writeInsert_of_hole hpleat hhole) fun u hu => ?_
  have htuck := (State.isPleat_congr (onlyGroups_fillHole s l a (editEntry (s.cmdOf n) l)) (by decide) l).trans hpleat
  rw [State.pleatsNext_of_tuck htuck] at hu
  rw [State.listBusy_congr hu, hu]
  exact ⟨rfl, SMap.getD_erase_same _ _ _, SMap.get?_erase_same _ _⟩

theorem tokenEditInsert_tucks (hpleat : s.isPleat l = false) (hhole : SMap.get? s.matcher.holes l = none) :
    let here := s.listBase l + (s.cmdOf n).param 4 4
    let stop := s.listBase l + (s.listEntries l).length
    Edited s (.tokenEditInsert n) n here (fun u => u.matcher.entries =
      SMap.put (moveUp (s.listEntries l).length s.matcher.entries stop here).1 here (editEntry (s.cmdOf n) l)) :=
  tokenEditInsert_edits hheld hd hhealth h hlist hrank hroom (State.writeInsert_of_tuck hpleat hhole) fun u hu => by
    rw [hu, State.pleatsNext_entries]; rfl

theorem tokenEditInsert_pleats (hpleat : s.isPleat l = true) :
    let seg := s.targetSegment l ((s.cmdOf n).param 4 4)
    let place := s.insertAddress l ((s.cmdOf n).param 4 4)
    Edited s (.tokenEditInsert n) n place (fun u => u.matcher.entries =
      SMap.put (moveUp 16 s.matcher.entries (seg + s.segCount l seg) place).1 place (editEntry (s.cmdOf n) l)) :=
  tokenEditInsert_edits hheld hd hhealth h hlist hrank hroom (State.writeInsert_of_pleat hpleat) fun u hu => by
    rw [hu, State.pleatsNext_entries]; rfl

end

variable {k : Nat} {e : MatchEntry} (htarget : s.editTarget? (s.cmdOf n) = some (l, k, e))
include htarget

theorem tokenEditReplace_replaces (h : s.runs n (isEdit (fun op => op == 2))) :
    Edited s (.tokenEditReplace n) n ((s.cmdOf n).param 4 4) (fun u => u.matcher.entries =
      SMap.put s.matcher.entries ((s.cmdOf n).param 4 4) { e with action := BitVec.ofNat 64 ((s.cmdOf n).param 48 8) }) := by
  refine (editRow_replace n).edits h hheld (rank := k) ?_ ((onlyGroups_setEntries s _).mono (by decide))
    fun u hu => congrArg MatcherState.entries hu
  simp only [replaceEffect, hd, htarget]
  rw [if_neg (by decide), if_neg hhealth]
  rfl

theorem tokenEditRemove_edits (h : s.runs n (isEdit (fun op => op == 3))) {P : State → Prop}
    (hP : ∀ u : State, u.matcher = (s.writeRemove l ((s.cmdOf n).param 4 4)).matcher → P u) :
    Edited s (.tokenEditRemove n) n ((s.cmdOf n).param 4 4) P := by
  refine (editRow_remove n).edits h hheld (rank := k) ?_ (onlyGroups_writeRemove s l _) hP
  simp only [removeEffect, hd, htarget]
  rw [if_neg (by decide), if_neg hhealth]

/-- A removal clears its entry: the later entries of its segment close up in a Pleat list, and in a Tuck list a close-up begins
when an entry follows (R330, R333, R336). -/
theorem tokenEditRemove_removes (h : s.runs n (isEdit (fun op => op == 3))) :
    let a := (s.cmdOf n).param 4 4
    let left := SMap.erase s.matcher.entries a
    let next := (SMap.get? left (a + 1)).isSome && decide (a + 1 < s.listBase l + s.listSize l)
    Edited s (.tokenEditRemove n) n a (fun u =>
      (s.isPleat l = false → u.matcher.entries = left
        ∧ (next = true → u.listBusy l = 2 ∧ SMap.get? u.matcher.holes l = some a)
        ∧ (next = false → u.matcher.busy = s.matcher.busy ∧ u.matcher.holes = s.matcher.holes))
      ∧ (s.isPleat l = true → u.matcher.entries = (moveDown 16 left a (segBase (s.listBase l) a + 16)).1)) := by
  intro a left next
  refine tokenEditRemove_edits hheld hd hhealth htarget h fun u hu => ⟨fun hpleat => ?_, fun hpleat => ?_⟩
  · rw [State.listBusy_congr hu, hu]
    refine ⟨State.writeRemove_entries hpleat, fun hnext => ?_, fun hnext => ?_⟩
    · rw [State.writeRemove_of_next hpleat hnext]
      exact State.beginCloseUp_hole _ _ _
    · rw [State.writeRemove_of_last hpleat hnext]
      exact ⟨rfl, rfl⟩
  · rw [hu, State.writeRemove_of_pleat hpleat]
    rfl

end

/-- Settles O12: each row waits or is refused alike, and an edit that takes effect is one of the lemmas above about its OP. -/
theorem tokenEditsChangeTheirEntry : Obligations.TokenEditsChangeTheirEntry := by
  unfold Obligations.TokenEditsChangeTheirEntry
  intro s n c addressed
  refine ⟨fun h => ⟨(editRow_insert n).refuses (fun hd => if_pos hd) h, (editRow_insert n).held⟩,
    fun h => ⟨(editRow_replace n).refuses (fun hd => if_pos hd) h, (editRow_replace n).held⟩,
    fun h => ⟨(editRow_remove n).refuses (fun hd => if_pos hd) h, (editRow_remove n).held⟩,
    fun hheld hd hhealth => ⟨fun l h hlist hrank hroom => ?_,
      fun l k e h htarget => tokenEditReplace_replaces hheld hd hhealth htarget h,
      fun l k e h htarget => tokenEditRemove_removes hheld hd hhealth htarget h⟩⟩
  exact ⟨fun a => tokenEditInsert_fillsHole hheld hd hhealth h hlist hrank hroom,
    tokenEditInsert_tucks hheld hd hhealth h hlist hrank hroom, tokenEditInsert_pleats hheld hd hhealth h hlist hrank hroom⟩

end Sys2Proof.Machine
end

section
/-! O38. The matcher keeps its table (R344, R345, Table 8.3): what the scrubber repairs or takes out of the searches, the spare in the
place of a failing tile, and a table that shrinks by a tile. -/

namespace Sys2Proof.Machine

/-! ### The scrubber -/

/-- A place of a tile is rewritten from the shadow copy, counted and reported (Table 8.3). -/
def State.tileRepaired (s : State) (a : Nat) : State :=
  let n := SMap.getD s.matcher.repairs (a / 16384) 0 + 1
  ({ s with matcher := { s.matcher with repairs := SMap.put s.matcher.repairs (a / 16384) n } }.bump Od.CNT_MATCH_REPAIRS).raise
    Ev.MATCH_SOFT_ERROR [a]

theorem State.tileRepaired_matcher (s : State) (a : Nat) :
    (s.tileRepaired a).matcher = { s.matcher with
      repairs := SMap.put s.matcher.repairs (a / 16384) (SMap.getD s.matcher.repairs (a / 16384) 0 + 1) } :=
  State.raise_matcher _ _ _

theorem counted_tileRepaired (s : State) (a : Nat) : counted Od.CNT_MATCH_REPAIRS s (s.tileRepaired a) :=
  ((eventFrame_raise _ _ _).toLinkFrame.val (by decide) (by decide)).trans (State.odGet_odPut_same _ 0 _ 0 _)

theorem reports_tileRepaired (s : State) (a : Nat) : Reports [.matcher] [Od.CNT_MATCH_REPAIRS] s (s.tileRepaired a) :=
  Reports.linkFrame ((((onlyGroups_setMatcher s _).only _ (by decide)).reports (by decide) (by decide)).trans
    ((only_bump _ Od.CNT_MATCH_REPAIRS 1 32 (by decide)).reports (by decide) (by decide))) (eventFrame_raise _ _ _).toLinkFrame

theorem State.tileFailing_failing (s : State) (k : Nat) : (s.tileFailing k).matcher.failing.contains k = true := by
  change List.contains (if _ then _ else _) k = true
  split
  · assumption
  · simp

section
variable {s : State} {a : Fin 131072}

theorem matchScrub_equal (s : State) (a : Fin 131072) : exec (.matchScrub a .equal) s = .next s := ite_self _

theorem matchScrub_shadowBad (s : State) (a : Fin 131072) : exec (.matchScrub a .shadowBad) s = .next s := ite_self _

variable (hlive : s.live = true) (hdoze : s.power.engine ≠ .doze) (ha : a.val < s.matchEntries)
include hlive hdoze ha

/-- A place that differs is repaired, and its tile fails when it does not read back (R344, Table 8.3). -/
theorem exec_matchScrub_tileBad (ok : Bool) :
    exec (.matchScrub a (.tileBad ok)) s = .next ((s.tileRepaired a).tileFailing (a.val / 16384))
      ∨ (ok = true ∧ exec (.matchScrub a (.tileBad ok)) s = .next (s.tileRepaired a)) := by
  have hexec : exec (.matchScrub a (.tileBad ok)) s = .next (if _ then _ else _) := if_pos ⟨hlive, hdoze, ha⟩
  rw [hexec]
  split
  case isTrue => exact .inl rfl
  case isFalse hreads => exact .inr ⟨by cases ok <;> simp_all, rfl⟩

theorem matchScrub_repairs (ok : Bool) : Answers (exec (.matchScrub a (.tileBad ok)) s) (fun t =>
    t.matcher.entries = s.matcher.entries ∧ counted Od.CNT_MATCH_REPAIRS s t
      ∧ SMap.getD t.matcher.repairs (a.val / 16384) 0 = SMap.getD s.matcher.repairs (a.val / 16384) 0 + 1
      ∧ (ok = false → t.matcher.failing.contains (a.val / 16384) = true) ∧ Reports [.matcher] [Od.CNT_MATCH_REPAIRS] s t) := by
  have hmatcher := s.tileRepaired_matcher a
  have hentries : (s.tileRepaired a).matcher.entries = s.matcher.entries := by rw [hmatcher]
  have hrepairs : SMap.getD (s.tileRepaired a).matcher.repairs (a.val / 16384) 0 = SMap.getD s.matcher.repairs (a.val / 16384) 0 + 1 := by
    rw [hmatcher]
    exact SMap.getD_put_same _ _ _ _
  have hreports := reports_tileRepaired s a
  obtain hexec | ⟨hok, hexec⟩ := exec_matchScrub_tileBad hlive hdoze ha ok
  · exact ⟨_, hexec, hentries, counted_tileRepaired s a, hrepairs, fun _ => State.tileFailing_failing _ _,
      hreports.trans (((onlyGroups_setMatcher _ _).only _ (by decide)).reports (by decide) (by decide))⟩
  · exact ⟨_, hexec, hentries, counted_tileRepaired s a, hrepairs, by simp [hok], hreports⟩

/-- An entry that is bad on both sides is out of the searches, and is reported (Table 8.3). -/
theorem matchScrub_loses {e : MatchEntry} (he : SMap.get? s.matcher.entries a.val = some e) :
    Answers (exec (.matchScrub a .bothBad) s) (fun t =>
      SMap.get? t.matcher.entries a.val = some { e with valid := false }
        ∧ (∀ b, b ≠ a.val → SMap.get? t.matcher.entries b = SMap.get? s.matcher.entries b) ∧ Reports [.matcher] [] s t) := by
  have hexec : exec (.matchScrub a .bothBad) s
      = .next ((s.setEntries (SMap.put s.matcher.entries a { e with valid := false })).raise Ev.MATCH_ENTRY_LOST [a.val]) := by
    refine (if_pos ⟨hlive, hdoze, ha⟩).trans ?_
    simp only [he]
    rfl
  refine ⟨_, hexec, ?_, fun b hb => ?_,
    (((onlyGroups_setEntries s _).only _ (by decide)).reports (by decide) (by decide)).linkFrame (eventFrame_raise _ _ _).toLinkFrame⟩
  · rw [State.raise_matcher]
    exact SMap.get?_put_same _ _ _
  · rw [State.raise_matcher]
    exact SMap.get?_put_other _ _ hb

end

/-! ### The spare tile -/

/-- The spare stands in the place of a logical tile, and is a spare no more (R344). -/
def State.spareMapped (s : State) (k : Nat) : State :=
  ((s.tileDone k).odPut 0 Od.MATCH_TILE_MAP (k + 1) s.spareTile).setVal Od.MATCH_SPARE 0

theorem State.spareMapped_tile (s : State) {k : Nat} (hk : k < 8) :
    (s.spareMapped k).odGet 0 Od.MATCH_TILE_MAP (k + 1) = s.spareTile :=
  (State.odGet_odPut_other _ _ (by decide) (by decide) (by decide) (by omega) (.inr (.inl (by decide)))).trans
    (State.odGet_odPut_same _ 0 _ _ _)

theorem State.spareMapped_tile_other (s : State) {j k : Nat} (hj : j < 8) (hk : k < 8) (hjk : j ≠ k) :
    (s.spareMapped k).odGet 0 Od.MATCH_TILE_MAP (j + 1) = s.odGet 0 Od.MATCH_TILE_MAP (j + 1) :=
  (State.odGet_odPut_other _ _ (by decide) (by decide) (by decide) (by omega) (.inr (.inl (by decide)))).trans
    (State.odGet_odPut_other _ _ (by decide) (by decide) (by omega) (by omega) (.inr (.inr (by omega))))

/-- Moves are counted, the event is raised and the conditions are evaluated; nothing else follows (R285, R304). -/
theorem reports_spareInto (s : State) (k : Nat) : Reports [.health] healthEntries (s.spareMapped k) (s.spareInto k) :=
  Reports.trans (Reports.linkFrame ((only_perf _ _ 85 16384).reports (by decide) (by decide)) (eventFrame_raise _ _ _).toLinkFrame)
    (reports_evaluateHealth _)

theorem matchTileSpared_spares {s : State} {k : Fin 8} (hlive : s.live = true) (hfails : s.matcher.failing.contains k.val = true)
    (hspare : s.val Od.MATCH_SPARE = 1) : Answers (exec (.matchTileSpared k) s) (fun t =>
      t.odGet 0 Od.MATCH_TILE_MAP (k.val + 1) = s.spareTile ∧ t.val Od.MATCH_SPARE = 0
        ∧ (∀ j, j < 8 → j ≠ k.val → t.odGet 0 Od.MATCH_TILE_MAP (j + 1) = s.odGet 0 Od.MATCH_TILE_MAP (j + 1))
        ∧ t.matcher.entries = s.matcher.entries ∧ t.matcher.failing.contains k.val = false) := by
  have hreports := reports_spareInto s k
  have hmap {j : Nat} (hj : j < 8) := hreports.odGet 0 (x := Od.MATCH_TILE_MAP) (j := j + 1) (by decide) (by omega) (by decide)
  have hmatcher : (s.spareInto k).matcher = (s.tileDone k).matcher := hreports.1 .matcher (by decide)
  refine ⟨_, if_pos ⟨hlive, hfails, hspare⟩, (hmap k.isLt).trans (s.spareMapped_tile k.isLt),
    (hreports.odGet 0 (by decide) (by decide) (by decide)).trans (State.val_setVal_same _ _ _),
    fun j hj hjk => (hmap hj).trans (s.spareMapped_tile_other hj k.isLt hjk), ?_, ?_⟩
  · rw [hmatcher]; rfl
  · rw [hmatcher]
    simp [State.tileDone]

/-! ### A tile that is lost -/

/-- The sub-indices from 1 on of an entry, set one after the other. -/
def State.odPutSubs (s : State) (x n : Nat) (f : Nat → Nat) : State := (List.range n).foldl (fun t i => t.odPut 0 x (i + 1) (f i)) s

theorem State.odPutSubs_succ (s : State) (x n : Nat) (f : Nat → Nat) :
    s.odPutSubs x (n + 1) f = (s.odPutSubs x n f).odPut 0 x (n + 1) (f n) := by
  simp [State.odPutSubs, List.range_succ]

theorem State.odGet_odPutSubs (s : State) {x n j : Nat} (f : Nat → Nat) (hx : x < 65536) (hn : n < 256) (hj : j < n) :
    (s.odPutSubs x n f).odGet 0 x (j + 1) = f j := by
  induction n with
  | zero => omega
  | succ n ih =>
    rw [State.odPutSubs_succ]
    by_cases he : j = n
    · subst he; exact State.odGet_odPut_same _ _ _ _ _
    · rw [State.odGet_odPut_other _ _ hx hx hn (by omega) (.inr (.inr (by omega))), ih (by omega) (by omega)]

theorem only_odPutSubs (s : State) {x n : Nat} (f : Nat → Nat) (hx : x < 65536) (hn : n < 256) :
    Only [.od] [x] s (s.odPutSubs x n f) := by
  induction n with
  | zero => exact .refl _ _ s
  | succ n ih =>
    rw [State.odPutSubs_succ]
    exact (ih (by omega)).trans ⟨onlyGroups_setOd _ _, onlyEntries_odPut _ 0 _ hx hn (by simp)⟩

/-- The physical tiles of the logical tiles but one, in their order (R345). -/
def State.tilesLeft (s : State) (k : Nat) : List Nat :=
  ([1, 2, 3, 4, 5, 6, 7, 8].filter (fun i => i != k + 1)).map (fun i => s.odGet 0 Od.MATCH_TILE_MAP i)

theorem State.tilesLeft_below (s : State) {j k : Nat} (hk : k < 8) (hj : j < k) :
    (s.tilesLeft k).getD j 0xFF = s.odGet 0 Od.MATCH_TILE_MAP (j + 1) := by
  have hkept : ∀ (k : Fin 8) (j : Fin k.val), ([1, 2, 3, 4, 5, 6, 7, 8].filter (fun i => i != k.val + 1))[j.val]? = some (j.val + 1) := by
    decide
  simp [State.tilesLeft, hkept ⟨k, hk⟩ ⟨j, hj⟩]

theorem State.tilesLeft_last (s : State) {k : Nat} (hk : k < 8) : (s.tilesLeft k).getD 7 0xFF = 0xFF := by
  have hlast : ∀ k : Fin 8, ([1, 2, 3, 4, 5, 6, 7, 8].filter (fun i => i != k.val + 1))[7]? = none := by decide
  simp [State.tilesLeft, hlast ⟨k, hk⟩]

/-- The tiles that remain carry the lowest logical numbers (R345). -/
def State.tileUnmapped (s : State) (k : Nat) : State :=
  (s.tileDone k).odPutSubs Od.MATCH_TILE_MAP 8 (fun i => (s.tilesLeft k).getD i 0xFF)

theorem only_tileUnmapped (s : State) (k : Nat) : Only [.matcher, .od] [Od.MATCH_TILE_MAP] s (s.tileUnmapped k) :=
  (((onlyGroups_setMatcher s _).only _ (by decide)).mono (by decide)).trans
    ((only_odPutSubs _ _ (by decide) (by decide)).mono (by decide))

/-- A tile is noted as lost, and the tiles after it that fail have the next lower numbers. -/
def State.tileNoted (s : State) (k : Nat) : State :=
  { s with health := { s.health with tileLost := k :: s.health.tileLost }
           matcher := { s.matcher with failing := s.matcher.failing.map (fun i => if k < i then i - 1 else i) } }

theorem onlyGroups_tileNoted (s : State) (k : Nat) : OnlyGroups [.health, .matcher] s (s.tileNoted k) := by
  intro g hg; cases g <;> simp_all [State.agree, State.tileNoted]

/-- The bases and sizes of lists, set (R345). -/
def State.listsPlaced (s : State) (ls : List (Nat × Nat × Nat)) : State :=
  ls.foldl (fun (t : State) x => (t.odPut x.1 Od.LIST_BASE 0 x.2.1).odPut x.1 Od.LIST_SIZE 0 x.2.2) s

theorem only_listsPlaced (s : State) (ls : List (Nat × Nat × Nat)) : Only [.od] [Od.LIST_BASE, Od.LIST_SIZE] s (s.listsPlaced ls) := by
  have hput (t : State) (l v : Nat) {x : Nat} (hx : x < 65536) (hm : x ∈ [Od.LIST_BASE, Od.LIST_SIZE]) :
      Only [.od] [Od.LIST_BASE, Od.LIST_SIZE] t (t.odPut l x 0 v) :=
    ⟨onlyGroups_setOd t _, onlyEntries_odPut t l v hx (by decide) hm⟩
  have hlist (t : State) (x : Nat × Nat × Nat) := (hput t x.1 x.2.1 (x := Od.LIST_BASE) (by decide) (by decide)).trans
    (hput _ x.1 x.2.2 (x := Od.LIST_SIZE) (by decide) (by decide))
  exact ⟨.foldl (fun t x => (hlist t x).1) ls s, .foldl (fun t x => (hlist t x).2) ls s⟩

theorem onlyGroups_layoutAll (s : State) : OnlyGroups [.matcher, .seq] s s.layoutAll := by
  intro g hg; cases g <;> simp_all [State.agree, State.layoutAll]

/-- The tile noted, and the lists placed in the addresses that are left (R345). -/
def State.listsFitted (s : State) (k : Nat) : State :=
  ((s.tileUnmapped k).tileNoted k).listsPlaced ((s.tileUnmapped k).relayout ((s.tileUnmapped k).tileNoted k).matchEntries)

/-- The table without a tile: its lists fitted and laid out anew (R345). -/
def State.tableShrunk (s : State) (k : Nat) : State := (s.listsFitted k).layoutAll

theorem only_tableShrunk (s : State) (k : Nat) :
    Only [.matcher, .od, .health, .seq] [Od.LIST_BASE, Od.LIST_SIZE] (s.tileUnmapped k) (s.tableShrunk k) :=
  ((((onlyGroups_tileNoted _ k).only _ (by decide)).mono (by decide)).trans ((only_listsPlaced _ _).mono (by decide))).trans
    (((onlyGroups_layoutAll _).only _ (by decide)).mono (by decide))

theorem State.tableShrunk_tileLost (s : State) (k : Nat) : (s.tableShrunk k).health.tileLost.contains k = true := by
  have hkept : (s.tableShrunk k).health = ((s.tileUnmapped k).tileNoted k).health :=
    (onlyGroups_layoutAll _ .health (by decide)).trans ((only_listsPlaced _ _).1 .health (by decide))
  rw [hkept]
  simp [State.tileNoted]

/-- The two counts of a tile that is lost (R345). -/
def State.dropCounted (s : State) (n : Nat) : State := (s.bump Od.MATCH_DROPPED n).bump Od.MATCH_GENERATION

@[simp] theorem State.dropCounted_health (s : State) (n : Nat) : (s.dropCounted n).health = s.health := rfl

theorem only_dropCounted (s : State) (n : Nat) : Only [.od] [Od.MATCH_DROPPED, Od.MATCH_GENERATION] s (s.dropCounted n) :=
  ⟨(onlyGroups_setOd s _).trans (onlyGroups_setOd _ _),
    ((onlyEntries_bump s _ n 32 (by decide)).mono (by decide)).trans ((onlyEntries_bump _ _ 1 32 (by decide)).mono (by decide))⟩

theorem counted_dropCounted (s : State) (n : Nat) : counted Od.MATCH_GENERATION s (s.dropCounted n) := by
  refine (State.odGet_odPut_same _ 0 _ 0 _).trans ?_
  rw [onlyEntries_bump s Od.MATCH_DROPPED n 32 (by decide) 0 _ 0 (by decide) (by decide) (by decide)]

/-- The table shrunk, and its counts (R345). -/
def State.tileDropped (s : State) (k : Nat) : State :=
  (s.tableShrunk k).dropCounted ((s.listsFitted k).matcher.entries.length - (s.tableShrunk k).matcher.entries.length)

/-- After the counts the loss is reported and the conditions are evaluated (R345). -/
theorem State.loseTile_eq (s : State) (k : Nat) :
    s.loseTile k = ((s.tileDropped k).raise Ev.MATCH_CAPACITY_LOST [(s.tileDropped k).val Od.MATCH_DROPPED]).evaluateHealth := by
  unfold State.loseTile State.tileDropped State.dropCounted State.tableShrunk State.listsFitted State.tileNoted State.listsPlaced
    State.tileUnmapped State.odPutSubs State.tilesLeft
  with_reducible rfl

theorem reports_loseTile (s : State) (k : Nat) : Reports [.health] healthEntries (s.tileDropped k) (s.loseTile k) := by
  rw [State.loseTile_eq]
  exact Reports.trans (Reports.linkFrame (.refl _ _ _) (eventFrame_raise _ _ _).toLinkFrame) (reports_evaluateHealth _)

theorem only_tileDropped (s : State) (k : Nat) :
    Only [.matcher, .od, .health, .seq] [Od.LIST_BASE, Od.LIST_SIZE, Od.MATCH_DROPPED, Od.MATCH_GENERATION] (s.tileUnmapped k)
      (s.tileDropped k) := by
  obtain ⟨hgroups, hentries⟩ := only_tableShrunk s k
  obtain ⟨kgroups, kentries⟩ : Only _ _ (s.tableShrunk k) (s.tileDropped k) := only_dropCounted _ _
  exact ⟨hgroups.trans (kgroups.mono (by decide)), (hentries.mono (by decide)).trans (kentries.mono (by decide))⟩

theorem State.tileDropped_tile (s : State) (k : Nat) {j : Nat} (hj : j < 8) :
    (s.tileDropped k).odGet 0 Od.MATCH_TILE_MAP (j + 1) = (s.tilesLeft k).getD j 0xFF :=
  ((only_tileDropped s k).2 0 _ _ (by decide) (by omega) (by decide)).trans
    (State.odGet_odPutSubs _ _ (by decide) (by decide) hj)

theorem counted_tileDropped (s : State) (k : Nat) : counted Od.MATCH_GENERATION s (s.tileDropped k) := by
  have hcounted : counted Od.MATCH_GENERATION (s.tableShrunk k) (s.tileDropped k) := counted_dropCounted _ _
  rwa [counted, (only_tableShrunk s k).2 0 _ 0 (by decide) (by decide) (by decide),
    (only_tileUnmapped s k).2 0 _ 0 (by decide) (by decide) (by decide)] at hcounted

theorem State.loseTile_kv (s : State) (k : Nat) : (s.loseTile k).kv = s.kv := by
  rw [(reports_loseTile s k).1.kv_eq (by decide), (only_tileDropped s k).1.kv_eq (by decide),
    (only_tileUnmapped s k).1.kv_eq (by decide)]

theorem State.loseTile_tileLost (s : State) (k : Nat) : (s.loseTile k).health.tileLost.contains k = true := by
  rw [State.loseTile_eq, State.evaluateHealth_tileLost, State.raise_health, State.tileDropped, State.dropCounted_health]
  exact s.tableShrunk_tileLost k

theorem matchCapacityLost_shrinks {s : State} {k : Fin 8} (hlive : s.live = true) (hfails : s.matcher.failing.contains k.val = true)
    (hspare : s.val Od.MATCH_SPARE = 0) (hk : 16384 * k.val < s.matchEntries) : Answers (exec (.matchCapacityLost k) s) (fun t =>
      t.odGet 0 Od.MATCH_TILE_MAP 8 = 0xFF ∧ counted Od.MATCH_GENERATION s t ∧ t.health.tileLost.contains k.val = true
        ∧ (∀ j, j < k.val → t.odGet 0 Od.MATCH_TILE_MAP (j + 1) = s.odGet 0 Od.MATCH_TILE_MAP (j + 1)) ∧ t.kv = s.kv) := by
  have hreports := reports_loseTile s k
  have hmap {j : Nat} (hj : j < 8) : (s.loseTile k).odGet 0 Od.MATCH_TILE_MAP (j + 1) = (s.tilesLeft k).getD j 0xFF :=
    (hreports.odGet 0 (by decide) (by omega) (by decide)).trans (s.tileDropped_tile k hj)
  exact ⟨_, if_pos ⟨hlive, hfails, hspare, hk⟩, (hmap (by decide)).trans (s.tilesLeft_last k.isLt),
    (hreports.odGet 0 (by decide) (by decide) (by decide)).trans (counted_tileDropped s k), s.loseTile_tileLost k,
    fun j hj => (hmap (by omega)).trans (s.tilesLeft_below k.isLt hj), s.loseTile_kv k⟩

/-- Settles O38: each clause is the lemma above about its command. -/
theorem matcherKeepsItsTable : Obligations.MatcherKeepsItsTable := by
  unfold Obligations.MatcherKeepsItsTable
  intro s hlive
  refine ⟨fun a ha => ⟨matchScrub_equal s a, matchScrub_shadowBad s a, fun ok hdoze => matchScrub_repairs hlive hdoze ha ok,
      fun e hdoze he => matchScrub_loses hlive hdoze ha he⟩,
    fun k hfails hspare => matchTileSpared_spares hlive hfails hspare,
    fun k hfails hspare hk => matchCapacityLost_shrinks hlive hfails hspare hk⟩

end Sys2Proof.Machine
end
